-- ==== Sys2Proof/Word.lean ====
section
/-! DEFINITION. Word types of the Celpra 4410: what the manual treats as bits (00_scope, table 0-1; 11, R187). -/

namespace Sys2Proof

/-- One byte of a frame or one pixel level, 0..255. -/
abbrev Byte := BitVec 8

/-- Line tags, panel sequences and 16-bit parameters. -/
abbrev Word16 := BitVec 16

/-- Conveyor positions and recipe IDs. -/
abbrev Word32 := BitVec 32

end Sys2Proof
end

