-- ==== Sys2Proof/Syntax.lean ====
section
/-! DEFINITION. The commands of the block: one constructor of `Instr` per row of spec/opcode_table.json, and the
names and records their operands use. An order carries its parameters at the widths of Table 11-2, so that a
parameter outside its range can be sent and is refused (R186). -/

namespace Sys2Proof

/-- The two lanes (00, section 0.7). -/
inductive LaneId | a | b
  deriving DecidableEq, Repr

/-- The two ports of a lane by their local numbers (00, section 0.3). -/
inductive LocalPort | p0 | p1
  deriving DecidableEq, Repr

/-- A camera port: C0 is lane A local 0, C1 lane A local 1, C2 lane B local 0, C3 lane B local 1 (00, section 0.3). -/
structure PortId where
  lane : LaneId
  loc : LocalPort
  deriving DecidableEq, Repr

/-- The three lights, always taken in this order, the sequence order (00, section 0.7). -/
inductive Phase | top | ring | axial
  deriving DecidableEq, Repr

/-- The recipe header as stored, widths of Table 11-7 (R3, R190). -/
structure Header where
  recipeId : Word32
  panelLength : Word16
  zone : Word16
  linePitch : Byte
  phaseSet : Byte
  flashTop : Byte
  flashRing : Byte
  flashAxial : Byte
  portSet : Byte
  jointCount : Word16
  fiducialCount : Byte
  ruleCount : Byte
  marginalLimit : Byte
  spreadTolerance : Byte
  deriving DecidableEq, Repr

/-- A fiducial entry as stored (R4, Table 11-7). -/
structure FiducialEntry where
  port : Byte
  phase : Byte
  column : Word16
  line : Word16
  width : Byte
  height : Byte
  bandLow : Byte
  bandHigh : Byte
  areaMin : Word16
  areaMax : Word16
  deriving DecidableEq, Repr

/-- A joint entry as stored (R5, Table 11-7). -/
structure JointEntry where
  component : Word16
  port : Byte
  x : Word16
  y : Word16
  width : Byte
  height : Byte
  rule : Byte
  phases : Byte
  crop : Byte
  deriving DecidableEq, Repr

/-- One phase's criteria of a rule (R6, Table 11-7). -/
structure Criteria where
  used : Byte
  bandLow : Byte
  bandHigh : Byte
  fillMin : Byte
  fillMax : Byte
  spanLimit : Byte
  meanLow : Byte
  meanHigh : Byte
  deriving DecidableEq, Repr

/-- A rule as stored: the margin triple and the criteria of the three phases (R6, Table 11-7). -/
structure RuleEntry where
  fillMargin : Byte
  spanMargin : Byte
  meanMargin : Byte
  top : Criteria
  ring : Criteria
  axial : Criteria
  deriving DecidableEq, Repr

/-- The seven settings of Configure Lane (Figure 2-3), at the widths of Table 11-2. -/
structure LaneSettings where
  leadIn : Word16
  edgeGuard : Word16
  reverseLimit : Word16
  gateDistance : BitVec 24
  warmupTime : Word16
  idleTimeout : Byte
  settleReload : Byte
  deriving DecidableEq, Repr

/-- An order with its parameters as Table 11-2 lays them out. `malformed` is a listed order whose payload length
differs from its layout, and `unknown` a code that Table 11-2 does not list (R186). -/
inductive Order
  | openSlot (slot : Byte)
  | writeHeader (slot : Byte) (header : Header)
  | writeFiducials (slot start count : Byte) (entries : List FiducialEntry)
  | writeJoints (slot : Byte) (start : Word16) (count : Byte) (entries : List JointEntry)
  | writeRules (slot start count : Byte) (entries : List RuleEntry)
  | sealSlot (slot : Byte)
  | unsealSlot (slot : Byte)
  | eraseSlot (slot : Byte)
  | readSlot (slot : Byte)
  | readFiducials (slot start count : Byte)
  | readJoints (slot : Byte) (start : Word16) (count : Byte)
  | readRules (slot start count : Byte)
  | bindRecipe (lane slot : Byte)
  | configureLane (lane : Byte) (settings : LaneSettings)
  | configurePort (port noise check : Byte)
  | loadPattern (port : Byte) (offset count : Word16) (pixels : List Byte)
  | readPattern (port : Byte) (offset count : Word16)
  | setInjection (port mode : Byte) (n : Word16)
  | readPort (port : Byte)
  | readWindows (lane : Byte) (start : Word16) (count : Byte)
  | setReportMode (lane mode detail : Byte)
  | readJudgement
  | enableLane (lane : Byte)
  | armLane (lane : Byte)
  | disableLane (lane : Byte)
  | readLane (lane : Byte)
  | readPanel (lane context : Byte)
  | setGateMode (lane mode : Byte)
  | setFaultResponse (lane kind override hold : Byte)
  | releaseForce (lane : Byte)
  | readGate (lane : Byte)
  | identify
  | resetDevice
  | configureDevice (stallLimit : Word16)
  | readTrunk
  | readConditions (set : Byte)
  | clearConditions (set : Byte) (list : Word16)
  | setMask (set : Byte) (list : Word16)
  | malformed (code : Byte)
  | unknown (code : Byte)
  deriving DecidableEq, Repr

/-- A word of the trunk link: a data byte or one of the two control words (section 11.1). -/
inductive LinkWord
  | sync
  | delimiter
  | data (b : Byte)
  deriving DecidableEq, Repr

/-- The classes of a received camera word (Figure 3-1, R189). -/
inductive CamWord
  | fill
  | start (lineTag : Word16) (phase : Phase)
  | data (pixel : Byte)
  | lineEnd (check : Word16)
  | violation
  deriving DecidableEq, Repr

/-- Why an inbound frame is discarded (the four cases of R164; the last case by which control word broke it). -/
inductive FrameDamage
  | badCheck
  | badLength
  | wrongKind
  | brokenBySync
  | brokenByDelimiter
  deriving DecidableEq, Repr

/-- The commands: one constructor per row of the table. An order row carries the order's tag and parameters; an
event row carries its lane or port and what the event carries. -/
inductive Instr
  | powerOn
  | resetPinAssert
  | resetPinRelease
  | openSlot (tag slot : Byte)
  | writeHeader (tag slot : Byte) (header : Header)
  | writeFiducials (tag slot start count : Byte) (entries : List FiducialEntry)
  | writeJoints (tag slot : Byte) (start : Word16) (count : Byte) (entries : List JointEntry)
  | writeRules (tag slot start count : Byte) (entries : List RuleEntry)
  | sealSlot (tag slot : Byte)
  | validationComplete
  | unsealSlot (tag slot : Byte)
  | eraseSlot (tag slot : Byte)
  | readSlot (tag slot : Byte)
  | readFiducials (tag slot start count : Byte)
  | readJoints (tag slot : Byte) (start : Word16) (count : Byte)
  | readRules (tag slot start count : Byte)
  | bindRecipe (tag lane slot : Byte)
  | configureLane (tag lane : Byte) (settings : LaneSettings)
  | encoderForwardCount (lane : LaneId)
  | encoderReverseCount (lane : LaneId)
  | edgeRise (lane : LaneId)
  | flashEnd (lane : LaneId)
  | settleExpiry (lane : LaneId)
  | warmupExpiry (lane : LaneId)
  | idleTimerExpiry (lane : LaneId)
  | enableLane (tag lane : Byte)
  | armLane (tag lane : Byte)
  | disableLane (tag lane : Byte)
  | readLane (tag lane : Byte)
  | readPanel (tag lane context : Byte)
  | camSdInactive (port : PortId)
  | camSdActive (port : PortId)
  | fillWord (port : PortId)
  | startWord (port : PortId) (lineTag : Word16) (phase : Phase)
  | dataWord (port : PortId) (pixel : Byte)
  | endWord (port : PortId) (check : Word16)
  | violationWord (port : PortId) (word : BitVec 24)
  | configurePort (tag port noise check : Byte)
  | loadPattern (tag port : Byte) (offset count : Word16) (pixels : List Byte)
  | readPattern (tag port : Byte) (offset count : Word16)
  | setInjection (tag port mode : Byte) (n : Word16)
  | readPort (tag port : Byte)
  | itemTake (lane : LaneId)
  | evaluationTake
  | evaluationComplete
  | setReportMode (tag lane mode detail : Byte)
  | readJudgement (tag : Byte)
  | readWindows (tag lane : Byte) (start : Word16) (count : Byte)
  | setGateMode (tag lane mode : Byte)
  | setFaultResponse (tag lane kind override hold : Byte)
  | releaseForce (tag lane : Byte)
  | readGate (tag lane : Byte)
  | trkSdInactive
  | trkSdActive
  | trainingWord (word : LinkWord)
  | frameError (damage : FrameDamage)
  | creditFrame (grant : Byte)
  | orderFrame (tag code : Byte) (params : List Byte)
  | unknownOrder (tag code : Byte)
  | frameBegin
  | frameComplete
  | stallTimerExpiry
  | identify (tag : Byte)
  | readTrunk (tag : Byte)
  | configureDevice (tag : Byte) (stallLimit : Word16)
  | resetDevice (tag : Byte)
  | readConditions (tag set : Byte)
  | clearConditions (tag set : Byte) (list : Word16)
  | setMask (tag set : Byte) (list : Word16)
  deriving DecidableEq, Repr

end Sys2Proof
end

