-- ==== Sys2Proof/Decode.lean ====
section
/-! DEFINITION. What the part decodes from bits: camera words (R189), order payloads (R186, Tables 11-2 and 11-7),
and the host's `decodeTableWord` (no row of the table gives bits). -/

namespace Sys2Proof

/-- No row of spec/opcode_table.json gives bits, so no word spells a command. -/
def decodeTableWord (_nbits _w : Nat) : Option Instr := none

/-- The code of a phase in a single field: Top 1, Ring 2, Axial 3 (chapter 11, opening). -/
def Phase.code : Phase → Byte
  | .top => 1
  | .ring => 2
  | .axial => 3

/-- The phase a single field names, if it names one (chapter 11, opening). -/
def phaseOfCode (b : Byte) : Option Phase :=
  if b = 1 then some .top else if b = 2 then some .ring else if b = 3 then some .axial else none

/-- The class of a received 24-bit camera word: class code in the top four bits, the zero bits of Table 11-6
checked; every other word is a Violation (R189). -/
def decodeCamWord (w : BitVec 24) : CamWord :=
  let cls := w.extractLsb' 20 4
  if cls = 0x0 ∧ w.extractLsb' 0 20 = 0 then .fill
  else if cls = 0x5 ∧ w.extractLsb' 18 2 = 0 then
    match phaseOfCode ((w.extractLsb' 16 2).setWidth 8) with
    | some p => .start (w.extractLsb' 0 16) p
    | none => .violation
  else if cls = 0x9 ∧ w.extractLsb' 8 12 = 0 then .data (w.extractLsb' 0 8)
  else if cls = 0xC ∧ w.extractLsb' 16 4 = 0 then .lineEnd (w.extractLsb' 0 16)
  else .violation

/-- The trigger word of a (tag, phase): class 3H, phase in bits 17..16, tag in bits 15..0 (Table 11-6). -/
def triggerWord (lineTag : Word16) (p : Phase) : BitVec 24 :=
  (0x3 : BitVec 4) ++ (0 : BitVec 2) ++ (p.code.setWidth 2 : BitVec 2) ++ lineTag

/-- The order code of Table 11-2. -/
def Order.code : Order → Byte
  | .openSlot .. => 0x10
  | .writeHeader .. => 0x11
  | .writeFiducials .. => 0x12
  | .writeJoints .. => 0x13
  | .writeRules .. => 0x14
  | .sealSlot .. => 0x15
  | .unsealSlot .. => 0x16
  | .eraseSlot .. => 0x17
  | .readSlot .. => 0x18
  | .readFiducials .. => 0x19
  | .readJoints .. => 0x1A
  | .readRules .. => 0x1B
  | .bindRecipe .. => 0x1C
  | .configureLane .. => 0x20
  | .configurePort .. => 0x30
  | .loadPattern .. => 0x31
  | .readPattern .. => 0x32
  | .setInjection .. => 0x33
  | .readPort .. => 0x34
  | .readWindows .. => 0x40
  | .setReportMode .. => 0x48
  | .readJudgement => 0x49
  | .enableLane .. => 0x50
  | .armLane .. => 0x51
  | .disableLane .. => 0x52
  | .readLane .. => 0x53
  | .readPanel .. => 0x54
  | .setGateMode .. => 0x60
  | .setFaultResponse .. => 0x61
  | .releaseForce .. => 0x62
  | .readGate .. => 0x63
  | .identify => 0x70
  | .resetDevice => 0x71
  | .configureDevice .. => 0x72
  | .readTrunk => 0x73
  | .readConditions .. => 0x78
  | .clearConditions .. => 0x79
  | .setMask .. => 0x7A
  | .malformed c => c
  | .unknown c => c

/-- Two bytes, most significant first (chapter 11, opening). -/
def word16 (hi lo : Byte) : Word16 := hi ++ lo

/-- Four bytes, most significant first. -/
def word32 (b3 b2 b1 b0 : Byte) : Word32 := b3 ++ b2 ++ b1 ++ b0

/-- A header of 20 bytes (Table 11-7). -/
def parseHeader : List Byte → Option Header
  | [i3, i2, i1, i0, l1, l0, z1, z0, pitch, phases, ft, fr, fa, ports, j1, j0, fc, rc, ml, st] =>
    some { recipeId := word32 i3 i2 i1 i0, panelLength := word16 l1 l0, zone := word16 z1 z0, linePitch := pitch,
           phaseSet := phases, flashTop := ft, flashRing := fr, flashAxial := fa, portSet := ports,
           jointCount := word16 j1 j0, fiducialCount := fc, ruleCount := rc, marginalLimit := ml,
           spreadTolerance := st }
  | _ => none

/-- A fiducial entry of 14 bytes (Table 11-7). -/
def parseFiducial : List Byte → Option FiducialEntry
  | [port, phase, c1, c0, l1, l0, w, h, lo, hi, n1, n0, x1, x0] =>
    some { port := port, phase := phase, column := word16 c1 c0, line := word16 l1 l0, width := w, height := h,
           bandLow := lo, bandHigh := hi, areaMin := word16 n1 n0, areaMax := word16 x1 x0 }
  | _ => none

/-- A joint entry of 12 bytes (Table 11-7). -/
def parseJoint : List Byte → Option JointEntry
  | [c1, c0, port, x1, x0, y1, y0, w, h, rule, phases, crop] =>
    some { component := word16 c1 c0, port := port, x := word16 x1 x0, y := word16 y1 y0, width := w, height := h,
           rule := rule, phases := phases, crop := crop }
  | _ => none

/-- One phase's criteria, 8 bytes (Table 11-7). -/
def parseCriteria : List Byte → Option Criteria
  | [u, lo, hi, fn, fx, sp, ml, mh] =>
    some { used := u, bandLow := lo, bandHigh := hi, fillMin := fn, fillMax := fx, spanLimit := sp,
           meanLow := ml, meanHigh := mh }
  | _ => none

/-- A rule of 27 bytes: the margins, then Top, Ring and Axial in turn (Table 11-7). -/
def parseRule (bs : List Byte) : Option RuleEntry :=
  match bs.take 3, parseCriteria ((bs.drop 3).take 8), parseCriteria ((bs.drop 11).take 8),
    parseCriteria (bs.drop 19) with
  | [fm, sm, mm], some t, some r, some a =>
    some { fillMargin := fm, spanMargin := sm, meanMargin := mm, top := t, ring := r, axial := a }
  | _, _, _, _ => none

/-- Exactly `n` entries of `width` bytes each, or none where the bytes do not make exactly that many (R186). -/
def parseEntries {α : Type} (parse : List Byte → Option α) (width : Nat) : Nat → List Byte → Option (List α)
  | 0, bs => if bs = [] then some [] else none
  | n + 1, bs =>
    match parse (bs.take width), parseEntries parse width n (bs.drop width) with
    | some e, some es => some (e :: es)
    | _, _ => none

/-- The order an Order payload carries: an unlisted code is `unknown` whatever its length, a listed code with a
length other than its layout's is `malformed` (R186, Table 11-2). -/
def parseOrder (code : Byte) (ps : List Byte) : Order :=
  let bad : Order := .malformed code
  if code = 0x10 then match ps with | [s] => .openSlot s | _ => bad
  else if code = 0x11 then
    match ps with
    | s :: h => match parseHeader h with | some h => .writeHeader s h | none => bad
    | [] => bad
  else if code = 0x12 then
    match ps with
    | s :: st :: n :: es => match parseEntries parseFiducial 14 n.toNat es with
      | some es => .writeFiducials s st n es
      | none => bad
    | _ => bad
  else if code = 0x13 then
    match ps with
    | s :: s1 :: s0 :: n :: es => match parseEntries parseJoint 12 n.toNat es with
      | some es => .writeJoints s (word16 s1 s0) n es
      | none => bad
    | _ => bad
  else if code = 0x14 then
    match ps with
    | s :: st :: n :: es => match parseEntries parseRule 27 n.toNat es with
      | some es => .writeRules s st n es
      | none => bad
    | _ => bad
  else if code = 0x15 then match ps with | [s] => .sealSlot s | _ => bad
  else if code = 0x16 then match ps with | [s] => .unsealSlot s | _ => bad
  else if code = 0x17 then match ps with | [s] => .eraseSlot s | _ => bad
  else if code = 0x18 then match ps with | [s] => .readSlot s | _ => bad
  else if code = 0x19 then match ps with | [s, st, n] => .readFiducials s st n | _ => bad
  else if code = 0x1A then match ps with | [s, s1, s0, n] => .readJoints s (word16 s1 s0) n | _ => bad
  else if code = 0x1B then match ps with | [s, st, n] => .readRules s st n | _ => bad
  else if code = 0x1C then match ps with | [l, s] => .bindRecipe l s | _ => bad
  else if code = 0x20 then
    match ps with
    | [l, a1, a0, e1, e0, r1, r0, g2, g1, g0, w1, w0, idle, reload] =>
      .configureLane l { leadIn := word16 a1 a0, edgeGuard := word16 e1 e0, reverseLimit := word16 r1 r0,
                         gateDistance := g2 ++ g1 ++ g0, warmupTime := word16 w1 w0, idleTimeout := idle,
                         settleReload := reload }
    | _ => bad
  else if code = 0x30 then match ps with | [p, n, c] => .configurePort p n c | _ => bad
  else if code = 0x31 then
    match ps with
    | p :: o1 :: o0 :: n1 :: n0 :: px =>
      if px.length = (word16 n1 n0).toNat then .loadPattern p (word16 o1 o0) (word16 n1 n0) px else bad
    | _ => bad
  else if code = 0x32 then
    match ps with | [p, o1, o0, n1, n0] => .readPattern p (word16 o1 o0) (word16 n1 n0) | _ => bad
  else if code = 0x33 then match ps with | [p, m, n1, n0] => .setInjection p m (word16 n1 n0) | _ => bad
  else if code = 0x34 then match ps with | [p] => .readPort p | _ => bad
  else if code = 0x40 then match ps with | [l, s1, s0, n] => .readWindows l (word16 s1 s0) n | _ => bad
  else if code = 0x48 then match ps with | [l, m, d] => .setReportMode l m d | _ => bad
  else if code = 0x49 then match ps with | [] => .readJudgement | _ => bad
  else if code = 0x50 then match ps with | [l] => .enableLane l | _ => bad
  else if code = 0x51 then match ps with | [l] => .armLane l | _ => bad
  else if code = 0x52 then match ps with | [l] => .disableLane l | _ => bad
  else if code = 0x53 then match ps with | [l] => .readLane l | _ => bad
  else if code = 0x54 then match ps with | [l, c] => .readPanel l c | _ => bad
  else if code = 0x60 then match ps with | [l, m] => .setGateMode l m | _ => bad
  else if code = 0x61 then match ps with | [l, k, o, h] => .setFaultResponse l k o h | _ => bad
  else if code = 0x62 then match ps with | [l] => .releaseForce l | _ => bad
  else if code = 0x63 then match ps with | [l] => .readGate l | _ => bad
  else if code = 0x70 then match ps with | [] => .identify | _ => bad
  else if code = 0x71 then match ps with | [] => .resetDevice | _ => bad
  else if code = 0x72 then match ps with | [l1, l0] => .configureDevice (word16 l1 l0) | _ => bad
  else if code = 0x73 then match ps with | [] => .readTrunk | _ => bad
  else if code = 0x78 then match ps with | [s] => .readConditions s | _ => bad
  else if code = 0x79 then match ps with | [s, l1, l0] => .clearConditions s (word16 l1 l0) | _ => bad
  else if code = 0x7A then match ps with | [s, l1, l0] => .setMask s (word16 l1 l0) | _ => bad
  else .unknown code

/-- Whether Table 11-2 lists an order code (R186): exactly when the code parses to something else than unknown. -/
def listedCode (code : Byte) : Bool :=
  decide (code ∈ ([0x10, 0x11, 0x12, 0x13, 0x14, 0x15, 0x16, 0x17, 0x18, 0x19, 0x1A, 0x1B, 0x1C, 0x20, 0x30, 0x31,
    0x32, 0x33, 0x34, 0x40, 0x48, 0x49, 0x50, 0x51, 0x52, 0x53, 0x54, 0x60, 0x61, 0x62, 0x63, 0x70, 0x71, 0x72,
    0x73, 0x78, 0x79, 0x7A] : List Byte))

end Sys2Proof
end

