-- ==== Sys2Proof/Config.lean ====
section
/-! DEFINITION. What the manual leaves open and the model keeps open. -/

namespace Sys2Proof

/-- Where a gate arrival falls when it is due at the same rise of H as a line issue or a scan start. R34 orders the
line issue before the scan start and says nothing of the gate arrival. -/
inductive GateOrder
  | beforeLine
  | betweenLineAndScan
  | afterScan
  deriving DecidableEq, Repr, Inhabited

/-- FREE VALUE (log 10): the place of the gate arrival at the `n`-th tie. No body: nothing evaluates it. -/
opaque Config.gateOrder : Nat → GateOrder

end Sys2Proof
end

