-- ==== Sys2Proof/Machine/State.lean ====
section
/-! DEFINITION. The state of the part, all of it plain data, and its value right after the release of the reset pin
(R175). The part itself is `Device`; `State` adds the queue of waiting commands. Every range is the manual's. -/

namespace Sys2Proof.Machine

/-! ## Containers -/

/-- One thing for each lane. -/
structure PerLane (α : Type) where
  a : α
  b : α
  deriving DecidableEq, Repr

/-- One thing for each local port. -/
structure PerPort (α : Type) where
  p0 : α
  p1 : α
  deriving DecidableEq, Repr

/-- One thing for each phase. -/
structure PerPhase (α : Type) where
  top : α
  ring : α
  axial : α
  deriving DecidableEq, Repr

/-- One thing for each of four numbers 0..3. -/
structure Quad (α : Type) where
  x0 : α
  x1 : α
  x2 : α
  x3 : α
  deriving DecidableEq, Repr

/-- An addressed pixel buffer: (address, level) pairs, addresses strictly rising, none equal to zero, which is
what an unlisted pixel reads as (R63, R99; log 19). -/
abbrev Memory := List Host.Cell

/-- A table of recipe entries by index, indexes strictly rising; an entry present is an entry written (log 13). -/
abbrev Table (α : Type) := List (Nat × α)

/-! ## Recipe store (chapter 1) -/

/-- The states of a recipe slot (Figure 1-1). -/
inductive SlotState | empty | loading | validating | sealed
  deriving DecidableEq, Repr

/-- The four tables a failure detail can name (R17). -/
inductive FailTable | header | fiducial | rule | joint
  deriving DecidableEq, Repr

/-- The names of the checks of Tables 1-5 to 1-8. -/
inductive Check
  | unwritten | panelLength | zoneSize | zoneFit | linePitch | phaseSet | flashTime | portSet | jointCount
  | fiducialCount | ruleCount | spreadTolerance
  | port | phase | boxSize | boxPlace | band | area
  | usedMark | noPhase | margins | fill | span | mean
  | component | size | columns | lines | order | ruleIndex | phases | ruleAgreement | crop
  deriving DecidableEq, Repr

/-- The failure detail of a validation (R17). -/
structure Failure where
  table : FailTable
  index : Nat
  check : Check
  phase : Option Phase
  deriving DecidableEq, Repr

/-- A recipe slot (R1). The written mark of an entry is its presence (log 13); the reference marks are computed
from the lanes (R24, log 11). -/
structure Slot where
  state : SlotState
  header : Option Header
  fiducials : Table FiducialEntry
  joints : Table JointEntry
  rules : Table RuleEntry
  lastFailure : Option Failure
  deriving DecidableEq, Repr

/-- The validation in progress: the slot and the tag of its Seal Slot order (R11). -/
structure Validation where
  slot : Fin 4
  tag : Byte
  deriving DecidableEq, Repr

/-! ## Motion unit, settings, strobe sequencer, illumination (chapter 2) -/

/-- The motion unit of a lane (Figure 2-1); the position is H − D and is not stored (R28). -/
structure Motion where
  h : Word32
  d : Word16
  lastEdge : Option Word32
  nextLine : Option Word32
  tagCounter : Word16
  deriving DecidableEq, Repr

/-- The states of the strobe sequencer (Figure 2-2). -/
inductive StrobeState
  | idle
  | flash (p : Phase)
  | settle (p : Phase)
  deriving DecidableEq, Repr

/-- The line in progress, with what the sequencer copied from the recipe when it was issued (R40) and the panel
sequence and panel line that its trigger words reach the ports with (R60, log 15). -/
structure LineRun where
  lineTag : Word16
  seq : Word16
  line : Nat
  phaseSet : Byte
  flash : PerPhase Byte
  portSet : Byte
  deriving DecidableEq, Repr

/-- The strobe sequencer of a lane (R40); times in microseconds. -/
structure Strobe where
  state : StrobeState
  run : Option LineRun
  flashLeft : Nat
  settle : PerPhase Nat
  deriving DecidableEq, Repr

/-- The illumination of a lane (R45). -/
inductive Illumination | off | warming | ready
  deriving DecidableEq, Repr

/-! ## Camera ports (chapter 3) -/

/-- The stream states (R49), in the order that codes them. -/
inductive Stream | unknown | dark | idle | active | noise
  deriving DecidableEq, Repr

/-- The last known states (R49), in the order that codes them. -/
inductive LastKnown | never | dark | idle | active | noise
  deriving DecidableEq, Repr

/-- The packet being assembled (R48): its tag and phase, the number of pixels received and the pixels, newest
first. -/
structure Assembly where
  lineTag : Word16
  phase : Phase
  received : Nat
  pixels : List Byte
  deriving DecidableEq, Repr

/-- Whether an outstanding entry's line was triggered or skipped (Figure 3-3). -/
inductive EntryKind | triggered | skipped
  deriving DecidableEq, Repr

/-- An outstanding entry (Figure 3-3). `lastPhase` is the last phase of its panel's phase set, which R67 needs
when the entry is resolved (log 14). -/
structure Entry where
  lineTag : Word16
  phase : Phase
  kind : EntryKind
  seq : Word16
  line : Nat
  lastPhase : Phase
  deriving DecidableEq, Repr

/-- What an item of a port FIFO carries beside its place: pixels and the injected mark, or nothing (R62). -/
inductive Payload
  | packet (pixels : List Byte) (injected : Bool)
  | lost
  deriving DecidableEq, Repr

/-- An item of a port FIFO (R62). -/
structure Item where
  lineTag : Word16
  phase : Phase
  seq : Word16
  line : Nat
  payload : Payload
  deriving DecidableEq, Repr

/-- The injection modes (R63), in the order that codes them. -/
inductive InjectionMode | off | oneShot | periodic | continuous
  deriving DecidableEq, Repr

/-- The OneShot target (R63). -/
inductive Target
  | absent
  | armed
  | panel (seq : Word16)
  deriving DecidableEq, Repr

/-- A camera port (chapter 3). `camSd` is the level of the CAM_SD input; `trigSent` the word last sent on CAM_TRIG
(log 20). -/
structure Port where
  camSd : Bool
  stream : Stream
  lastKnown : LastKnown
  fillRun : Nat
  noiseCount : Nat
  assembly : Option Assembly
  noiseMonitor : Byte
  checkMonitor : Byte
  noiseThreshold : Byte
  checkThreshold : Byte
  outstanding : List Entry
  held : List Entry
  fifo : List Item
  pattern : Memory
  mode : InjectionMode
  n : Word16
  target : Target
  trigSent : Option (BitVec 24)
  deriving DecidableEq, Repr

/-! ## Registration (chapter 4) -/

/-- The fiducial result of a closed accumulator (R74). -/
inductive FidResult
  | found (dx dy : Int)
  | notFound
  | lost
  deriving DecidableEq, Repr

/-- An accumulator (Figure 4-1): Open while it has no result, Closed once it has one (log 12). -/
structure Accumulator where
  index : Nat
  lost : Bool
  injected : Bool
  area : Nat
  columnSum : Nat
  lineSum : Nat
  result : Option FidResult
  deriving DecidableEq, Repr

/-- The registration unit while a panel is under registration: the panel and its context number (R70). -/
structure Registration where
  seq : Word16
  ctx : Fin 4
  accumulators : List Accumulator
  deriving DecidableEq, Repr

/-- Why a registration failed (R75, R76), in the order that codes them after none. -/
inductive RegCause | notFound | spread | loss | late
  deriving DecidableEq, Repr

/-- The registration state of a context with what it carries (section 4.1). -/
inductive RegState
  | pending
  | found (dx dy : Int)
  | failed (cause : RegCause)
  deriving DecidableEq, Repr

/-- The outcome of one fiducial in the fiducial detail (section 4.1). -/
inductive FidOutcome
  | found (area : Nat) (dx dy : Int)
  | notFound (area : Nat)
  | lost
  | notClosed
  deriving DecidableEq, Repr

/-- The registration record of a panel context (section 4.1, R69). -/
structure RegRecord where
  state : RegState
  detail : List (Nat × FidOutcome)
  injected : Bool
  deriving DecidableEq, Repr

/-! ## Windows and the crop store (chapter 5) -/

/-- The four sums of a window phase (Table 5-1). -/
structure Sums where
  n : Nat
  b : Nat
  s : Nat
  r : Nat
  deriving DecidableEq, Repr

/-- A window record (Table 5-1). The last phase is computed from the phases needed (log 12); the port is the lane
and the local port. -/
structure Window where
  lane : LaneId
  seq : Word16
  joint : Nat
  port : LocalPort
  firstCol : Nat
  lastCol : Nat
  firstLine : Nat
  lastLine : Nat
  phases : Byte
  rule : Nat
  sums : PerPhase Sums
  loss : Bool
  injected : Bool
  crop : Option Nat
  finished : Bool
  deriving DecidableEq, Repr

/-- The identity of a window: its lane, panel sequence and joint index. The waiting order names windows by it,
because the windows keep their places in the open lists (R96, R97). -/
structure WindowKey where
  lane : LaneId
  seq : Word16
  joint : Nat
  deriving DecidableEq, Repr

/-- The place of the last item the engine took from a port (R93). -/
structure Resolved where
  lineTag : Word16
  phase : Phase
  seq : Word16
  line : Nat
  deriving DecidableEq, Repr

/-- The states of a crop slot (Figure 5-2). -/
inductive CropState | free | capturing | held
  deriving DecidableEq, Repr

/-- The owner of a crop slot (R99). -/
structure CropOwner where
  lane : LaneId
  seq : Word16
  joint : Nat
  firstCol : Nat
  firstLine : Nat
  width : Nat
  height : Nat
  phases : Byte
  deriving DecidableEq, Repr

/-- A crop slot (R99): the pixel of phase p, row r, column c stands at address p × 4096 + r × 64 + c of `planes`. -/
structure CropSlot where
  state : CropState
  owner : Option CropOwner
  planes : Memory
  deriving DecidableEq, Repr

/-! ## Judgement (chapter 6) -/

/-- The verdicts (00, section 0.7), in the order that codes them. -/
inductive Verdict | pass | marginal | defect | unjudged
  deriving DecidableEq, Repr

/-- The causes of a tested verdict, in the order of R115. -/
inductive Cause | bridge | nonWetting | insufficient | excess
  deriving DecidableEq, Repr

/-- The result of one test, and the level of a cause (R111 to R114). -/
inductive Level | clear | marginal | defect
  deriving DecidableEq, Repr

/-- The cause set of a verdict: the level of each cause, clear where it is not present (R114). -/
structure CauseSet where
  bridge : Level
  nonWetting : Level
  insufficient : Level
  excess : Level
  deriving DecidableEq, Repr

/-- The features of one used phase (R110). -/
structure Features where
  phase : Phase
  fill : Nat
  mean : Nat
  span : Nat
  deriving DecidableEq, Repr

/-- A verdict with everything it carries (R109 to R116). -/
structure Judged where
  verdict : Verdict
  causes : CauseSet
  primary : Option (Cause × Phase)
  features : List Features
  deriving DecidableEq, Repr

/-- The report modes (Table 6-2), in the order that codes them. -/
inductive ReportMode | all | notPass | defectOnly | silent
  deriving DecidableEq, Repr

/-- The report details (R118), in the order that codes them. -/
inductive ReportDetail | brief | full
  deriving DecidableEq, Repr

/-- A verdict report as built at completion (R119). -/
structure VerdictReport where
  lane : LaneId
  seq : Word16
  recipeId : Word32
  joint : Nat
  component : Word16
  rule : Nat
  port : LocalPort
  firstCol : Nat
  firstLine : Nat
  judged : Judged
  injected : Bool
  loss : Bool
  crop : Bool
  detail : ReportDetail
  deriving DecidableEq, Repr

/-! ## Lanes and panel contexts (chapter 7) -/

/-- The lane states (Figure 7-1), in the order that codes them. -/
inductive LaneMode | off | standby | warming | ready | scanning
  deriving DecidableEq, Repr

/-- The states of a live panel context (Table 7-1), in the order that codes them after free. -/
inductive CtxState | waiting | scanning | settling | passed | decided | retiring
  deriving DecidableEq, Repr

/-- The abort causes (Table 7-1), in the order that codes them. -/
inductive AbortCause | none | warmup | overlap | motion | registration
  deriving DecidableEq, Repr

/-- The decisions, and the divert codes that carry the same names (00, section 0.7). -/
inductive Decision | accept | reject | review
  deriving DecidableEq, Repr

/-- The gate action of a context (Table 7-1, R131). -/
inductive GateAction
  | pending
  | applied (code : Decision)
  | noEntry
  deriving DecidableEq, Repr

/-- The six cause counts of Unjudged (Table 7-1). -/
structure CauseCounts where
  registration : Nat
  windowOverflow : Nat
  aborted : Nat
  dataLoss : Nat
  warmup : Nat
  overlap : Nat
  deriving DecidableEq, Repr

/-- A live panel context (Table 7-1). Unjudged is always the sum of the six cause counts and is computed (log 12). -/
structure Context where
  num : Fin 4
  seq : Word16
  state : CtxState
  slot : Fin 4
  recipeId : Word32
  edge : Word32
  scanStart : Word32
  firstTag : Option Word16
  reg : RegRecord
  pointer : Nat
  opened : Nat
  pass : Nat
  marginal : Nat
  defect : Nat
  causes : CauseCounts
  injected : Nat
  verdictsLost : Nat
  cropsMissed : Nat
  abort : AbortCause
  decision : Option Decision
  gateAction : GateAction
  late : Bool
  deriving DecidableEq, Repr

/-- A panel report: the lane, the context's fields at retirement and its recipe's joint count (R143). -/
structure PanelReport where
  lane : LaneId
  ctx : Context
  jointCount : Nat
  deriving DecidableEq, Repr

/-! ## The gate unit (chapter 8) -/

/-- The kind of a gate entry (section 8.1). -/
inductive GateKind
  | linked (ctx : Fin 4)
  | fixedReview
  deriving DecidableEq, Repr

/-- A gate entry (section 8.1). -/
structure GateEntry where
  pos : Word32
  seq : Word16
  kind : GateKind
  deriving DecidableEq, Repr

/-- The gate modes (R154), in the order that codes them. -/
inductive GateMode | follow | acceptAll | reviewAll | rejectAll
  deriving DecidableEq, Repr

/-- The gate overrides (R155), in the order that codes them, which is also the order of severity (R156). -/
inductive Override | none | reviewAll | rejectAll
  deriving DecidableEq, Repr

/-- The fault kinds of Table 8-2, in its order. -/
inductive FaultKind | cameraLoss | motionFault | panelOverrun | warmupLate | trunkStall | verdictLoss
  deriving DecidableEq, Repr

/-- One thing for each fault kind. -/
structure PerFault (α : Type) where
  cameraLoss : α
  motionFault : α
  panelOverrun : α
  warmupLate : α
  trunkStall : α
  verdictLoss : α
  deriving DecidableEq, Repr

/-- One entry of a fault response table (R155). -/
structure Response where
  override : Override
  hold : Bool
  deriving DecidableEq, Repr

/-- The gate unit of a lane (Figure 8-1). -/
structure Gate where
  queue : List GateEntry
  divert : Decision
  mode : GateMode
  forced : Override
  hold : Bool
  seen : PerFault Bool
  table : PerFault Response
  counts : PerFault Nat
  deriving DecidableEq, Repr

/-! ## A lane -/

/-- Everything the part holds for one lane: motion unit, settings, strobe sequencer, illumination (chapter 2), its two
ports (chapter 3), registration unit (chapter 4), window scheduler and measurement engine (chapter 5), lane control
(chapter 7), report mode (R118) and gate unit (chapter 8). Timers hold the microseconds left while they run. `live` holds
the live contexts, oldest edge first (R132). -/
structure Lane where
  mode : LaneMode
  settings : LaneSettings
  motion : Motion
  strobe : Strobe
  light : Illumination
  warmupLeft : Option Nat
  idleLeft : Option Nat
  ports : PerPort Port
  reg : Option Registration
  openList : List Window
  resolved : PerPort (Option Resolved)
  lastServed : LocalPort
  live : List Context
  nextSeq : Word16
  active : Option (Fin 4)
  pendingRecipe : Option (Fin 4)
  reportMode : ReportMode
  reportDetail : ReportDetail
  gate : Gate
  deriving DecidableEq, Repr

/-! ## Conditions (chapter 10) -/

/-- The seven condition sets (section 11.2). -/
inductive SetId
  | device
  | lane (l : LaneId)
  | port (p : PortId)
  deriving DecidableEq, Repr

/-- One condition set (R176): the conditions standing set, as the bits of Table 11-3 without the summaries, which are
computed (R178); the mask; the read snapshot; the notice pending mark. -/
structure CondSet where
  raised : Word16
  mask : Word16
  snapshot : Option Word16
  noticePending : Bool
  deriving DecidableEq, Repr

/-- The condition unit with the notice queue it feeds (R176, R179). -/
structure CondUnit where
  device : CondSet
  lanes : PerLane CondSet
  ports : PerLane (PerPort CondSet)
  noticeQueue : List SetId
  deriving DecidableEq, Repr

/-! ## The trunk link (chapter 9) -/

/-- The link states (R161), in the order that codes them. -/
inductive Link | down | training | up
  deriving DecidableEq, Repr

/-- The reply outcomes of Table 9-1, in the order that codes them. -/
inductive ReplyCode
  | done | refusedState | refusedBusy | refusedRange | refusedReferenced | refusedForced | unknownOrder | aborted
  | invalid
  deriving DecidableEq, Repr

/-- A reply (R168); `body` is the record, laid out under R187, or the failure detail of an Invalid reply (R186). -/
structure Reply where
  tag : Byte
  code : Byte
  outcome : ReplyCode
  body : List Byte
  deriving DecidableEq, Repr

/-- An order waiting in the inbound order queue with its tag (R166). -/
structure QueuedOrder where
  tag : Byte
  order : Order
  deriving DecidableEq, Repr

/-- The kinds of outbound frame (Table 11-1). -/
inductive FrameKind | reply | notice | panelReport | verdictReport | cropReport
  deriving DecidableEq, Repr

/-- A frame in transmission: its kind and payload, fixed when it began (R170), and the words that go out on TRK_TX for
it, Delimiter, kind code, length, payload and check (R184, R185). -/
structure Frame where
  kind : FrameKind
  payload : List Byte
  words : List LinkWord
  deriving DecidableEq, Repr

/-- The trunk link (Figure 9-1). `rx` is the inbound frame being assembled, its bytes newest first, or none between
frames (R164). The held place of the reply queue is held while a validation is in progress (R11). `stallLeft` is in
microseconds. -/
structure Trunk where
  link : Link
  syncRun : Nat
  rx : Option (List Byte)
  credit : Nat
  inbound : List QueuedOrder
  replies : List Reply
  panelReports : List PanelReport
  verdicts : List VerdictReport
  frame : Option Frame
  stallLimit : Word16
  stallLeft : Option Nat
  deriving DecidableEq, Repr

/-! ## The part and the model's state -/

/-- The part: its input levels RESET_N and TRK_SD and its blocks. `freeIndex` is the MODEL's own: it numbers the free
values taken (log 10). -/
structure Device where
  resetLow : Bool
  trkSd : Bool
  slots : Quad Slot
  validation : Option Validation
  lanes : PerLane Lane
  crops : List CropSlot
  cropQueue : List Nat
  closeQueue : List Window
  waiting : List WindowKey
  evaluation : Option Window
  retireOrder : List (LaneId × Fin 4)
  cond : CondUnit
  trunk : Trunk
  freeIndex : Nat
  deriving DecidableEq, Repr

/-- The model's state: the part and the commands waiting, first in, first out. -/
structure State where
  dev : Device
  pending : List Instr
  deriving DecidableEq, Repr

/-- Why a step can stop with a fault: never. The manual's faults are events the part answers and goes on from
(chapter 8), and every row's effect is given, so no command of this block stops it; the type has no constructor. -/
inductive Fault
  deriving DecidableEq, Repr

/-- Why a step can be refused. -/
inductive Refusal
  /-- Raised by an arm of `exec` whose command has no meaning yet. Safe: the model stops. -/
  | notModelled (mnemonic : String)
  deriving DecidableEq, Repr

/-! ## Values after reset -/

/-- An Empty slot: no entry written, every field zero, no failure record (R1, R7, R21). -/
def Slot.empty : Slot :=
  { state := .empty, header := none, fiducials := [], joints := [], rules := [], lastFailure := none }

/-- The motion unit at reset and after Enable Lane (R28). -/
def Motion.zero : Motion := { h := 0, d := 0, lastEdge := none, nextLine := none, tagCounter := 0 }

/-- The lane settings after a reset (Figure 2-3). -/
def defaultSettings : LaneSettings :=
  { leadIn := 0, edgeGuard := 0, reverseLimit := 64, gateDistance := 1, warmupTime := 0, idleTimeout := 0,
    settleReload := 1 }

/-- The idle sequencer: no line in progress, every counter zero (R40). -/
def Strobe.rest : Strobe :=
  { state := .idle, run := none, flashLeft := 0, settle := { top := 0, ring := 0, axial := 0 } }

/-- A camera port at reset with its CAM_SD input at the level given (R49, R56, R61 to R63). -/
def Port.atReset (camSd : Bool) : Port :=
  { camSd := camSd, stream := .unknown, lastKnown := .never, fillRun := 0, noiseCount := 0, assembly := none,
    noiseMonitor := 0, checkMonitor := 0, noiseThreshold := 0, checkThreshold := 0, outstanding := [], held := [],
    fifo := [], pattern := [], mode := .off, n := 0, target := .absent, trigSent := none }

/-- The gate unit at reset (Figure 8-1, third column). -/
def Gate.atReset : Gate :=
  let no : Response := { override := .none, hold := false }
  { queue := [], divert := .review, mode := .follow, forced := .none, hold := false,
    seen := { cameraLoss := false, motionFault := false, panelOverrun := false, warmupLate := false,
              trunkStall := false, verdictLoss := false },
    table := { cameraLoss := no, motionFault := no, panelOverrun := no, warmupLate := no, trunkStall := no,
               verdictLoss := no },
    counts := { cameraLoss := 0, motionFault := 0, panelOverrun := 0, warmupLate := 0, trunkStall := 0,
                verdictLoss := 0 } }

/-- A lane at reset, with the CAM_SD levels of its ports (R28, R40, R45, R46, R69, R83, R88, R93, R118, R126, R148). -/
def Lane.atReset (sd0 sd1 : Bool) : Lane :=
  { mode := .off, settings := defaultSettings, motion := .zero, strobe := .rest, light := .off, warmupLeft := none,
    idleLeft := none, ports := { p0 := .atReset sd0, p1 := .atReset sd1 }, reg := none, openList := [],
    resolved := { p0 := none, p1 := none }, lastServed := .p1, live := [], nextSeq := 0, active := none,
    pendingRecipe := none, reportMode := .all, reportDetail := .brief, gate := .atReset }

/-- A Free crop slot with no owner and every pixel zero (R99). -/
def CropSlot.free : CropSlot := { state := .free, owner := none, planes := [] }

/-- A clear condition set with the mask given (R176). -/
def CondSet.clear (mask : Word16) : CondSet :=
  { raised := 0, mask := mask, snapshot := none, noticePending := false }

/-- The condition unit before ResetDone is raised: all clear, the device mask ResetDone alone (R176). -/
def CondUnit.clear : CondUnit :=
  { device := .clear 1, lanes := { a := .clear 0, b := .clear 0 },
    ports := { a := { p0 := .clear 0, p1 := .clear 0 }, b := { p0 := .clear 0, p1 := .clear 0 } }, noticeQueue := [] }

/-- The trunk link at power-on: Down, no credit, every queue empty, stall limit 500 ms, timer stopped (R161, R166,
R168, R170, R171). -/
def Trunk.atPowerOn : Trunk :=
  { link := .down, syncRun := 0, rx := none, credit := 0, inbound := [], replies := [], panelReports := [],
    verdicts := [], frame := none, stallLimit := 500, stallLeft := none }

/-- The part with every block at its power-on values before any condition is raised, under the input levels and the
free-value number given. -/
def Device.atPowerOn (resetLow trkSd : Bool) (sd : PerLane (PerPort Bool)) (freeIndex : Nat) : Device :=
  { resetLow := resetLow, trkSd := trkSd,
    slots := { x0 := .empty, x1 := .empty, x2 := .empty, x3 := .empty }, validation := none,
    lanes := { a := .atReset sd.a.p0 sd.a.p1, b := .atReset sd.b.p0 sd.b.p1 },
    crops := List.replicate 48 .free, cropQueue := [], closeQueue := [], waiting := [], evaluation := none,
    retireOrder := [], cond := .clear, trunk := .atPowerOn, freeIndex := freeIndex }

/-- The condition unit right after a reset: ResetDone raised with its notice queued, NoiseThreshold and CheckThreshold
standing set in every port set (R175, R176). -/
def CondUnit.afterReset : CondUnit :=
  let port : CondSet := { CondSet.clear 0 with raised := 0x180 }
  { CondUnit.clear with
    device := { raised := 1, mask := 1, snapshot := none, noticePending := true },
    ports := { a := { p0 := port, p1 := port }, b := { p0 := port, p1 := port } }, noticeQueue := [.device] }

/-- The machine right after the release of the reset pin (R175), with RESET_N high, every CAM_SD active and TRK_SD
inactive (log 1), and no command waiting. The ResetDone notice waits and credit is zero, so the stall timer has
started from 500 ms (R171, R175). -/
def State.reset : State :=
  let dev := Device.atPowerOn false false { a := { p0 := true, p1 := true }, b := { p0 := true, p1 := true } } 0
  { dev := { dev with cond := .afterReset, trunk := { Trunk.atPowerOn with stallLeft := some 500000 } },
    pending := [] }

end Sys2Proof.Machine
end

