-- ==== Sys2Proof/Machine/Operands.lean ====
section
/-! DEFINITION. Every operand form: what a parameter byte names (R186), how the per-lane, per-port, per-phase and
numbered containers are read and written, and the codes under which named values are sent (R187). -/

namespace Sys2Proof.Machine

/-! ## Containers -/

def PerLane.get {α : Type} (x : PerLane α) : LaneId → α
  | .a => x.a
  | .b => x.b

def PerLane.set {α : Type} (x : PerLane α) (l : LaneId) (v : α) : PerLane α :=
  match l with
  | .a => { x with a := v }
  | .b => { x with b := v }

def PerPort.get {α : Type} (x : PerPort α) : LocalPort → α
  | .p0 => x.p0
  | .p1 => x.p1

def PerPort.set {α : Type} (x : PerPort α) (p : LocalPort) (v : α) : PerPort α :=
  match p with
  | .p0 => { x with p0 := v }
  | .p1 => { x with p1 := v }

def PerPhase.get {α : Type} (x : PerPhase α) : Phase → α
  | .top => x.top
  | .ring => x.ring
  | .axial => x.axial

def PerPhase.set {α : Type} (x : PerPhase α) (p : Phase) (v : α) : PerPhase α :=
  match p with
  | .top => { x with top := v }
  | .ring => { x with ring := v }
  | .axial => { x with axial := v }

def Quad.get {α : Type} (x : Quad α) (i : Fin 4) : α :=
  match i with
  | 0 => x.x0
  | 1 => x.x1
  | 2 => x.x2
  | 3 => x.x3

def Quad.set {α : Type} (x : Quad α) (i : Fin 4) (v : α) : Quad α :=
  match i with
  | 0 => { x with x0 := v }
  | 1 => { x with x1 := v }
  | 2 => { x with x2 := v }
  | 3 => { x with x3 := v }

def PerFault.get {α : Type} (x : PerFault α) : FaultKind → α
  | .cameraLoss => x.cameraLoss
  | .motionFault => x.motionFault
  | .panelOverrun => x.panelOverrun
  | .warmupLate => x.warmupLate
  | .trunkStall => x.trunkStall
  | .verdictLoss => x.verdictLoss

def PerFault.set {α : Type} (x : PerFault α) (k : FaultKind) (v : α) : PerFault α :=
  match k with
  | .cameraLoss => { x with cameraLoss := v }
  | .motionFault => { x with motionFault := v }
  | .panelOverrun => { x with panelOverrun := v }
  | .warmupLate => { x with warmupLate := v }
  | .trunkStall => { x with trunkStall := v }
  | .verdictLoss => { x with verdictLoss := v }

/-- The fault kinds in the order of Table 8-2. -/
def faultKinds : List FaultKind :=
  [.cameraLoss, .motionFault, .panelOverrun, .warmupLate, .trunkStall, .verdictLoss]

/-- The three phases in sequence order (00, section 0.7). -/
def sequenceOrder : List Phase := [.top, .ring, .axial]

/-- The bit of a phase in a set of phases: Top lowest, then Ring, then Axial (chapter 11, opening). -/
def phaseBit : Phase → Nat
  | .top => 0
  | .ring => 1
  | .axial => 2

/-- Whether a phase is in a set of phases. -/
def phaseIn (set : Byte) (p : Phase) : Bool := set.getLsbD (phaseBit p)

/-- The phases of a set, in sequence order. -/
def phasesOf (set : Byte) : List Phase := sequenceOrder.filter (phaseIn set)

/-- The last phase of a set in sequence order (Top for the empty set, which no sealed recipe has). -/
def lastPhaseOf (set : Byte) : Phase := (phasesOf set).getLastD .top

/-- Whether a local port is in a port set, local 0 the lowest bit (Table 11-7). -/
def portIn (set : Byte) : LocalPort → Bool
  | .p0 => set.getLsbD 0
  | .p1 => set.getLsbD 1

/-- The local port a byte names, if it names one. -/
def localPortOf (b : Byte) : Option LocalPort :=
  if b = 0 then some .p0 else if b = 1 then some .p1 else none

/-! ## What a parameter names (R2, R186, section 11.2) -/

def laneOf (b : Byte) : Option LaneId :=
  if b = 0 then some .a else if b = 1 then some .b else none

def portOf (b : Byte) : Option PortId :=
  if b = 0 then some ⟨.a, .p0⟩ else if b = 1 then some ⟨.a, .p1⟩
  else if b = 2 then some ⟨.b, .p0⟩ else if b = 3 then some ⟨.b, .p1⟩ else none

def fourOf (b : Byte) : Option (Fin 4) :=
  if b = 0 then some 0 else if b = 1 then some 1 else if b = 2 then some 2 else if b = 3 then some 3 else none

/-- The condition set a byte names: device 0, lane A 1, lane B 2, ports C0 to C3 as 3 to 6 (section 11.2). -/
def setOf (b : Byte) : Option SetId :=
  if b = 0 then some .device else if b = 1 then some (.lane .a) else if b = 2 then some (.lane .b)
  else if b = 3 then some (.port ⟨.a, .p0⟩) else if b = 4 then some (.port ⟨.a, .p1⟩)
  else if b = 5 then some (.port ⟨.b, .p0⟩) else if b = 6 then some (.port ⟨.b, .p1⟩) else none

def injectionModeOf (b : Byte) : Option InjectionMode :=
  if b = 0 then some .off else if b = 1 then some .oneShot else if b = 2 then some .periodic
  else if b = 3 then some .continuous else none

def reportModeOf (b : Byte) : Option ReportMode :=
  if b = 0 then some .all else if b = 1 then some .notPass else if b = 2 then some .defectOnly
  else if b = 3 then some .silent else none

def reportDetailOf (b : Byte) : Option ReportDetail :=
  if b = 0 then some .brief else if b = 1 then some .full else none

def gateModeOf (b : Byte) : Option GateMode :=
  if b = 0 then some .follow else if b = 1 then some .acceptAll else if b = 2 then some .reviewAll
  else if b = 3 then some .rejectAll else none

def overrideOf (b : Byte) : Option Override :=
  if b = 0 then some .none else if b = 1 then some .reviewAll else if b = 2 then some .rejectAll else none

def faultKindOf (b : Byte) : Option FaultKind :=
  if b = 0 then some .cameraLoss else if b = 1 then some .motionFault else if b = 2 then some .panelOverrun
  else if b = 3 then some .warmupLate else if b = 4 then some .trunkStall else if b = 5 then some .verdictLoss
  else none

/-- A mark sent as 0 clear, 1 set (Table 11-2). -/
def markOf (b : Byte) : Option Bool :=
  if b = 0 then some false else if b = 1 then some true else none

/-! ## The codes of named values: the position in the list that defines them (chapter 11, opening) -/

def boolCode (b : Bool) : Nat := if b then 1 else 0

def laneCode : LaneId → Nat
  | .a => 0
  | .b => 1

def localPortCode : LocalPort → Nat
  | .p0 => 0
  | .p1 => 1

def portCode (p : PortId) : Nat := 2 * laneCode p.lane + localPortCode p.loc

def setCode : SetId → Nat
  | .device => 0
  | .lane l => 1 + laneCode l
  | .port p => 3 + portCode p

def slotStateCode : SlotState → Nat
  | .empty => 0
  | .loading => 1
  | .validating => 2
  | .sealed => 3

def failTableCode : FailTable → Nat
  | .header => 0
  | .fiducial => 1
  | .rule => 2
  | .joint => 3

def streamCode : Stream → Nat
  | .unknown => 0
  | .dark => 1
  | .idle => 2
  | .active => 3
  | .noise => 4

def lastKnownCode : LastKnown → Nat
  | .never => 0
  | .dark => 1
  | .idle => 2
  | .active => 3
  | .noise => 4

def injectionModeCode : InjectionMode → Nat
  | .off => 0
  | .oneShot => 1
  | .periodic => 2
  | .continuous => 3

def laneModeCode : LaneMode → Nat
  | .off => 0
  | .standby => 1
  | .warming => 2
  | .ready => 3
  | .scanning => 4

def illuminationCode : Illumination → Nat
  | .off => 0
  | .warming => 1
  | .ready => 2

def ctxStateCode : CtxState → Nat
  | .waiting => 1
  | .scanning => 2
  | .settling => 3
  | .passed => 4
  | .decided => 5
  | .retiring => 6

def abortCode : AbortCause → Nat
  | .none => 0
  | .warmup => 1
  | .overlap => 2
  | .motion => 3
  | .registration => 4

/-- The decision of a context: None, Accept, Reject or Review (Table 7-1). -/
def decisionCode : Option Decision → Nat
  | none => 0
  | some .accept => 1
  | some .reject => 2
  | some .review => 3

/-- The divert code: Accept, Reject or Review (Figure 8-1). -/
def divertCode : Decision → Nat
  | .accept => 0
  | .reject => 1
  | .review => 2

/-- The gate action: pending, Accept, Reject, Review, no entry (Table 11-5). -/
def gateActionCode : GateAction → Nat
  | .pending => 0
  | .applied .accept => 1
  | .applied .reject => 2
  | .applied .review => 3
  | .noEntry => 4

def gateModeCode : GateMode → Nat
  | .follow => 0
  | .acceptAll => 1
  | .reviewAll => 2
  | .rejectAll => 3

def overrideCode : Override → Nat
  | .none => 0
  | .reviewAll => 1
  | .rejectAll => 2

def reportModeCode : ReportMode → Nat
  | .all => 0
  | .notPass => 1
  | .defectOnly => 2
  | .silent => 3

def reportDetailCode : ReportDetail → Nat
  | .brief => 0
  | .full => 1

def verdictCode : Verdict → Nat
  | .pass => 0
  | .marginal => 1
  | .defect => 2
  | .unjudged => 3

/-- The primary cause: none, Bridge, NonWetting, Insufficient, Excess, DataLoss (Table 11-4). -/
def causeCode : Cause → Nat
  | .bridge => 1
  | .nonWetting => 2
  | .insufficient => 3
  | .excess => 4

def levelCode : Level → Nat
  | .clear => 0
  | .marginal => 1
  | .defect => 2

/-- The failure cause of a registration: none, NotFound, Spread, Loss, Late (Table 11-5). -/
def regCauseCode : RegCause → Nat
  | .notFound => 1
  | .spread => 2
  | .loss => 3
  | .late => 4

def linkCode : Link → Nat
  | .down => 0
  | .training => 1
  | .up => 2

/-- The reply outcomes, Done 0 to Invalid 8 (R186). -/
def replyCodeCode : ReplyCode → Nat
  | .done => 0
  | .refusedState => 1
  | .refusedBusy => 2
  | .refusedRange => 3
  | .refusedReferenced => 4
  | .refusedForced => 5
  | .unknownOrder => 6
  | .aborted => 7
  | .invalid => 8

/-- The outbound kind codes (Table 11-1). -/
def frameKindCode : FrameKind → Byte
  | .reply => 0x10
  | .notice => 0x11
  | .panelReport => 0x12
  | .verdictReport => 0x13
  | .cropReport => 0x14

/-- The row of a check in its table, the first row being 1 (R186, Tables 1-5 to 1-8). -/
def checkCode (t : FailTable) (c : Check) : Nat :=
  let rows : List Check :=
    match t with
    | .header => [.unwritten, .panelLength, .zoneSize, .zoneFit, .linePitch, .phaseSet, .flashTime, .portSet,
                  .jointCount, .fiducialCount, .ruleCount, .spreadTolerance]
    | .fiducial => [.unwritten, .port, .phase, .boxSize, .boxPlace, .band, .area]
    | .rule => [.unwritten, .usedMark, .noPhase, .margins, .band, .fill, .span, .mean]
    | .joint => [.unwritten, .component, .port, .size, .columns, .lines, .order, .ruleIndex, .phases,
                 .ruleAgreement, .crop]
  rows.findIdx (fun r => decide (r = c)) + 1

end Sys2Proof.Machine
end

