-- ==== Sys2Proof/Machine/Ops.lean ====
section
/-! DEFINITION. The named operations over buffers, tables and the part's state, which every meaning is built from. -/

namespace Sys2Proof.Machine

/-! ## Pixel buffers (log 19) -/

/-- The level at an address; an unlisted pixel reads 0 (R63, R99). -/
def Memory.read : Memory → Nat → Byte
  | [], _ => 0
  | (k, v) :: r, a => if k = a then v else Memory.read r a

/-- Writes one pixel and keeps the canonical form: writing 0 removes the entry. -/
def Memory.write : Memory → Nat → Byte → Memory
  | [], a, b => if b = 0 then [] else [(a, b)]
  | (k, v) :: r, a, b =>
    if a < k then (if b = 0 then (k, v) :: r else (a, b) :: (k, v) :: r)
    else if a = k then (if b = 0 then r else (a, b) :: r)
    else (k, v) :: Memory.write r a b

/-- Writes pixels at rising addresses from `a`. -/
def Memory.writeList (m : Memory) : Nat → List Byte → Memory
  | _, [] => m
  | a, b :: bs => Memory.writeList (Memory.write m a b) (a + 1) bs

/-- `n` pixels from address `a`. -/
def Memory.readList (m : Memory) (a n : Nat) : List Byte := (List.range n).map (fun i => Memory.read m (a + i))

/-- Addresses at or above `lo`, strictly rising, no entry zero. -/
def Memory.wfFrom (lo : Nat) : Memory → Bool
  | [] => true
  | (k, v) :: r => decide (lo ≤ k) && decide (v ≠ 0) && Memory.wfFrom (k + 1) r

/-- The canonical form of a pixel buffer. -/
def Memory.wf (m : Memory) : Bool := Memory.wfFrom 0 m

/-! ## Recipe tables (log 13) -/

/-- The entry at an index, if it has been written. -/
def Table.find {α : Type} : Table α → Nat → Option α
  | [], _ => none
  | (k, v) :: r, i => if k = i then some v else Table.find r i

/-- Writes one entry, replacing the entry of the same index. -/
def Table.put {α : Type} : Table α → Nat → α → Table α
  | [], i, e => [(i, e)]
  | (k, v) :: r, i, e =>
    if i < k then (i, e) :: (k, v) :: r else if i = k then (i, e) :: r else (k, v) :: Table.put r i e

/-- Writes entries at rising indexes from `i` (R10). -/
def Table.putList {α : Type} (t : Table α) : Nat → List α → Table α
  | _, [] => t
  | i, e :: es => Table.putList (Table.put t i e) (i + 1) es

/-- Indexes at or above `lo`, strictly rising. -/
def Table.wfFrom {α : Type} (lo : Nat) : Table α → Bool
  | [] => true
  | (k, _) :: r => decide (lo ≤ k) && Table.wfFrom (k + 1) r

/-! ## Recipe entries as the blocks read them -/

/-- The header with every field zero, which a slot whose header is unwritten reads as (R1, R22). -/
def zeroHeader : Header :=
  { recipeId := 0, panelLength := 0, zone := 0, linePitch := 0, phaseSet := 0, flashTop := 0, flashRing := 0,
    flashAxial := 0, portSet := 0, jointCount := 0, fiducialCount := 0, ruleCount := 0, marginalLimit := 0,
    spreadTolerance := 0 }

def zeroFiducialEntry : FiducialEntry :=
  { port := 0, phase := 0, column := 0, line := 0, width := 0, height := 0, bandLow := 0, bandHigh := 0,
    areaMin := 0, areaMax := 0 }

def zeroJointEntry : JointEntry :=
  { component := 0, port := 0, x := 0, y := 0, width := 0, height := 0, rule := 0, phases := 0, crop := 0 }

def zeroCriteria : Criteria :=
  { used := 0, bandLow := 0, bandHigh := 0, fillMin := 0, fillMax := 0, spanLimit := 0, meanLow := 0, meanHigh := 0 }

def zeroRuleEntry : RuleEntry :=
  { fillMargin := 0, spanMargin := 0, meanMargin := 0, top := zeroCriteria, ring := zeroCriteria, axial := zeroCriteria }

def Slot.hdr (s : Slot) : Header := s.header.getD zeroHeader

def Slot.fiducial (s : Slot) (i : Nat) : FiducialEntry := (Table.find s.fiducials i).getD zeroFiducialEntry

def Slot.joint (s : Slot) (i : Nat) : JointEntry := (Table.find s.joints i).getD zeroJointEntry

def Slot.rule (s : Slot) (i : Nat) : RuleEntry := (Table.find s.rules i).getD zeroRuleEntry

/-- The criteria of one phase of a rule (R6). -/
def ruleCriteria (r : RuleEntry) : Phase → Criteria
  | .top => r.top
  | .ring => r.ring
  | .axial => r.axial

/-- The phases whose used mark is set, in sequence order (R6, R15, R110). -/
def usedPhases (r : RuleEntry) : List Phase := sequenceOrder.filter (fun p => decide ((ruleCriteria r p).used ≠ 0))

/-- The flash times of a header, by phase (Table 1-2). -/
def flashTimes (h : Header) : PerPhase Byte := { top := h.flashTop, ring := h.flashRing, axial := h.flashAxial }

/-- First column or line of a search box: the centre minus half the size, rounded down (R4). -/
def boxStart (centre : Word16) (size : Byte) : Int := (centre.toNat : Int) - ((size.toNat / 2 : Nat) : Int)

/-- Whether a level lies in a band, both ends included (R4, R6). -/
def inBand (low high level : Byte) : Bool := decide (low.toNat ≤ level.toNat) && decide (level.toNat ≤ high.toNat)

/-! ## The parts of the part -/

def Device.lane (d : Device) (l : LaneId) : Lane := d.lanes.get l

def Device.setLane (d : Device) (l : LaneId) (v : Lane) : Device := { d with lanes := d.lanes.set l v }

def Device.modLane (d : Device) (l : LaneId) (f : Lane → Lane) : Device := d.setLane l (f (d.lane l))

def Device.port (d : Device) (p : PortId) : Port := (d.lane p.lane).ports.get p.loc

def Device.setPort (d : Device) (p : PortId) (v : Port) : Device :=
  d.modLane p.lane (fun L => { L with ports := L.ports.set p.loc v })

def Device.slot (d : Device) (i : Fin 4) : Slot := d.slots.get i

def Device.setSlot (d : Device) (i : Fin 4) (v : Slot) : Device := { d with slots := d.slots.set i v }

def Device.modTrunk (d : Device) (f : Trunk → Trunk) : Device := { d with trunk := f d.trunk }

/-- The live context of a number. -/
def Lane.ctx (L : Lane) (n : Fin 4) : Option Context := L.live.find? (fun c => decide (c.num = n))

/-- The live context of a panel sequence; of two that share one after the counter has wrapped, the older (log 34). -/
def Lane.ctxOfSeq (L : Lane) (q : Word16) : Option Context := L.live.find? (fun c => decide (c.seq = q))

/-- The lane's Scanning context; a lane has at most one (R132). -/
def Lane.scanningCtx (L : Lane) : Option Context := L.live.find? (fun c => decide (c.state = .scanning))

/-- The oldest Waiting context, whose scan start position is watched (R30). -/
def Lane.oldestWaiting (L : Lane) : Option Context := L.live.find? (fun c => decide (c.state = .waiting))

/-- Changes the context of a number. -/
def Lane.modCtx (L : Lane) (n : Fin 4) (f : Context → Context) : Lane :=
  { L with live := L.live.map (fun c => if c.num = n then f c else c) }

def Device.modCtx (d : Device) (l : LaneId) (n : Fin 4) (f : Context → Context) : Device :=
  d.modLane l (fun L => L.modCtx n f)

/-- Unjudged is always the sum of the six cause counts (Table 7-1). -/
def Context.unjudged (c : Context) : Nat :=
  c.causes.registration + c.causes.windowOverflow + c.causes.aborted + c.causes.dataLoss + c.causes.warmup
    + c.causes.overlap

/-- The joints already given a verdict or counted Unjudged (R98, R139). -/
def Context.accounted (c : Context) : Nat := c.pass + c.marginal + c.defect + c.unjudged

/-- A context has passed the gate when its arrival was taken or it has no gate entry (R132). -/
def Context.passedGate (c : Context) : Bool := decide (c.gateAction ≠ .pending)

/-- H is at or beyond P when H − P, modulo 2^32, is below 2^31 (R30). -/
def atOrBeyond (h p : Word32) : Bool := decide ((h - p).toNat < 2 ^ 31)

/-- A window's identity. -/
def Window.key (w : Window) : WindowKey := { lane := w.lane, seq := w.seq, joint := w.joint }

/-- The number of a panel's windows in flight: open list, close queue and evaluation (R98, R147). -/
def Device.inFlight (d : Device) (l : LaneId) (q : Word16) : Nat :=
  let mine : Window → Bool := fun w => decide (w.lane = l) && decide (w.seq = q)
  ((d.lane l).openList.filter mine).length + (d.closeQueue.filter mine).length
    + (d.evaluation.toList.filter mine).length

/-! ## Reference marks (R24, log 11) -/

/-- The number of a lane's live contexts whose recipe is the slot. -/
def Device.ctxCount (d : Device) (l : LaneId) (i : Fin 4) : Nat :=
  ((d.lane l).live.filter (fun c => decide (c.slot = i))).length

/-- The active mark of a lane on a slot. -/
def Device.activeMark (d : Device) (l : LaneId) (i : Fin 4) : Bool := decide ((d.lane l).active = some i)

/-- The pending mark of a lane on a slot. -/
def Device.pendingMark (d : Device) (l : LaneId) (i : Fin 4) : Bool := decide ((d.lane l).pendingRecipe = some i)

/-- A slot is referenced while any mark is set or a context count is above zero (R24). -/
def Device.referenced (d : Device) (i : Fin 4) : Bool :=
  d.activeMark .a i || d.pendingMark .a i || d.activeMark .b i || d.pendingMark .b i
    || decide (0 < d.ctxCount .a i) || decide (0 < d.ctxCount .b i)

/-- A port is active while its lane is not Off and its local number is in the port set of the lane's active recipe or
of the recipe of any live context (R61). -/
def Device.portActive (d : Device) (p : PortId) : Bool :=
  let L := d.lane p.lane
  let uses : Fin 4 → Bool := fun i => portIn (d.slot i).hdr.portSet p.loc
  decide (L.mode ≠ .off) && (L.active.toList.any uses || L.live.any (fun c => uses c.slot))

/-! ## The stall timer's condition (R171) -/

/-- Whether an outbound queue holds an item; a held place is not an item. -/
def Device.outboundWaiting (d : Device) : Bool :=
  !d.trunk.replies.isEmpty || !d.cond.noticeQueue.isEmpty || !d.trunk.panelReports.isEmpty
    || !d.trunk.verdicts.isEmpty || !d.cropQueue.isEmpty

/-- The stall timer runs while credit is zero and an outbound queue holds an item. -/
def Device.stallRuns (d : Device) : Bool := decide (d.trunk.credit = 0) && d.outboundWaiting

/-- The stall limit in microseconds. -/
def Trunk.stallLoad (t : Trunk) : Nat := t.stallLimit.toNat * 1000

/-- Starts the stall timer where its condition has begun and stops it where the condition has ended (R171), judged on the
part as an event leaves it (log 38). -/
def Device.settleStall (d : Device) : Device :=
  if d.stallRuns then
    match d.trunk.stallLeft with
    | none => d.modTrunk (fun t => { t with stallLeft := some t.stallLoad })
    | some _ => d
  else d.modTrunk (fun t => { t with stallLeft := none })

/-! ## Events and replies -/

/-- A command that acts on the part: while RESET_N is low nothing acts (log 3); otherwise its effect, after which the
stall timer follows its condition, judged once, at the end of the event (log 38). -/
def event (f : Device → Device) (s : State) : Host.Outcome State Fault Refusal :=
  .next { s with dev := if s.dev.resetLow then s.dev else (f s.dev).settleStall }

/-- A command that acts on the part whatever RESET_N is: a change of an input level, power, and the reset pin. -/
def pinEvent (f : Device → Device) (s : State) : Host.Outcome State Fault Refusal :=
  .next { s with dev := (f s.dev).settleStall }

/-- Queues a reply at the tail of the reply queue (R168). -/
def Device.reply (d : Device) (tag code : Byte) (outcome : ReplyCode) (body : List Byte) : Device :=
  d.modTrunk (fun t =>
    { t with replies := t.replies ++ [{ tag := tag, code := code, outcome := outcome, body := body }] })

/-- The places of the reply queue in use: its replies and the place held for a validation (R167). -/
def Device.replyPlaces (d : Device) : Nat := d.trunk.replies.length + d.validation.toList.length

/-- The reply queue has room while fewer than 16 places are in use (R167). -/
def Device.replyRoom (d : Device) : Bool := decide (d.replyPlaces < 16)

end Sys2Proof.Machine
end

