-- ==== Sys2Proof/Machine/Flags.lean ====
section
/-! DEFINITION. Every flag computation: conditions, summaries and notices (chapter 10), and the answer to a fault
(chapter 8, section 8.5). -/

namespace Sys2Proof.Machine

/-! ## Condition names (Table 11-3) -/

inductive DeviceCond
  | resetDone | frameError | orderOverrun | writeRejected | clearInhibited | closeQueueFull | verdictLoss | trunkStall
  deriving DecidableEq, Repr

inductive LaneCond
  | edgeIgnored | noRecipe | overlap | overspeed | registrationFailed | windowOverflow | lateDecision | panelRejected
  | forced | motionFault | panelOverrun | warmupLate
  deriving DecidableEq, Repr

inductive PortCond
  | enteredDark | enteredIdle | enteredActive | enteredNoise | stateChange | unknownAfterGood | unknownAfterBad
  | noiseThreshold | checkThreshold | fifoSlip | strayPacket | lineLost
  deriving DecidableEq, Repr

/-- The condition list that holds one device condition (Table 11-3). -/
def DeviceCond.bit : DeviceCond → Word16
  | .resetDone => 0x001
  | .frameError => 0x002
  | .orderOverrun => 0x004
  | .writeRejected => 0x008
  | .clearInhibited => 0x010
  | .closeQueueFull => 0x020
  | .verdictLoss => 0x040
  | .trunkStall => 0x080

/-- The condition list that holds one lane condition (Table 11-3). -/
def LaneCond.bit : LaneCond → Word16
  | .edgeIgnored => 0x001
  | .noRecipe => 0x002
  | .overlap => 0x004
  | .overspeed => 0x008
  | .registrationFailed => 0x010
  | .windowOverflow => 0x020
  | .lateDecision => 0x040
  | .panelRejected => 0x080
  | .forced => 0x100
  | .motionFault => 0x200
  | .panelOverrun => 0x400
  | .warmupLate => 0x800

/-- The condition list that holds one port condition (Table 11-3). -/
def PortCond.bit : PortCond → Word16
  | .enteredDark => 0x001
  | .enteredIdle => 0x002
  | .enteredActive => 0x004
  | .enteredNoise => 0x008
  | .stateChange => 0x010
  | .unknownAfterGood => 0x020
  | .unknownAfterBad => 0x040
  | .noiseThreshold => 0x080
  | .checkThreshold => 0x100
  | .fifoSlip => 0x200
  | .strayPacket => 0x400
  | .lineLost => 0x800

/-- The summaries of a set: LaneA and LaneB of the device set, Port0 and Port1 of a lane set (Table 11-3). -/
def summaryBits : SetId → Word16
  | .device => 0x0300
  | .lane _ => 0x3000
  | .port _ => 0

/-- The conditions of a set that are no summaries. -/
def ownBits : SetId → Word16
  | .device => 0x00FF
  | .lane _ => 0x0FFF
  | .port _ => 0x0FFF

/-! ## Sets, summaries, notices -/

def CondUnit.get (u : CondUnit) : SetId → CondSet
  | .device => u.device
  | .lane l => u.lanes.get l
  | .port p => (u.ports.get p.lane).get p.loc

def CondUnit.set (u : CondUnit) (i : SetId) (c : CondSet) : CondUnit :=
  match i with
  | .device => { u with device := c }
  | .lane l => { u with lanes := u.lanes.set l c }
  | .port p => { u with ports := u.ports.set p.lane ((u.ports.get p.lane).set p.loc c) }

def CondUnit.mod (u : CondUnit) (i : SetId) (f : CondSet → CondSet) : CondUnit := u.set i (f (u.get i))

/-- Whether a list of conditions holds one that the mask lets through. -/
def reports (view mask : Word16) : Bool := decide (view &&& mask ≠ 0)

/-- The conditions of a port set standing set. -/
def CondUnit.portView (u : CondUnit) (l : LaneId) (p : LocalPort) : Word16 := ((u.ports.get l).get p).raised

/-- A summary stands set while any condition of the set below is set and unmasked (R178). -/
def CondUnit.portSummary (u : CondUnit) (l : LaneId) (p : LocalPort) : Bool :=
  reports (u.portView l p) ((u.ports.get l).get p).mask

/-- The conditions of a lane set standing set, with its summaries Port0 and Port1 (R178). -/
def CondUnit.laneView (u : CondUnit) (l : LaneId) : Word16 :=
  (u.lanes.get l).raised ||| (if u.portSummary l .p0 then 0x1000 else 0) ||| (if u.portSummary l .p1 then 0x2000 else 0)

/-- The summary of a lane set in the device set (R178). -/
def CondUnit.laneSummary (u : CondUnit) (l : LaneId) : Bool := reports (u.laneView l) (u.lanes.get l).mask

/-- The conditions of the device set standing set, with its summaries LaneA and LaneB (R178). -/
def CondUnit.deviceView (u : CondUnit) : Word16 :=
  u.device.raised ||| (if u.laneSummary .a then 0x100 else 0) ||| (if u.laneSummary .b then 0x200 else 0)

/-- The conditions of a set standing set, summaries included. -/
def CondUnit.view (u : CondUnit) : SetId → Word16
  | .device => u.deviceView
  | .lane l => u.laneView l
  | .port p => u.portView p.lane p.loc

/-- A set has something to report while any of its conditions is set and unmasked (R179). -/
def CondUnit.reporting (u : CondUnit) (i : SetId) : Bool := reports (u.view i) (u.get i).mask

/-- The seven sets, the sets below before the sets above, which is the order of queuing (R179). -/
def setsUpward : List SetId :=
  [.port ⟨.a, .p0⟩, .port ⟨.a, .p1⟩, .port ⟨.b, .p0⟩, .port ⟨.b, .p1⟩, .lane .a, .lane .b, .device]

/-- Queues the notice of a set whose mark is clear, and sets the mark (R179). -/
def CondUnit.queueNotice (u : CondUnit) (i : SetId) : CondUnit :=
  if (u.get i).noticePending then u
  else { u.mod i (fun c => { c with noticePending := true }) with noticeQueue := u.noticeQueue ++ [i] }

/-- Queues the notice of every set that had nothing to report in `old` and has something now (R179). -/
def CondUnit.settle (old new : CondUnit) : CondUnit :=
  (setsUpward.filter (fun i => !old.reporting i && new.reporting i)).foldl CondUnit.queueNotice new

/-- Changes the condition unit and queues the notices the change brings. -/
def Device.updateConds (d : Device) (f : CondUnit → CondUnit) : Device := { d with cond := d.cond.settle (f d.cond) }

/-- Raises the conditions of a list in a set: a clear condition becomes set, a set one stays set (R177). -/
def Device.raise (d : Device) (i : SetId) (list : Word16) : Device :=
  d.updateConds (fun u => u.mod i (fun c => { c with raised := c.raised ||| list }))

def Device.raiseDevice (d : Device) (c : DeviceCond) : Device := d.raise .device c.bit

def Device.raiseLane (d : Device) (l : LaneId) (c : LaneCond) : Device := d.raise (.lane l) c.bit

/-- The conditions a port holds standing: NoiseThreshold and CheckThreshold while that monitor is zero (R56). -/
def Port.standing (p : Port) : Word16 :=
  (if p.noiseMonitor = 0 then PortCond.noiseThreshold.bit else 0)
    ||| (if p.checkMonitor = 0 then PortCond.checkThreshold.bit else 0)

/-! ## Faults -/

/-- The severity of an override: none, ReviewAll, RejectAll (R156). -/
def Override.worse (x y : Override) : Override := if overrideCode x < overrideCode y then y else x

/-- A lane is forced while its forced override is not none or its hold is set (R148). -/
def Gate.isForced (g : Gate) : Bool := decide (g.forced ≠ .none) || g.hold

/-- The fault kind's count rises by one and stops at 255 (R156). -/
def Gate.count (g : Gate) (k : FaultKind) : Gate := { g with counts := g.counts.set k (min 255 (g.counts.get k + 1)) }

/-- The gate unit's answer on a lane that is not Off: kind seen, override and hold from the table (R156). -/
def Gate.answer (g : Gate) (k : FaultKind) : Gate :=
  { g with seen := g.seen.set k true, forced := g.forced.worse (g.table.get k).override,
           hold := g.hold || (g.table.get k).hold }

/-- The condition that records a fault raised on a lane, beside the conditions its own block raises (R177). -/
def FaultKind.laneCond : FaultKind → Option LaneCond
  | .motionFault => some .motionFault
  | .panelOverrun => some .panelOverrun
  | .warmupLate => some .warmupLate
  | .cameraLoss | .trunkStall | .verdictLoss => none

/-- A fault raised on a lane: counted; on a lane that is not Off answered from the table, with the condition Forced
where the forced override rose or the hold was set; and recorded by its lane condition (R156, R158, R177). -/
def Device.fault (d : Device) (l : LaneId) (k : FaultKind) : Device :=
  let L := d.lane l
  let counted := L.gate.count k
  let g := if L.mode = .off then counted else counted.answer k
  let d := d.setLane l { L with gate := g }
  let d := if g.forced ≠ L.gate.forced ∨ g.hold ≠ L.gate.hold then d.raiseLane l .forced else d
  match k.laneCond with
  | some c => d.raiseLane l c
  | none => d

end Sys2Proof.Machine
end

