-- ==== Sys2Proof/Machine/Orders.lean ====
section
/-! DEFINITION. How an order reaches its owner: the inbound order queue and the order decoder (R166, R167). -/

namespace Sys2Proof.Machine

/-- An order joins the inbound order queue, or is discarded with OrderOverrun when 16 orders are queued (R166). -/
def Device.joinInbound (d : Device) (tag : Byte) (o : Order) : Device :=
  if d.trunk.inbound.length < 16 then
    d.modTrunk (fun t => { t with inbound := t.inbound ++ [{ tag := tag, order := o }] })
  else d.raiseDevice .orderOverrun

/-- An order that has arrived: taken at once when no order waits and the reply queue has room, otherwise it waits in
the inbound order queue (R166, R167, log 4). `take` is what its owner does with it. -/
def Device.arrive (d : Device) (tag : Byte) (o : Order) (take : Device → Device) : Device :=
  if d.trunk.inbound.isEmpty && d.replyRoom then take d else d.joinInbound tag o

end Sys2Proof.Machine
end

