-- ==== Sys2Proof/Machine/Bytes.lean ====
section
/-! DEFINITION. Byte order, field widths and the check of frames and line packets (chapter 11). -/

namespace Sys2Proof.Machine

/-- A number as `n` bytes, most significant first (chapter 11, opening). -/
def be : Nat → Nat → List Byte
  | 0, _ => []
  | n + 1, x => BitVec.ofNat 8 (x / 256 ^ n) :: be n x

/-- A signed number as one byte, two's complement (chapter 11, opening). -/
def signed (x : Int) : List Byte := [BitVec.ofInt 8 x]

/-- The number `bs` spells, most significant byte first. -/
def ofBe (bs : List Byte) : Nat := bs.foldl (fun x b => x * 256 + b.toNat) 0

/-- One bit of the cyclic redundancy check with generator x^16 + x^12 + x^5 + 1 (R185). -/
def crcBit (r : Word16) : Word16 := if r.msb then (r <<< 1) ^^^ 0x1021 else r <<< 1

/-- One byte of the check, most significant bit first (R185). -/
def crcByte (r : Word16) (b : Byte) : Word16 :=
  crcBit (crcBit (crcBit (crcBit (crcBit (crcBit (crcBit (crcBit (r ^^^ (b.setWidth 16 <<< 8)))))))))

/-- The check of a run of bytes: the register starts at all ones, the result is not inverted (R185). -/
def crc (bs : List Byte) : Word16 := bs.foldl crcByte 0xFFFF

/-- The check of a line packet, over its tag, its phase's code and its pixels (R189). -/
def packetCheck (lineTag : Word16) (p : Phase) (pixels : List Byte) : Word16 :=
  crc (be 2 lineTag.toNat ++ [p.code] ++ pixels)

/-- The words of a frame on the trunk: Delimiter, kind, length, payload, check (R184, R185). -/
def frameWords (kind : Byte) (payload : List Byte) : List LinkWord :=
  let body := kind :: be 2 payload.length ++ payload
  .delimiter :: (body ++ be 2 (crc body).toNat).map .data

/-! ## Fields of a record (R187) -/

/-- A mark or a named value's code: one byte. -/
def code1 (x : Nat) : List Byte := be 1 x

def mark (b : Bool) : List Byte := be 1 (boolCode b)

/-- An item that may be absent: a presence byte, then its field at full width, zero when absent (R187). -/
def optional {α : Type} (width : Nat) (f : α → List Byte) : Option α → List Byte
  | none => be 1 0 ++ List.replicate width 0
  | some x => be 1 1 ++ f x

/-- A list of varying length, preceded by its count (R187). -/
def counted {α : Type} (f : α → List Byte) (xs : List α) : List Byte := be 2 xs.length ++ xs.flatMap f

/-- A phase in a single field, 0 when absent (R186, Table 11-4). -/
def phaseField : Option Phase → List Byte
  | none => [0]
  | some p => [p.code]

/-- Whole milliseconds left of a time in microseconds: the count falls by one each time a full millisecond has passed
(Table 9-4, log 9). -/
def msLeft (us : Nat) : Nat := (us + 999) / 1000

/-- Whole seconds left of a time in microseconds (R130, log 9). -/
def secondsLeft (us : Nat) : Nat := (us + 999999) / 1000000

end Sys2Proof.Machine
end

