-- ==== Sys2Proof/Machine/Records.lean ====
section
/-! DEFINITION. The layouts of records and reports: read records under R187, each with its fields in the order in which
its own rule lists them, and the outbound reports under R188. What the model reads from R187 by inference is in log
18, what R187 leaves open in log 36. -/

namespace Sys2Proof.Machine

/-! ## Recipe entries -/

/-- The header in a slot record: the fields of the header in the order of Table 11-7, with the widths of R187, so that
each count takes 2 bytes (R22, R187; Table 11-7 gives the widths of a write order only, R190). -/
def headerBytes (h : Header) : List Byte :=
  be 4 h.recipeId.toNat ++ be 2 h.panelLength.toNat ++ be 2 h.zone.toNat ++ [h.linePitch, h.phaseSet, h.flashTop,
    h.flashRing, h.flashAxial, h.portSet] ++ be 2 h.jointCount.toNat ++ be 2 h.fiducialCount.toNat
    ++ be 2 h.ruleCount.toNat ++ [h.marginalLimit, h.spreadTolerance]

def fiducialBytes (e : FiducialEntry) : List Byte :=
  [e.port, e.phase] ++ be 2 e.column.toNat ++ be 2 e.line.toNat ++ [e.width, e.height, e.bandLow, e.bandHigh]
    ++ be 2 e.areaMin.toNat ++ be 2 e.areaMax.toNat

def jointBytes (e : JointEntry) : List Byte :=
  be 2 e.component.toNat ++ [e.port] ++ be 2 e.x.toNat ++ be 2 e.y.toNat ++ [e.width, e.height, e.rule, e.phases,
    e.crop]

def criteriaBytes (c : Criteria) : List Byte :=
  [c.used, c.bandLow, c.bandHigh, c.fillMin, c.fillMax, c.spanLimit, c.meanLow, c.meanHigh]

def ruleBytes (r : RuleEntry) : List Byte :=
  [r.fillMargin, r.spanMargin, r.meanMargin] ++ criteriaBytes r.top ++ criteriaBytes r.ring ++ criteriaBytes r.axial

/-- Entries read back, each preceded by its written mark; an entry never written reads zero (R23, R190). -/
def entriesRecord {α : Type} (t : Table α) (zero : α) (bytes : α → List Byte) (start count : Nat) : List Byte :=
  counted (fun i => mark (Table.find t (start + i)).isSome ++ bytes ((Table.find t (start + i)).getD zero))
    (List.range count)

/-! ## The slot record (R22) and the failure detail (R186) -/

def failureBytes (f : Failure) : List Byte :=
  code1 (failTableCode f.table) ++ be 2 f.index ++ code1 (checkCode f.table f.check) ++ phaseField f.phase

/-- The slot record (R22, R187); the mark that a failure detail is absent is a clear presence byte, and the phase in the
detail has R186's form, one byte that is 0 when absent, with no presence byte of its own (log 36). -/
def slotRecord (d : Device) (i : Fin 4) : List Byte :=
  let s := d.slot i
  code1 i.val ++ code1 (slotStateCode s.state) ++ mark s.header.isSome ++ headerBytes s.hdr
    ++ (List.range 4).flatMap (fun k => mark (Table.find s.fiducials k).isSome)
    ++ be 2 s.rules.length ++ be 2 s.joints.length
    ++ mark (d.activeMark .a i) ++ mark (d.pendingMark .a i) ++ mark (d.activeMark .b i) ++ mark (d.pendingMark .b i)
    ++ be 2 (d.ctxCount .a i) ++ be 2 (d.ctxCount .b i) ++ optional 5 failureBytes s.lastFailure

/-! ## The port record (R68) -/

def entryBytes (e : Entry) : List Byte :=
  be 2 e.lineTag.toNat ++ [e.phase.code] ++ code1 (match e.kind with | .triggered => 0 | .skipped => 1)
    ++ be 2 e.seq.toNat ++ be 2 e.line

def Item.isPacket (x : Item) : Bool :=
  match x.payload with
  | .packet _ _ => true
  | .lost => false

def Target.seq : Target → Option Word16
  | .panel q => some q
  | .absent | .armed => none

/-- A OneShot target: absent 0, armed 1 or panel 2, then the panel sequence, which may be absent (R68, R187, log 18). -/
def targetBytes (t : Target) : List Byte :=
  code1 (match t with | .absent => 0 | .armed => 1 | .panel _ => 2) ++ optional 2 (fun q : Word16 => be 2 q.toNat) t.seq

/-- The port record; the two monitors take a byte each like their thresholds (log 36), the fill run and the noise count
two (log 18); one presence byte stands before the tag and phase of the oldest held skip, and a panel line and the number
n take 2 bytes (log 36). -/
def portRecord (d : Device) (p : PortId) : List Byte :=
  let x := d.port p
  code1 (portCode p) ++ mark (d.portActive p) ++ code1 (streamCode x.stream) ++ code1 (lastKnownCode x.lastKnown)
    ++ be 2 x.fillRun ++ be 2 x.noiseCount ++ mark x.assembly.isSome
    ++ [x.noiseMonitor, x.checkMonitor, x.noiseThreshold, x.checkThreshold]
    ++ counted entryBytes x.outstanding
    ++ be 2 x.held.length ++ optional 3 (fun e : Entry => be 2 e.lineTag.toNat ++ [e.phase.code]) x.held.head?
    ++ be 2 (x.fifo.filter Item.isPacket).length ++ be 2 (x.fifo.filter (fun y => !y.isPacket)).length
    ++ code1 (injectionModeCode x.mode) ++ be 2 x.n.toNat ++ targetBytes x.target

/-! ## The window list (R105) -/

/-- A window of the list; the oldest window of the waiting order is at position 0, and a column and a panel line take 2
bytes (log 36). -/
def windowRecord (d : Device) (w : Window) : List Byte :=
  let sumsOf : Phase → List Byte := fun p =>
    let s := w.sums.get p
    be 2 s.n ++ be 2 s.b ++ be 3 s.s ++ be 2 s.r
  let place := d.waiting.findIdx? (fun k => decide (k = w.key))
  code1 (laneCode w.lane) ++ be 2 w.seq.toNat ++ be 2 w.joint ++ code1 (portCode ⟨w.lane, w.port⟩)
    ++ be 2 w.firstCol ++ be 2 w.lastCol ++ be 2 w.firstLine ++ be 2 w.lastLine ++ [w.phases, (lastPhaseOf w.phases).code]
    ++ be 2 w.rule ++ counted sumsOf (phasesOf w.phases) ++ mark w.loss ++ mark w.injected
    ++ optional 1 (fun i : Nat => code1 i) w.crop ++ mark w.finished ++ optional 2 (fun i : Nat => be 2 i) place

/-- The number of Free crop slots (R99, R105, R125). -/
def Device.freeCrops (d : Device) : Nat := (d.crops.filter (fun s => decide (s.state = .free))).length

def windowsRecord (d : Device) (l : LaneId) (start count : Nat) : List Byte :=
  let ws := (d.lane l).openList
  be 2 ws.length ++ be 2 (ws.filter (fun w => w.finished)).length
    ++ be 2 (d.waiting.filter (fun k => decide (k.lane = l))).length ++ be 2 d.waiting.length
    ++ be 2 d.closeQueue.length ++ be 2 d.freeCrops ++ be 2 d.cropQueue.length
    ++ counted (windowRecord d) ((ws.drop start).take count)

/-! ## The judgement record (R125) -/

def judgementRecord (d : Device) : List Byte :=
  let of : LaneId → Nat := fun l => (d.closeQueue.filter (fun w => decide (w.lane = l))).length
  let modes : LaneId → List Byte := fun l =>
    code1 (reportModeCode (d.lane l).reportMode) ++ code1 (reportDetailCode (d.lane l).reportDetail)
  be 2 d.closeQueue.length ++ be 2 (of .a) ++ be 2 (of .b)
    ++ optional 5 (fun w : Window => code1 (laneCode w.lane) ++ be 2 w.seq.toNat ++ be 2 w.joint) d.evaluation
    ++ be 2 d.trunk.verdicts.length ++ be 2 d.cropQueue.length ++ be 2 d.freeCrops ++ modes .a ++ modes .b

/-! ## The lane record (R146) -/

def settingsBytes (s : LaneSettings) : List Byte :=
  be 2 s.leadIn.toNat ++ be 2 s.edgeGuard.toNat ++ be 2 s.reverseLimit.toNat ++ be 3 s.gateDistance.toNat
    ++ be 2 s.warmupTime.toNat ++ [s.idleTimeout, s.settleReload]

def StrobeState.phase : StrobeState → Option Phase
  | .idle => none
  | .flash p | .settle p => some p

/-- The strobe state: Idle 0, Flash 1 or Settle 2, then its phase, which may be absent (R40, R187, log 18). -/
def strobeStateBytes (x : StrobeState) : List Byte :=
  code1 (match x with | .idle => 0 | .flash _ => 1 | .settle _ => 2) ++ optional 1 (fun p : Phase => [p.code]) x.phase

/-- An offset in columns and lines, in a signed byte each (log 18). -/
def offsetBytes (o : Int × Int) : List Byte := signed o.1 ++ signed o.2

def fidResultOffset : Option FidResult → Option (Int × Int)
  | some (.found dx dy) => some (dx, dy)
  | none | some .notFound | some .lost => none

/-- An accumulator's fiducial result: none 0, found 1, not found 2 or lost 3, then the offset of a found one behind one
presence byte (R69, R187, log 36). -/
def fidResultBytes (x : Option FidResult) : List Byte :=
  code1 (match x with | none => 0 | some (.found _ _) => 1 | some .notFound => 2 | some .lost => 3)
    ++ optional 2 offsetBytes (fidResultOffset x)

def accumulatorBytes (a : Accumulator) : List Byte :=
  be 2 a.index ++ mark a.result.isSome ++ mark a.lost ++ mark a.injected ++ be 2 a.area ++ fidResultBytes a.result

def resolvedBytes (r : Resolved) : List Byte :=
  be 2 r.lineTag.toNat ++ [r.phase.code] ++ be 2 r.seq.toNat ++ be 2 r.line

/-- The lane record (R146, R187). A timer's time left stands behind a presence byte, 1 while it runs and 0 when it is
stopped, the idle timer's with R146's mark that it is stopped; a reverse depth and a panel line take 2 bytes (log 36). -/
def laneRecord (d : Device) (l : LaneId) : List Byte :=
  let L := d.lane l
  let m := L.motion
  code1 (laneModeCode L.mode) ++ optional 2 (fun us : Nat => be 2 (secondsLeft us)) L.idleLeft
    ++ code1 (illuminationCode L.light) ++ optional 2 (fun us : Nat => be 2 (msLeft us)) L.warmupLeft
    ++ settingsBytes L.settings
    ++ be 4 m.h.toNat ++ be 2 m.d.toNat ++ be 4 (m.h - m.d.setWidth 32).toNat
    ++ optional 4 (fun x : Word32 => be 4 x.toNat) m.lastEdge ++ optional 4 (fun x : Word32 => be 4 x.toNat) m.nextLine
    ++ be 2 m.tagCounter.toNat ++ strobeStateBytes L.strobe.state
    ++ optional 2 (fun r : Registration => be 2 r.seq.toNat) L.reg
    ++ counted accumulatorBytes (match L.reg with | none => [] | some r => r.accumulators)
    ++ code1 (localPortCode L.lastServed) ++ optional 7 resolvedBytes L.resolved.p0 ++ optional 7 resolvedBytes L.resolved.p1
    ++ optional 1 (fun i : Fin 4 => code1 i.val) L.active ++ optional 1 (fun i : Fin 4 => code1 i.val) L.pendingRecipe
    ++ be 2 L.nextSeq.toNat
    ++ ([0, 1, 2, 3] : List (Fin 4)).flatMap (fun n =>
        optional 3 (fun c : Context => code1 (ctxStateCode c.state) ++ be 2 c.seq.toNat) (L.ctx n))
    ++ be 2 (d.retireOrder.filter (fun r => decide (r.1 = l))).length
    ++ code1 (reportModeCode L.reportMode) ++ code1 (reportDetailCode L.reportDetail)
    ++ code1 (gateModeCode L.gate.mode) ++ code1 (overrideCode L.gate.forced) ++ mark L.gate.hold
    ++ code1 (divertCode L.gate.divert) ++ be 2 L.gate.queue.length

/-! ## The panel record (R147) and the panel report (R143, Table 11-5) -/

def regOffset : RegState → Option (Int × Int)
  | .found dx dy => some (dx, dy)
  | .pending | .failed _ => none

def regCause : RegState → Option RegCause
  | .failed c => some c
  | .pending | .found _ _ => none

def regStateCode : RegState → Nat
  | .pending => 0
  | .found _ _ => 1
  | .failed _ => 2

def fidOutcomeCode : FidOutcome → Nat
  | .found _ _ _ => 0
  | .notFound _ => 1
  | .lost => 2
  | .notClosed => 3

/-- The area A, which a found and a not found fiducial have (chapter 4, opening). -/
def fidOutcomeArea : FidOutcome → Option Nat
  | .found a _ _ | .notFound a => some a
  | .lost | .notClosed => none

def fidOutcomeOffset : FidOutcome → Option (Int × Int)
  | .found _ dx dy => some (dx, dy)
  | .notFound _ | .lost | .notClosed => none

/-- One fiducial of the detail in a panel report: outcome, area and offsets, zero where there is none (Table 11-5). -/
def fidReportBytes (x : FidOutcome) : List Byte :=
  code1 (fidOutcomeCode x) ++ be 2 ((fidOutcomeArea x).getD 0) ++ offsetBytes ((fidOutcomeOffset x).getD (0, 0))

/-- One fiducial of the detail in a read record: outcome, the area behind a presence byte and the offset behind one (R81,
R187, log 36). -/
def fidOutcomeBytes (x : FidOutcome) : List Byte :=
  code1 (fidOutcomeCode x) ++ optional 2 (be 2) (fidOutcomeArea x) ++ optional 2 offsetBytes (fidOutcomeOffset x)

/-- The registration record in full, in the order of R81: one presence byte before the pair dx and dy, and the failure
cause as a presence byte and its position in Table 11-5 (log 36). -/
def regRecordBytes (r : RegRecord) : List Byte :=
  code1 (regStateCode r.state) ++ optional 2 offsetBytes (regOffset r.state)
    ++ optional 1 (fun c : RegCause => code1 (regCauseCode c)) (regCause r.state) ++ mark r.injected
    ++ counted (fun e : Nat × FidOutcome => be 2 e.1 ++ fidOutcomeBytes e.2) r.detail

def causeCountBytes (c : CauseCounts) : List Byte :=
  be 2 c.registration ++ be 2 c.windowOverflow ++ be 2 c.aborted ++ be 2 c.dataLoss ++ be 2 c.warmup ++ be 2 c.overlap

/-- The panel record; a live context's begins with the context number and a clear free mark, as a free context's begins
with its number and a set one (log 36). -/
def panelRecord (d : Device) (l : LaneId) (n : Fin 4) : List Byte :=
  match (d.lane l).ctx n with
  | none => code1 n.val ++ mark true
  | some c =>
    code1 n.val ++ mark false ++ be 2 c.seq.toNat ++ code1 (ctxStateCode c.state) ++ code1 c.slot.val
      ++ be 4 c.recipeId.toNat ++ be 4 c.edge.toNat ++ be 4 c.scanStart.toNat
      ++ optional 2 (fun t : Word16 => be 2 t.toNat) c.firstTag ++ regRecordBytes c.reg ++ be 2 c.pointer
      ++ be 2 c.opened ++ be 2 c.pass ++ be 2 c.marginal ++ be 2 c.defect ++ be 2 c.unjudged ++ causeCountBytes c.causes
      ++ be 2 c.injected ++ be 2 c.verdictsLost ++ be 2 c.cropsMissed ++ code1 (abortCode c.abort)
      ++ code1 (decisionCode c.decision) ++ code1 (gateActionCode c.gateAction) ++ mark c.late
      ++ be 2 (d.inFlight l c.seq)

def panelReportPayload (r : PanelReport) : List Byte :=
  let c := r.ctx
  let off := (regOffset c.reg.state).getD (0, 0)
  code1 (laneCode r.lane) ++ code1 c.num.val ++ be 2 c.seq.toNat ++ code1 c.slot.val ++ be 4 c.recipeId.toNat
    ++ be 4 c.edge.toNat ++ be 4 c.scanStart.toNat ++ be 2 (c.firstTag.getD 0).toNat
    ++ code1 (regStateCode c.reg.state) ++ offsetBytes off
    ++ code1 (match regCause c.reg.state with | none => 0 | some x => regCauseCode x)
    ++ code1 c.reg.detail.length ++ c.reg.detail.flatMap (fun e => code1 e.1 ++ fidReportBytes e.2)
    ++ be 2 r.jointCount ++ be 2 c.opened ++ be 2 c.pass ++ be 2 c.marginal ++ be 2 c.defect ++ be 2 c.unjudged
    ++ be 2 c.injected ++ causeCountBytes c.causes ++ be 2 c.verdictsLost ++ be 2 c.cropsMissed
    ++ code1 (abortCode c.abort) ++ code1 (decisionCode c.decision) ++ code1 (gateActionCode c.gateAction)
    ++ code1 (boolCode c.late + 2 * boolCode c.firstTag.isSome + 4 * boolCode c.reg.injected)

/-! ## The verdict report (Table 11-4) -/

def primaryCode (j : Judged) : Nat :=
  match j.verdict, j.primary with
  | .unjudged, _ => 5
  | _, none => 0
  | _, some (c, _) => causeCode c

def causeSetCode (c : CauseSet) : Nat :=
  levelCode c.bridge + 4 * levelCode c.nonWetting + 16 * levelCode c.insufficient + 64 * levelCode c.excess

def featureBytes (f : Features) : List Byte := [f.phase.code] ++ be 1 f.fill ++ be 1 f.mean ++ be 1 f.span

/-- A verdict report; a Full report of an Unjudged verdict sends a count of 0 used phases (log 33). -/
def verdictReportPayload (r : VerdictReport) : List Byte :=
  let full := decide (r.detail = .full)
  code1 (laneCode r.lane) ++ be 2 r.seq.toNat ++ be 4 r.recipeId.toNat ++ be 2 r.joint ++ be 2 r.component.toNat
    ++ code1 r.rule ++ code1 (portCode ⟨r.lane, r.port⟩) ++ be 2 r.firstCol ++ be 2 r.firstLine
    ++ code1 (verdictCode r.judged.verdict) ++ code1 (primaryCode r.judged) ++ phaseField (r.judged.primary.map (·.2))
    ++ code1 (causeSetCode r.judged.causes)
    ++ code1 (boolCode r.injected + 2 * boolCode r.loss + 4 * boolCode r.crop + 8 * boolCode full)
    ++ (if full then code1 r.judged.features.length ++ r.judged.features.flatMap featureBytes else [])

/-! ## The gate record (R160) -/

def GateKind.context : GateKind → Option (Fin 4)
  | .linked n => some n
  | .fixedReview => none

/-- A gate entry: position, sequence, its kind, linked 0 or fixed Review 1, and the context number of a linked one behind a
presence byte (R160, R187). -/
def gateEntryBytes (e : GateEntry) : List Byte :=
  be 4 e.pos.toNat ++ be 2 e.seq.toNat ++ code1 (match e.kind with | .linked _ => 0 | .fixedReview => 1)
    ++ optional 1 (fun n : Fin 4 => code1 n.val) e.kind.context

def gateRecord (g : Gate) : List Byte :=
  let seenBits := boolCode g.seen.cameraLoss + 2 * boolCode g.seen.motionFault + 4 * boolCode g.seen.panelOverrun
    + 8 * boolCode g.seen.warmupLate + 16 * boolCode g.seen.trunkStall + 32 * boolCode g.seen.verdictLoss
  code1 (divertCode g.divert) ++ code1 (gateModeCode g.mode) ++ code1 (overrideCode g.forced) ++ mark g.hold
    ++ code1 seenBits ++ counted gateEntryBytes g.queue
    ++ faultKinds.flatMap (fun k => code1 (overrideCode (g.table.get k).override) ++ mark (g.table.get k).hold)
    ++ faultKinds.flatMap (fun k => be 2 (g.counts.get k))

/-! ## The trunk records (R172), conditions (R180), notices and crop reports (R188) -/

/-- Vendor code, part number, revision, and the capacities of Table 0-3 in the order R172 lists them, each in 2 bytes and
one that the table gives as a range by its upper bound (log 36). -/
def identifyRecord : List Byte :=
  be 2 21079 ++ be 2 4410 ++ be 1 1
    ++ ([4, 8192, 4, 64, 2, 4, 4, 4, 512, 128, 1024, 8, 48, 16, 16, 16] : List Nat).flatMap (be 2)

/-- The trunk record; the frame in transmission is shown by its kind code of Table 11-1, and a stopped stall timer by a
clear presence byte (log 36). -/
def trunkRecord (d : Device) : List Byte :=
  let t := d.trunk
  code1 (linkCode t.link) ++ be 2 t.syncRun ++ be 2 t.credit ++ be 2 t.inbound.length ++ be 2 t.replies.length
    ++ mark d.validation.isSome ++ counted (fun i => code1 (setCode i)) d.cond.noticeQueue
    ++ be 2 t.panelReports.length ++ be 2 t.verdicts.length ++ be 2 d.cropQueue.length
    ++ optional 1 (fun f : Frame => [frameKindCode f.kind]) t.frame
    ++ be 2 t.stallLimit.toNat ++ optional 2 (fun us : Nat => be 2 (msLeft us)) t.stallLeft

/-- The conditions of a set with its summaries as one list of two bytes, then the mask, as a notice lays them out (log
36). -/
def conditionsRecord (u : CondUnit) (i : SetId) : List Byte := be 2 (u.view i).toNat ++ be 2 (u.get i).mask.toNat

def noticePayload (u : CondUnit) (i : SetId) : List Byte := code1 (setCode i) ++ conditionsRecord u i

def cropReportPayload (i : Nat) (s : CropSlot) : List Byte :=
  let owner : List Byte :=
    match s.owner with
    | none => List.replicate 12 0
    | some o =>
      code1 (laneCode o.lane) ++ be 2 o.seq.toNat ++ be 2 o.joint ++ be 2 o.firstCol ++ be 2 o.firstLine
        ++ code1 o.width ++ code1 o.height ++ [o.phases]
  code1 i ++ owner ++ Memory.readList s.planes 0 12288

def replyPayload (r : Reply) : List Byte := [r.tag, r.code] ++ code1 (replyCodeCode r.outcome) ++ r.body

end Sys2Proof.Machine
end

