-- ==== Sys2Proof/Machine/Conditions.lean ====
section
/-! DEFINITION. The orders of the condition unit (chapter 10): Read Conditions, Clear Conditions, Set Mask. -/

namespace Sys2Proof.Machine

/-- Read Conditions: the reply carries the set, and the conditions set, summaries excluded, become its snapshot (R180). -/
def takeReadConditions (tag set : Byte) (d : Device) : Device :=
  match setOf set with
  | none => d.reply tag 0x78 .refusedRange []
  | some i =>
    (d.updateConds (fun u => u.mod i (fun c => { c with snapshot := some c.raised }))).reply tag 0x78 .done
      (conditionsRecord d.cond i)

/-- The listed conditions that a clear removes: those in the snapshot (R181). -/
def CondSet.clearable (c : CondSet) (list : Word16) : Word16 := list &&& c.snapshot.getD 0

/-- Whether a clear leaves a listed condition set: one set and not in the snapshot (R181). -/
def CondSet.inhibits (c : CondSet) (list : Word16) : Bool :=
  decide (list &&& c.raised &&& ~~~(c.snapshot.getD 0) ≠ 0)

/-- A set after a clear; `standing` is what is raised again in the same order (R181, R182). -/
def CondSet.clearList (list standing : Word16) (c : CondSet) : CondSet :=
  { c with raised := (c.raised &&& ~~~(c.clearable list)) ||| standing, snapshot := none }

/-- The conditions a set's owner holds standing: a port's NoiseThreshold and CheckThreshold (R56, R182). -/
def Device.standingOf (d : Device) : SetId → Word16
  | .device | .lane _ => 0
  | .port p => (d.port p).standing

/-- The effect of a clear on the condition unit, taken whole (R181, R182). -/
def CondUnit.clearConds (i : SetId) (list standing : Word16) (u : CondUnit) : CondUnit :=
  let inhibited := (u.get i).inhibits list
  let u := u.mod i (CondSet.clearList list standing)
  if inhibited then u.mod .device (fun c => { c with raised := c.raised ||| DeviceCond.clearInhibited.bit }) else u

/-- Clear Conditions (R181): a condition the set does not have, or a summary, is refused. -/
def takeClearConditions (tag set : Byte) (list : Word16) (d : Device) : Device :=
  match setOf set with
  | none => d.reply tag 0x79 .refusedRange []
  | some i =>
    if list &&& ~~~(ownBits i) ≠ 0 then d.reply tag 0x79 .refusedRange []
    else (d.updateConds (CondUnit.clearConds i list (d.standingOf i))).reply tag 0x79 .done []

/-- Set Mask (R178): summaries may be listed, a condition the set does not have is refused. -/
def takeSetMask (tag set : Byte) (list : Word16) (d : Device) : Device :=
  match setOf set with
  | none => d.reply tag 0x7A .refusedRange []
  | some i =>
    if list &&& ~~~(ownBits i ||| summaryBits i) ≠ 0 then d.reply tag 0x7A .refusedRange []
    else (d.updateConds (fun u => u.mod i (fun c => { c with mask := list }))).reply tag 0x7A .done []

/-! ## The commands -/

def execReadConditions (tag set : Byte) (s : State) : Host.Outcome State Fault Refusal :=
  event (fun d => d.arrive tag (.readConditions set) (takeReadConditions tag set)) s

def execClearConditions (tag set : Byte) (list : Word16) (s : State) : Host.Outcome State Fault Refusal :=
  event (fun d => d.arrive tag (.clearConditions set list) (takeClearConditions tag set list)) s

def execSetMask (tag set : Byte) (list : Word16) (s : State) : Host.Outcome State Fault Refusal :=
  event (fun d => d.arrive tag (.setMask set list) (takeSetMask tag set list)) s

end Sys2Proof.Machine
end

