-- ==== Sys2Proof/Machine/Panels.lean ====
section
/-! DEFINITION. What lane control does with panel contexts and the lane state (chapter 7): timers of the lane state,
decision, retirement; and the gate unit's arrivals and entries (chapter 8, sections 8.2 and 8.3). -/

namespace Sys2Proof.Machine

/-! ## Lane state and its timers (R45, R128 to R130) -/

/-- Loads the idle timer of a lane left Ready with no Waiting context; an idle timeout of 0 never loads it (R130). -/
def Lane.loadIdle (L : Lane) : Lane :=
  if L.settings.idleTimeout ≠ 0 ∧ L.mode = .ready ∧ L.oldestWaiting = none then
    { L with idleLeft := some (L.settings.idleTimeout.toNat * 1000000) }
  else L

/-- Entry into Ready: the lights are ready and the idle timer is loaded where R130 says so. -/
def Lane.enterReady (L : Lane) : Lane := Lane.loadIdle { L with mode := .ready, light := .ready }

/-- The warm-up timer expires: the illumination becomes ready and the lane Ready (R45, R129). -/
def Lane.warmupExpires (L : Lane) : Lane := Lane.enterReady { L with warmupLeft := none }

/-- Entry into Warming: the lights go on and the warm-up timer is loaded; a time of 0 expires as it is loaded (R45). -/
def Lane.enterWarming (L : Lane) : Lane :=
  let L := { L with mode := .warming, light := .warming, warmupLeft := some (L.settings.warmupTime.toNat * 1000) }
  if L.settings.warmupTime = 0 then L.warmupExpires else L

/-- Return to Standby: the lights go off and both timers stop (R45, R130). -/
def Lane.enterStandby (L : Lane) : Lane :=
  { L with mode := .standby, light := .off, warmupLeft := none, idleLeft := none }

/-! ## Decision and retirement (sections 7.5 and 7.7) -/

/-- The joint count of a context's recipe. -/
def Device.jointCount (d : Device) (c : Context) : Nat := (d.slot c.slot).hdr.jointCount.toNat

/-- The decision from the counts and the marginal limit, first case that applies (R140). -/
def decisionOf (c : Context) (marginalLimit : Nat) : Decision :=
  if 1 ≤ c.defect then .reject
  else if 1 ≤ c.unjudged ∨ 1 ≤ c.injected ∨ marginalLimit < c.marginal then .review
  else .accept

/-- The context of a number becomes free and its panel report joins the panel report queue (R142, R143). -/
def Device.retireNow (d : Device) (l : LaneId) (n : Fin 4) : Device :=
  match (d.lane l).ctx n with
  | none => d
  | some c =>
    let report : PanelReport := { lane := l, ctx := c, jointCount := d.jointCount c }
    (d.modLane l (fun L => { L with live := L.live.filter (fun x => decide (x.num ≠ n)) })).modTrunk
      (fun t => { t with panelReports := t.panelReports ++ [report] })

/-- A context that is decided and past the gate retires at once, or becomes Retiring behind the others (R142). -/
def Device.retire (d : Device) (l : LaneId) (n : Fin 4) : Device :=
  if d.retireOrder.isEmpty && decide (d.trunk.panelReports.length < 8) then d.retireNow l n
  else
    let d := d.modCtx l n (fun c => { c with state := .retiring })
    { d with retireOrder := d.retireOrder ++ [(l, n)] }

/-- While the panel report queue has room, the oldest of the retire order retires (R142). -/
def Device.retireFrom : List (LaneId × Fin 4) → Device → Device
  | [], d => { d with retireOrder := [] }
  | r :: rest, d =>
    if d.trunk.panelReports.length < 8 then Device.retireFrom rest (d.retireNow r.1 r.2)
    else { d with retireOrder := r :: rest }

/-- Decides a Settling or Passed context that is fully accounted for; a Passed one then retires (R139, R140). -/
def Device.tryDecide (d : Device) (l : LaneId) (n : Fin 4) : Device :=
  match (d.lane l).ctx n with
  | none => d
  | some c =>
    if c.accounted = d.jointCount c then
      let dec := decisionOf c (d.slot c.slot).hdr.marginalLimit.toNat
      let rejected : Device → Device := fun d => if dec = .reject then d.raiseLane l .panelRejected else d
      match c.state with
      | .settling => rejected (d.modCtx l n (fun c => { c with decision := some dec, state := .decided }))
      | .passed => (rejected (d.modCtx l n (fun c => { c with decision := some dec }))).retire l n
      | .waiting | .scanning | .decided | .retiring => d
    else d

/-- A context leaves Waiting or Scanning: Settling, or Passed if it has already passed the gate (R136 to R138). -/
def Device.settleCtx (d : Device) (l : LaneId) (n : Fin 4) : Device :=
  d.modCtx l n (fun c => { c with state := if c.passedGate then .passed else .settling })

/-- An abort cause once written is kept (R131). -/
def Context.writeAbort (c : Context) (a : AbortCause) : Context := if c.abort = .none then { c with abort := a } else c

/-! ## The gate unit (sections 8.2 and 8.3) -/

/-- A gate entry passed by lane control joins the gate queue, or is refused with PanelOverrun when it holds 4; a
refused linked entry leaves its context without one (R134, R149). -/
def Device.passGateEntry (d : Device) (l : LaneId) (e : GateEntry) : Device :=
  let L := d.lane l
  if L.gate.queue.length < 4 then d.setLane l { L with gate := { L.gate with queue := L.gate.queue ++ [e] } }
  else
    let d := d.fault l .panelOverrun
    match e.kind with
    | .linked n => d.modCtx l n (fun c => { c with gateAction := .noEntry })
    | .fixedReview => d

/-- The decision a gate entry's context has reached, when it is Decided (R151). -/
def Context.decidedAs (c : Context) : Option Decision := if c.state = .decided then c.decision else none

/-- The context a gate entry is linked to. -/
def Lane.entryCtx (L : Lane) (e : GateEntry) : Option Context :=
  match e.kind with
  | .linked n => L.ctx n
  | .fixedReview => none

/-- The effective code: forced, gate mode, fixed Review, decided, not yet decided (R151). -/
def Lane.effectiveCode (L : Lane) (e : GateEntry) : Decision :=
  match L.gate.forced, L.gate.mode with
  | .reviewAll, _ => .review
  | .rejectAll, _ => .reject
  | .none, .acceptAll => .accept
  | .none, .reviewAll => .review
  | .none, .rejectAll => .reject
  | .none, .follow => ((L.entryCtx e).bind Context.decidedAs).getD .review

/-- What a gate arrival does to the linked context (R141, R152). -/
def Device.gateAct (d : Device) (l : LaneId) (c : Context) (code : Decision) : Device :=
  match c.state with
  | .decided => (d.modCtx l c.num (fun c => { c with gateAction := .applied code })).retire l c.num
  | .settling =>
    (d.modCtx l c.num (fun c => { c with gateAction := .applied code, late := true, state := .passed })).raiseLane l
      .lateDecision
  | .waiting | .scanning =>
    (d.modCtx l c.num (fun c => { c with gateAction := .applied code, late := true })).raiseLane l .lateDecision
  | .passed | .retiring => d

/-- A gate arrival: the oldest entry is removed, the divert code set, the linked context acted on (R150). -/
def Device.gateArrival (d : Device) (l : LaneId) : Device :=
  let L := d.lane l
  match L.gate.queue with
  | [] => d
  | e :: rest =>
    let code := L.effectiveCode e
    let d := d.setLane l { L with gate := { L.gate with queue := rest, divert := code } }
    match L.entryCtx e with
    | none => d
    | some c => d.gateAct l c code

/-- Whether the oldest gate entry's position is reached (R30, R150). -/
def Lane.gateDue (L : Lane) : Bool :=
  match L.gate.queue with
  | [] => false
  | e :: _ => atOrBeyond L.motion.h e.pos

/-- Gate arrivals while the oldest entry's position is reached; `fuel` bounds them by the entries queued. -/
def Device.gateArrivals (l : LaneId) : Nat → Device → Device
  | 0, d => d
  | fuel + 1, d => if (d.lane l).gateDue then Device.gateArrivals l fuel (d.gateArrival l) else d

end Sys2Proof.Machine
end

