-- ==== Sys2Proof/Machine/Registration.lean ====
section
/-! DEFINITION. The registration unit (chapter 4). -/

namespace Sys2Proof.Machine

/-! ## Measuring a fiducial (section 4.2) -/

/-- An accumulator at scan start: Open, both marks clear, sums zero (R70). -/
def Accumulator.fresh (i : Nat) : Accumulator :=
  { index := i, lost := false, injected := false, area := 0, columnSum := 0, lineSum := 0, result := none }

/-- The in-band pixels of a run of columns from `col`: how many, and the sum of their columns (R72). -/
def bandSums (low high : Byte) : Nat → List Byte → Nat × Nat
  | _, [] => (0, 0)
  | col, b :: bs =>
    let r := bandSums low high (col + 1) bs
    if inBand low high b then (r.1 + 1, r.2 + col) else r

/-- Whether an Open accumulator takes an item of its panel (R71): port, phase and box lines. -/
def Accumulator.takes (e : FiducialEntry) (p : LocalPort) (x : Item) (a : Accumulator) : Bool :=
  let first := boxStart e.line e.height
  a.result.isNone && decide (localPortOf e.port = some p) && decide (phaseOfCode e.phase = some x.phase)
    && decide (first ≤ x.line) && decide ((x.line : Int) < first + e.height.toNat)

/-- A row added to an accumulator: a packet's in-band pixels in the box's columns, or the lost mark (R72, R73). -/
def Accumulator.addRow (e : FiducialEntry) (x : Item) (a : Accumulator) : Accumulator :=
  match x.payload with
  | .lost => { a with lost := true }
  | .packet px inj =>
    let first := (boxStart e.column e.width).toNat
    let s := bandSums e.bandLow e.bandHigh first ((px.drop first).take e.width.toNat)
    { a with area := a.area + s.1, columnSum := a.columnSum + s.2, lineSum := a.lineSum + s.1 * x.line,
             injected := a.injected || inj }

/-- The fiducial result of a closing accumulator; centroids are rounded down (R74). -/
def Accumulator.close (e : FiducialEntry) (a : Accumulator) : FidResult :=
  if a.lost then .lost
  else if a.area < e.areaMin.toNat ∨ e.areaMax.toNat < a.area then .notFound
  else .found (((a.columnSum / a.area : Nat) : Int) - e.column.toNat) (((a.lineSum / a.area : Nat) : Int) - e.line.toNat)

/-- An accumulator offered an item: takes its row and closes on the last line of its box (R71 to R74). -/
def Accumulator.offer (e : FiducialEntry) (p : LocalPort) (x : Item) (a : Accumulator) : Accumulator :=
  if a.takes e p x then
    let a := a.addRow e x
    if (x.line : Int) = boxStart e.line e.height + e.height.toNat - 1 then { a with result := some (a.close e) } else a
  else a

/-! ## The panel offset (R75) -/

/-- The offsets of the found fiducials. -/
def foundOffsets (as : List Accumulator) : List (Int × Int) :=
  as.filterMap (fun a =>
    match a.result with
    | some (.found dx dy) => some (dx, dy)
    | some .notFound | some .lost | none => none)

def differBeyond (tol : Nat) (x y : Int) : Bool := decide (tol < (x - y).natAbs)

/-- Whether two found fiducials disagree by more than the spread tolerance (R75, case 3). -/
def spreadTooWide (tol : Nat) (os : List (Int × Int)) : Bool :=
  os.any (fun a => os.any (fun b => differBeyond tol a.1 b.1 || differBeyond tol a.2 b.2))

/-- The registration result from closed accumulators, first case that applies; quotients are rounded toward zero
(R75). -/
def combine (h : Header) (as : List Accumulator) : RegState :=
  let os := foundOffsets as
  let n : Int := h.fiducialCount.toNat
  let dx := Int.tdiv (os.map (fun o : Int × Int => o.1)).sum n
  let dy := Int.tdiv (os.map (fun o : Int × Int => o.2)).sum n
  if as.any (fun a => decide (a.result = some .lost)) then .failed .loss
  else if as.any (fun a => decide (a.result = some .notFound)) then .failed .notFound
  else if spreadTooWide h.spreadTolerance.toNat os then .failed .spread
  else if dx < -64 ∨ 64 < dx ∨ dy < -64 ∨ 64 < dy then .failed .notFound
  else .found dx dy

/-- The fiducial detail entry of an accumulator (R75, R76). -/
def Accumulator.outcome (a : Accumulator) : Nat × FidOutcome :=
  (a.index,
    match a.result with
    | some (.found dx dy) => .found a.area dx dy
    | some .notFound => .notFound a.area
    | some .lost => .lost
    | none => .notClosed)

/-! ## The result in the part (R76 to R79) -/

/-- The panel's record when a registration ends; an injected row marks it and adds one to Injected (R75, R79). -/
def Context.recordReg (r : Registration) (st : RegState) (c : Context) : Context :=
  let inj := r.accumulators.any (fun a => a.injected)
  { c with reg := { state := st, detail := r.accumulators.map Accumulator.outcome, injected := inj },
           injected := c.injected + (if inj then 1 else 0) }

/-- A failed registration counts every joint Unjudged with cause Registration and leaves none to schedule (R78, R131). -/
def Context.regFailed (joints : Nat) (c : Context) : Context :=
  { c with causes := { c.causes with registration := c.causes.registration + joints }, pointer := joints }.writeAbort
    .registration

/-- The registration of the lane's panel ends with a result: the record is written, the unit freed, and a failure acted
on by lane control (R75, R76, R78, R79). -/
def Device.endRegistration (d : Device) (l : LaneId) (r : Registration) (st : RegState) : Device :=
  let joints := match (d.lane l).ctx r.ctx with | none => 0 | some c => d.jointCount c
  let d := (d.modLane l (fun L => { L with reg := none })).modCtx l r.ctx (Context.recordReg r st)
  match st with
  | .failed _ => (d.modCtx l r.ctx (Context.regFailed joints)).raiseLane l .registrationFailed
  | .pending | .found _ _ => d

/-- The slot of a panel under registration. -/
def Device.regSlot (d : Device) (l : LaneId) (r : Registration) : Slot :=
  match (d.lane l).ctx r.ctx with
  | none => .empty
  | some c => d.slot c.slot

/-- The registration unit takes or ignores an item of a port; when the last accumulator closes, the result is fixed
(R71, R74, R75). -/
def Device.registerItem (d : Device) (l : LaneId) (p : LocalPort) (x : Item) : Device :=
  match (d.lane l).reg with
  | none => d
  | some r =>
    if x.seq = r.seq then
      let s := d.regSlot l r
      let as := r.accumulators.map (fun a => a.offer (s.fiducial a.index) p x)
      let r := { r with accumulators := as }
      if as.all (fun a => a.result.isSome) then d.endRegistration l r (combine s.hdr as)
      else d.modLane l (fun L => { L with reg := some r })
    else d

/-- The registration deadline: a registration still Pending fails with cause Late (R38, R76). -/
def Device.registrationDeadline (d : Device) (l : LaneId) : Device :=
  match (d.lane l).reg with
  | none => d
  | some r => d.endRegistration l r (.failed .late)

/-- The unit takes the newly Scanning panel and opens one accumulator per fiducial (R70). -/
def Lane.startRegistration (L : Lane) (c : Context) (h : Header) : Lane :=
  { L with reg := some { seq := c.seq, ctx := c.num,
                         accumulators := (List.range h.fiducialCount.toNat).map Accumulator.fresh } }

end Sys2Proof.Machine
end

