-- ==== Sys2Proof/Machine/Windows.lean ====
section
/-! DEFINITION. Windows and measurement (chapter 5): opening, accumulation, closing, the close queue, the crop store. -/

namespace Sys2Proof.Machine

/-! ## The crop store (section 5.8) -/

/-- Changes one crop slot. -/
def Device.modCrop (d : Device) (i : Nat) (f : CropSlot → CropSlot) : Device := { d with crops := d.crops.modify i f }

/-- A crop slot becomes Free with no owner and leaves the crop queue; its pixels stay (R102, R122). -/
def Device.freeCrop (d : Device) (i : Nat) : Device :=
  { d.modCrop i (fun s => { s with state := .free, owner := none }) with
    cropQueue := d.cropQueue.filter (fun j => decide (j ≠ i)) }

/-- Frees the crop slot a window holds, if it holds one. -/
def Device.freeCropOf (d : Device) (w : Window) : Device :=
  match w.crop with
  | none => d
  | some i => d.freeCrop i

/-- The Free slot of lowest number (R100). -/
def Device.lowestFree (d : Device) : Option Nat := d.crops.findIdx? (fun s => decide (s.state = .free))

/-- The owner a window writes into its crop slot (R99). -/
def Window.owner (w : Window) : CropOwner :=
  { lane := w.lane, seq := w.seq, joint := w.joint, firstCol := w.firstCol, firstLine := w.firstLine,
    width := w.lastCol + 1 - w.firstCol, height := w.lastLine + 1 - w.firstLine, phases := w.phases }

/-- A slot taken by an opening window: Capturing, owner set, every pixel zero (R100). -/
def Device.takeCrop (d : Device) (w : Window) (i : Nat) : Device :=
  d.modCrop i (fun _ => { state := .capturing, owner := some w.owner, planes := [] })

/-! ## Opening (section 5.2) -/

/-- The open list holds at most 512 windows (R83). -/
def openListPlaces : Nat := 512

/-- A window's place in the open list: behind the windows of older panels, then by last line, then by joint (R83). -/
def insertWindow (w : Window) : List Window → List Window
  | [] => [w]
  | v :: r =>
    if v.seq ≠ w.seq ∨ v.lastLine < w.lastLine ∨ (v.lastLine = w.lastLine ∧ v.joint < w.joint) then
      v :: insertWindow w r
    else w :: v :: r

def Sums.zero : Sums := { n := 0, b := 0, s := 0, r := 0 }

/-- The record of a joint opened with the panel's offset (Table 5-1, R86). -/
def openedWindow (l : LaneId) (c : Context) (e : JointEntry) (dx dy : Int) : Window :=
  let col := ((e.x.toNat : Int) + dx).toNat
  let line := ((e.y.toNat : Int) + dy).toNat
  { lane := l, seq := c.seq, joint := c.pointer, port := (localPortOf e.port).getD .p0,
    firstCol := col, lastCol := col + e.width.toNat - 1, firstLine := line, lastLine := line + e.height.toNat - 1,
    phases := e.phases, rule := e.rule.toNat, sums := { top := .zero, ring := .zero, axial := .zero },
    loss := false, injected := false, crop := none, finished := false }

/-- The scheduler schedules the joint at the pointer: counted WindowOverflow when the open list is full, otherwise
opened, with a crop slot where it wants one and one is Free (R85 to R87, R100). -/
def Device.scheduleJoint (d : Device) (l : LaneId) (c : Context) (e : JointEntry) (dx dy : Int) : Device :=
  if openListPlaces ≤ (d.lane l).openList.length then
    (d.modCtx l c.num (fun c =>
      { c with causes := { c.causes with windowOverflow := c.causes.windowOverflow + 1 },
               pointer := c.pointer + 1 })).raiseLane l .windowOverflow
  else
    let w := openedWindow l c e dx dy
    let slot := if e.crop = 1 then d.lowestFree else none
    let missed := if e.crop = 1 ∧ slot = none then 1 else 0
    let d := match slot with | none => d | some i => d.takeCrop w i
    let d := d.modLane l (fun L => { L with openList := insertWindow { w with crop := slot } L.openList })
    d.modCtx l c.num (fun c =>
      { c with opened := c.opened + 1, pointer := c.pointer + 1, cropsMissed := c.cropsMissed + missed })

/-- Opens the joints that an issued line reaches, in index order, while the registration is Found (R85); `fuel` bounds
them by the joint count. -/
def Device.openJoints (l : LaneId) (n : Fin 4) (line : Nat) : Nat → Device → Device
  | 0, d => d
  | fuel + 1, d =>
    match (d.lane l).ctx n with
    | none => d
    | some c =>
      match c.reg.state with
      | .pending | .failed _ => d
      | .found dx dy =>
        let e := (d.slot c.slot).joint c.pointer
        if c.pointer < d.jointCount c ∧ (e.y.toNat : Int) + dy ≤ line then
          Device.openJoints l n line fuel (d.scheduleJoint l c e dx dy)
        else d

/-! ## Accumulation (section 5.4) -/

/-- The longest run of consecutive in-band pixels of a row, `cur` long so far at its front and `best` before (R91). -/
def longestRun (low high : Byte) : Nat → Nat → List Byte → Nat
  | cur, best, [] => max cur best
  | cur, best, b :: bs =>
    if inBand low high b then longestRun low high (cur + 1) best bs else longestRun low high 0 (max cur best) bs

/-- A row of pixels added to the sums of its phase under the band of the window's rule (R91). -/
def Sums.addRow (c : Criteria) (row : List Byte) (s : Sums) : Sums :=
  { n := s.n + row.length, b := s.b + (row.filter (inBand c.bandLow c.bandHigh)).length,
    s := s.s + (row.map BitVec.toNat).sum, r := max s.r (longestRun c.bandLow c.bandHigh 0 0 row) }

/-- Whether a window takes an item of a port (R90). -/
def Window.takes (p : LocalPort) (x : Item) (w : Window) : Bool :=
  !w.finished && decide (w.seq = x.seq) && decide (w.port = p) && decide (w.firstLine ≤ x.line)
    && decide (x.line ≤ w.lastLine) && phaseIn w.phases x.phase

/-- The pixels of a line in a window's column range. -/
def Window.row (w : Window) (px : List Byte) : List Byte := (px.drop w.firstCol).take (w.lastCol + 1 - w.firstCol)

/-- A window fed an item it takes (R91, R92). -/
def Window.feed (rule : RuleEntry) (x : Item) (w : Window) : Window :=
  match x.payload with
  | .lost => { w with loss := true }
  | .packet px inj =>
    { w with sums := w.sums.set x.phase ((w.sums.get x.phase).addRow (ruleCriteria rule x.phase) (w.row px)),
             injected := w.injected || inj }

/-- The address of a crop pixel (R99): plane of the phase, row, column. -/
def cropAddress (p : Phase) (row col : Nat) : Nat := phaseBit p * 4096 + row * 64 + col

/-- A packet taken by a window that holds a crop slot is copied into the slot (R101). -/
def Device.copyCrop (x : Item) (d : Device) (w : Window) : Device :=
  match w.crop, x.payload with
  | some i, .packet px _ =>
    d.modCrop i (fun s =>
      { s with planes := Memory.writeList s.planes (cropAddress x.phase (x.line - w.firstLine) 0) (w.row px) })
  | _, _ => d

/-- The rule a window is judged by, from the slot of its panel's context (R91, R108). -/
def Device.ruleOf (d : Device) (w : Window) : RuleEntry :=
  match (d.lane w.lane).ctxOfSeq w.seq with
  | none => zeroRuleEntry
  | some c => (d.slot c.slot).rule w.rule

/-- Step 2 of R89: every window that takes the item is fed and its crop copied. -/
def Device.feedWindows (d : Device) (l : LaneId) (p : LocalPort) (x : Item) : Device :=
  let ws := (d.lane l).openList
  let fed := ws.map (fun w => if w.takes p x then w.feed (d.ruleOf w) x else w)
  let d := d.modLane l (fun L => { L with openList := fed })
  (ws.filter (Window.takes p x)).foldl (Device.copyCrop x) d

/-! ## Closing and the close queue (sections 5.5 and 5.6) -/

/-- Whether an item is the last row of an Accumulating window in its last phase (R95). -/
def Window.closes (p : LocalPort) (x : Item) (w : Window) : Bool :=
  !w.finished && decide (w.seq = x.seq) && decide (w.port = p) && decide (x.line = w.lastLine)
    && decide (x.phase = lastPhaseOf w.phases)

/-- The close queue holds at most 128 windows (R106). -/
def closeQueuePlaces : Nat := 128

/-- The window of a key in its lane's open list. -/
def Device.openWindow (d : Device) (k : WindowKey) : Option Window :=
  (d.lane k.lane).openList.find? (fun w => decide (w.key = k))

/-- A window leaves its open list and joins the close queue at its tail with every field it held (R96, R97). -/
def Device.moveToClose (d : Device) (w : Window) : Device :=
  let d := d.modLane w.lane (fun L => { L with openList := L.openList.filter (fun v => decide (v.key ≠ w.key)) })
  { d with closeQueue := d.closeQueue ++ [w] }

/-- A newly Finished window is offered to the close queue; refused it joins the waiting order and CloseQueueFull is
raised (R96). -/
def Device.offerClose (d : Device) (w : Window) : Device :=
  if d.waiting.isEmpty && decide (d.closeQueue.length < closeQueuePlaces) then d.moveToClose w
  else { d with waiting := d.waiting ++ [w.key] }.raiseDevice .closeQueueFull

/-- Freed places of the close queue go to the waiting order, oldest first (R97). -/
def Device.refillFrom : List WindowKey → Device → Device
  | [], d => { d with waiting := [] }
  | k :: rest, d =>
    if d.closeQueue.length < closeQueuePlaces then
      match d.openWindow k with
      | none => Device.refillFrom rest d
      | some w => Device.refillFrom rest (d.moveToClose w)
    else { d with waiting := k :: rest }

def Device.refillClose (d : Device) : Device := Device.refillFrom d.waiting d

/-- Steps 3 to 5 of R89: the resolved mark, the windows it closes, their moves in open-list order. -/
def Device.resolveItem (d : Device) (l : LaneId) (p : LocalPort) (x : Item) : Device :=
  let mark : Resolved := { lineTag := x.lineTag, phase := x.phase, seq := x.seq, line := x.line }
  let closing := ((d.lane l).openList.filter (Window.closes p x)).map (fun w => { w with finished := true })
  let d := d.modLane l (fun L =>
    { L with resolved := L.resolved.set p (some mark),
             openList := L.openList.map (fun w => if w.closes p x then { w with finished := true } else w) })
  closing.foldl Device.offerClose d

/-- One item handled whole, in the five steps of R89. -/
def Device.handleItem (d : Device) (l : LaneId) (p : LocalPort) (x : Item) : Device :=
  ((d.registerItem l p x).feedWindows l p x).resolveItem l p x

/-- The arbiter's choice: when both FIFOs hold items the port the last-served mark does not name (R88). -/
def Lane.chosenPort (L : Lane) : Option LocalPort :=
  match L.ports.p0.fifo, L.ports.p1.fifo, L.lastServed with
  | [], [], _ => none
  | _ :: _, [], _ => some .p0
  | [], _ :: _, _ => some .p1
  | _ :: _, _ :: _, .p1 => some .p0
  | _ :: _, _ :: _, .p0 => some .p1

/-- The measurement engine takes one item from the chosen FIFO (R88, R89). -/
def Device.takeItem (d : Device) (l : LaneId) : Device :=
  match (d.lane l).chosenPort with
  | none => d
  | some p =>
    let port := d.port ⟨l, p⟩
    match port.fifo with
    | [] => d
    | x :: rest =>
      ((d.setPort ⟨l, p⟩ { port with fifo := rest }).modLane l (fun L => { L with lastServed := p })).handleItem l p x

/-! ## Aborts (R103) -/

/-- The windows and unscheduled joints of a panel stopped by a Motion abort are counted Unjudged with cause Aborted
(R103). -/
def Device.abortWindows (d : Device) (l : LaneId) (c : Context) : Device :=
  let mine : Window → Bool := fun w => decide (w.seq = c.seq)
  let removed := (d.lane l).openList.filter mine
  let joints := d.jointCount c
  let d := removed.foldl Device.freeCropOf d
  let d := d.modLane l (fun L => { L with openList := L.openList.filter (fun w => !mine w) })
  let d := { d with waiting := d.waiting.filter (fun k => !(decide (k.lane = l) && decide (k.seq = c.seq))) }
  d.modCtx l c.num (fun c =>
    { c with causes := { c.causes with aborted := c.causes.aborted + removed.length + (joints - c.pointer) },
             pointer := joints })

/-! ## Reading and the commands -/

/-- Read Windows (R105). -/
def takeReadWindows (tag lane : Byte) (start : Word16) (count : Byte) (d : Device) : Device :=
  match laneOf lane with
  | none => d.reply tag 0x40 .refusedRange []
  | some l =>
    if start.toNat ≤ 511 ∧ 1 ≤ count.toNat ∧ count.toNat ≤ 16 then
      d.reply tag 0x40 .done (windowsRecord d l start.toNat count.toNat)
    else d.reply tag 0x40 .refusedRange []

def execItemTake (lane : LaneId) (s : State) : Host.Outcome State Fault Refusal := event (fun d => d.takeItem lane) s

def execReadWindows (tag lane : Byte) (start : Word16) (count : Byte) (s : State) :
    Host.Outcome State Fault Refusal :=
  event (fun d => d.arrive tag (.readWindows lane start count) (takeReadWindows tag lane start count)) s

end Sys2Proof.Machine
end

