-- ==== Sys2Proof/Machine/Judgement.lean ====
section
/-! DEFINITION. The judgement engine (chapter 6): features, tests, verdicts, counts, verdict reports, crops. -/

namespace Sys2Proof.Machine

/-! ## The four tests of one used phase (section 6.3, Table 6-1) -/

/-- A feature against a lower limit and its margin. -/
def lowTest (x limit margin : Nat) : Level :=
  if x < limit then .defect else if x < limit + margin then .marginal else .clear

/-- A feature against an upper limit and its margin: marginal at or below the limit and above limit − margin. -/
def highTest (x limit margin : Nat) : Level :=
  if limit < x then .defect else if limit < x + margin then .marginal else .clear

/-- The worse of two results. -/
def Level.worse : Level → Level → Level
  | .defect, _ | _, .defect => .defect
  | .marginal, _ | _, .marginal => .marginal
  | .clear, .clear => .clear

/-- Insufficient (R111). -/
def testInsufficient (r : RuleEntry) (c : Criteria) (f : Features) : Level :=
  lowTest f.fill c.fillMin.toNat r.fillMargin.toNat

/-- Excess (R111). -/
def testExcess (r : RuleEntry) (c : Criteria) (f : Features) : Level :=
  highTest f.fill c.fillMax.toNat r.fillMargin.toNat

/-- Bridge: a span limit of 0 gives clear (R112). -/
def testBridge (r : RuleEntry) (c : Criteria) (f : Features) : Level :=
  if c.spanLimit.toNat = 0 then .clear
  else if c.spanLimit.toNat ≤ f.span then .defect
  else if c.spanLimit.toNat ≤ f.span + r.spanMargin.toNat then .marginal
  else .clear

/-- NonWetting (R113). -/
def testNonWetting (r : RuleEntry) (c : Criteria) (f : Features) : Level :=
  (lowTest f.mean c.meanLow.toNat r.meanMargin.toNat).worse (highTest f.mean c.meanHigh.toNat r.meanMargin.toNat)

/-- One test of one used phase. -/
def testOf (r : RuleEntry) (k : Cause) (f : Features) : Level :=
  match k with
  | .bridge => testBridge r (ruleCriteria r f.phase) f
  | .nonWetting => testNonWetting r (ruleCriteria r f.phase) f
  | .insufficient => testInsufficient r (ruleCriteria r f.phase) f
  | .excess => testExcess r (ruleCriteria r f.phase) f

/-! ## Features and verdict (sections 6.2 and 6.4) -/

/-- Fill, mean and span of one phase, each rounded down (R110). -/
def featuresOf (w : Window) (p : Phase) : Features :=
  let s := w.sums.get p
  { phase := p, fill := s.b * 100 / s.n, mean := s.s / s.n, span := s.r }

/-- The level of a cause: the worst of its test over the used phases (R114). -/
def causeLevel (r : RuleEntry) (fs : List Features) (k : Cause) : Level :=
  (fs.map (testOf r k)).foldl Level.worse .clear

/-- The causes in the order in which the primary cause is sought (R115). -/
def causeOrder : List Cause := [.bridge, .nonWetting, .insufficient, .excess]

/-- The first cause present at a level, with the first used phase whose test gives it (R115). -/
def primaryAt (r : RuleEntry) (fs : List Features) (v : Level) : Option (Cause × Phase) :=
  match causeOrder.find? (fun k => decide (causeLevel r fs k = v)) with
  | none => none
  | some k => (fs.find? (fun f => decide (testOf r k f = v))).map (fun f => (k, f.phase))

def CauseSet.nothing : CauseSet := { bridge := .clear, nonWetting := .clear, insufficient := .clear, excess := .clear }

/-- The verdict of a record whose loss mark is clear (R110 to R115). -/
def judgeTested (r : RuleEntry) (w : Window) : Judged :=
  let fs := (usedPhases r).map (featuresOf w)
  let causes : CauseSet :=
    { bridge := causeLevel r fs .bridge, nonWetting := causeLevel r fs .nonWetting,
      insufficient := causeLevel r fs .insufficient, excess := causeLevel r fs .excess }
  match (causeOrder.map (causeLevel r fs)).foldl Level.worse .clear with
  | .defect => { verdict := .defect, causes := causes, primary := primaryAt r fs .defect, features := fs }
  | .marginal => { verdict := .marginal, causes := causes, primary := primaryAt r fs .marginal, features := fs }
  | .clear => { verdict := .pass, causes := causes, primary := none, features := fs }

/-- The verdict of a record: with its loss mark set it is not tested and is Unjudged with cause DataLoss (R109). -/
def judge (r : RuleEntry) (w : Window) : Judged :=
  if w.loss then { verdict := .unjudged, causes := .nothing, primary := none, features := [] } else judgeTested r w

/-! ## Completion (sections 6.5 to 6.7) -/

/-- Whether a report mode reports a verdict (Table 6-2). -/
def reported (m : ReportMode) (v : Verdict) : Bool :=
  match m, v with
  | .all, _ => true
  | .notPass, .pass => false
  | .notPass, _ => true
  | .defectOnly, .defect => true
  | .defectOnly, _ => false
  | .silent, _ => false

/-- The verdict counted in its panel; an injected record adds one to Injected (R116, R117). -/
def Context.countVerdict (v : Verdict) (injected : Bool) (c : Context) : Context :=
  let c := { c with injected := c.injected + (if injected then 1 else 0) }
  match v with
  | .pass => { c with pass := c.pass + 1 }
  | .marginal => { c with marginal := c.marginal + 1 }
  | .defect => { c with defect := c.defect + 1 }
  | .unjudged => { c with causes := { c.causes with dataLoss := c.causes.dataLoss + 1 } }

/-- The verdict queue holds up to 1,024 reports (R106, R120). -/
def placesForVerdicts : Nat := 1024

/-- A crop slot becomes Held and joins the crop queue (R122). -/
def Device.holdCrop (d : Device) (i : Nat) : Device :=
  { d.modCrop i (fun s => { s with state := .held }) with cropQueue := d.cropQueue ++ [i] }

/-- The report built at completion (R119). -/
def Device.buildReport (d : Device) (c : Context) (w : Window) (j : Judged) (crop : Bool) : VerdictReport :=
  { lane := w.lane, seq := w.seq, recipeId := c.recipeId, joint := w.joint,
    component := ((d.slot c.slot).joint w.joint).component, rule := w.rule, port := w.port, firstCol := w.firstCol,
    firstLine := w.firstLine, judged := j, injected := w.injected, loss := w.loss, crop := crop,
    detail := (d.lane w.lane).reportDetail }

/-- A verdict's crop slot is wanted when the verdict is Marginal or Defect (R122). -/
def keepsCrop (v : Verdict) : Bool :=
  match v with
  | .marginal | .defect => true
  | .pass | .unjudged => false

/-- A reported verdict's report joins the verdict queue, its crop Held for a Marginal or Defect; meeting a full queue it
is dropped with VerdictsLost, the condition VerdictLoss before the fault VerdictLoss (log 35), and its crop freed (R120,
R122). -/
def Device.offerReport (d : Device) (c : Context) (w : Window) (j : Judged) : Device :=
  if d.trunk.verdicts.length < placesForVerdicts then
    let crop := keepsCrop j.verdict && w.crop.isSome
    let report := d.buildReport c w j crop
    let d := d.modTrunk (fun t => { t with verdicts := t.verdicts ++ [report] })
    match w.crop with
    | none => d
    | some i => if crop then d.holdCrop i else d.freeCrop i
  else
    let d := d.modCtx w.lane c.num (fun c => { c with verdictsLost := c.verdictsLost + 1 })
    ((d.raiseDevice .verdictLoss).fault w.lane .verdictLoss).freeCropOf w

/-- An evaluation completes: verdict counted, report and crop settled, the update handed to lane control (R108). -/
def Device.completeEvaluation (d : Device) : Device :=
  match d.evaluation with
  | none => d
  | some w =>
    let d := { d with evaluation := none }
    match (d.lane w.lane).ctxOfSeq w.seq with
    | none => d.freeCropOf w
    | some c =>
      let j := judge ((d.slot c.slot).rule w.rule) w
      let d := d.modCtx w.lane c.num (Context.countVerdict j.verdict w.injected)
      let d := if reported (d.lane w.lane).reportMode j.verdict then d.offerReport c w j else d.freeCropOf w
      d.tryDecide w.lane c.num

/-- The free engine takes the oldest record and the waiting order refills the place (R107). -/
def Device.takeEvaluation (d : Device) : Device :=
  match d.evaluation, d.closeQueue with
  | none, w :: rest => { d with evaluation := some w, closeQueue := rest }.refillClose
  | _, _ => d

/-! ## Orders and commands -/

/-- Set Report Mode (R118). -/
def takeSetReportMode (tag lane mode detail : Byte) (d : Device) : Device :=
  match laneOf lane, reportModeOf mode, reportDetailOf detail with
  | some l, some m, some x =>
    (d.modLane l (fun L => { L with reportMode := m, reportDetail := x })).reply tag 0x48 .done []
  | _, _, _ => d.reply tag 0x48 .refusedRange []

/-- Read Judgement (R125). -/
def takeReadJudgement (tag : Byte) (d : Device) : Device := d.reply tag 0x49 .done (judgementRecord d)

def execEvaluationTake (s : State) : Host.Outcome State Fault Refusal := event Device.takeEvaluation s

def execEvaluationComplete (s : State) : Host.Outcome State Fault Refusal := event Device.completeEvaluation s

def execSetReportMode (tag lane mode detail : Byte) (s : State) : Host.Outcome State Fault Refusal :=
  event (fun d => d.arrive tag (.setReportMode lane mode detail) (takeSetReportMode tag lane mode detail)) s

def execReadJudgement (tag : Byte) (s : State) : Host.Outcome State Fault Refusal :=
  event (fun d => d.arrive tag .readJudgement (takeReadJudgement tag)) s

end Sys2Proof.Machine
end

