-- ==== Sys2Proof/Machine/Ports.lean ====
section
/-! DEFINITION. The camera ports (chapter 3): stream state, packets, outstanding list, FIFO, injection, port orders. -/

namespace Sys2Proof.Machine

/-- A port in the course of one event, with the conditions of its own set raised so far (log 16). -/
abbrev PortRun := Port × Word16

def PortRun.emit (c : PortCond) (r : PortRun) : PortRun := (r.1, r.2 ||| c.bit)

/-! ## Resolving outstanding entries (R58 to R60, R67) -/

/-- The loss marker of an entry (R59). -/
def Entry.marker (e : Entry) : Item :=
  { lineTag := e.lineTag, phase := e.phase, seq := e.seq, line := e.line, payload := .lost }

/-- An item joins the FIFO at its tail (R62). -/
def Port.put (p : Port) (x : Item) : Port := { p with fifo := p.fifo ++ [x] }

/-- A OneShot ends when the target panel's entry of line n in the last phase of its phase set is resolved (R67). -/
def Port.oneShotResolved (p : Port) (e : Entry) : Port :=
  if p.mode = .oneShot ∧ p.target = .panel e.seq ∧ e.line = p.n.toNat ∧ e.phase = e.lastPhase then
    { p with mode := .off, target := .absent }
  else p

/-- An entry removed from the list is passed on as a loss marker; a Triggered one raises LineLost (R58, R59). -/
def PortRun.resolve (r : PortRun) (e : Entry) : PortRun :=
  let r := ((r.1.put e.marker).oneShotResolved e, r.2)
  if e.kind = .triggered then PortRun.emit .lineLost r else r

/-- Resolves the first `k` entries in order. -/
def PortRun.resolveFirst (k : Nat) (r : PortRun) : PortRun :=
  (r.1.outstanding.take k).foldl PortRun.resolve ({ r.1 with outstanding := r.1.outstanding.drop k }, r.2)

def Entry.isSkipped (e : Entry) : Bool := decide (e.kind = .skipped)

/-- Skipped entries at the front of the list are resolved at once (R58). -/
def PortRun.settleFront (r : PortRun) : PortRun :=
  PortRun.resolveFirst (r.1.outstanding.takeWhile Entry.isSkipped).length r

/-- Declares the whole list lost, oldest first, Skipped entries resolved in their places (R55). -/
def PortRun.declareAll (r : PortRun) : PortRun := PortRun.resolveFirst r.1.outstanding.length r

/-! ## Joining the outstanding list (R58, R59, R67) -/

/-- The first entry of panel line 0 fixes an armed OneShot target; one of a later panel ends the OneShot (R67). -/
def Port.oneShotJoined (p : Port) (e : Entry) : Port :=
  if p.mode = .oneShot ∧ e.line = 0 then
    match p.target with
    | .armed => { p with target := .panel e.seq }
    | .panel q => if q = e.seq then p else { p with mode := .off, target := .absent }
    | .absent => p
  else p

/-- Whether an entry names the same (tag, phase). -/
def Entry.same (e f : Entry) : Bool := decide (e.lineTag = f.lineTag) && decide (e.phase = f.phase)

/-- Makes way for an entry: an entry of the same (tag, phase) is resolved with every older one; a list of 16 resolves
its oldest (R59). -/
def PortRun.makeWay (e : Entry) (r : PortRun) : PortRun :=
  match r.1.outstanding.findIdx? (Entry.same e) with
  | some k => PortRun.settleFront (PortRun.resolveFirst (k + 1) r)
  | none => if 16 ≤ r.1.outstanding.length then PortRun.settleFront (PortRun.resolveFirst 1 r) else r

/-- An entry joins the list at its tail (R58, R59). -/
def PortRun.join (r : PortRun) (e : Entry) : PortRun :=
  let r := PortRun.makeWay e r
  PortRun.settleFront (({ r.1 with outstanding := r.1.outstanding ++ [e] } : Port).oneShotJoined e, r.2)

/-- A trigger word reaches the port: sent on CAM_TRIG in every state; in Dark and Noise the entry is declared lost at
once (R60). -/
def PortRun.trigger (e : Entry) (r : PortRun) : PortRun :=
  let r := PortRun.join ({ r.1 with trigSent := some (triggerWord e.lineTag e.phase) }, r.2) e
  match r.1.stream with
  | .dark | .noise => PortRun.declareAll r
  | .unknown | .idle | .active => r

/-- A skip handed at an overspeed is held (R58). -/
def PortRun.hold (e : Entry) (r : PortRun) : PortRun := ({ r.1 with held := r.1.held ++ [e] }, r.2)

/-- At the end of the running sequence the held skips join the list in order (R58). -/
def PortRun.joinHeld (r : PortRun) : PortRun := r.1.held.foldl PortRun.join ({ r.1 with held := [] }, r.2)

/-! ## Matching and the FIFO (R60, R62, R66) -/

/-- Whether injection is due for a packet with the entry's panel line and panel sequence (R66). -/
def Port.injectionDue (p : Port) (e : Entry) : Bool :=
  match p.mode with
  | .off => false
  | .continuous => true
  | .periodic => decide (e.line % p.n.toNat = 0)
  | .oneShot => decide (p.target = .panel e.seq) && decide (e.line = p.n.toNat)

/-- A matched packet enters the FIFO, its pixels replaced when injection is due, or is dropped with FifoSlip and a loss
marker when 4 packets are queued (R62, R66). -/
def PortRun.enter (e : Entry) (pixels : List Byte) (r : PortRun) : PortRun :=
  if 4 ≤ (r.1.fifo.filter Item.isPacket).length then PortRun.emit .fifoSlip (r.1.put e.marker, r.2)
  else
    let due := r.1.injectionDue e
    let px := if due then Memory.readList r.1.pattern 0 2048 else pixels
    (r.1.put { e.marker with payload := .packet px due }, r.2)

/-- A good packet on an active port (R60). -/
def PortRun.matchPacket (lineTag : Word16) (phase : Phase) (pixels : List Byte) (r : PortRun) : PortRun :=
  let hit : Entry → Bool := fun e => decide (e.kind = .triggered) && decide (e.lineTag = lineTag) && decide (e.phase = phase)
  match r.1.outstanding.findIdx? hit, r.1.outstanding.find? hit with
  | some k, some e =>
    let r := PortRun.resolveFirst k r
    let r := PortRun.enter e pixels ({ r.1 with outstanding := r.1.outstanding.drop 1 }, r.2)
    PortRun.settleFront (r.1.oneShotResolved e, r.2)
  | _, _ => PortRun.emit .strayPacket r

/-! ## The stream state (R49 to R55) -/

/-- Entry into a stream state other than the present one: its history conditions, StateChange, the last known state,
the fill run zeroed, the noise count zeroed on Idle and Active, and on Dark and Noise the list declared lost (R49, R51,
R52, R54, R55). -/
def PortRun.enterStream (st : Stream) (r : PortRun) : PortRun :=
  if r.1.stream = st then r
  else
    let p : Port := { r.1 with stream := st, fillRun := 0 }
    let r : PortRun := PortRun.emit .stateChange (p, r.2)
    match st with
    | .unknown =>
      match p.lastKnown with
      | .idle | .active => PortRun.emit .unknownAfterGood r
      | .dark | .noise => PortRun.emit .unknownAfterBad r
      | .never => r
    | .dark => PortRun.declareAll (PortRun.emit .enteredDark ({ p with lastKnown := .dark, assembly := none }, r.2))
    | .idle => PortRun.emit .enteredIdle ({ p with lastKnown := .idle, noiseCount := 0 }, r.2)
    | .active => PortRun.emit .enteredActive ({ p with lastKnown := .active, noiseCount := 0 }, r.2)
    | .noise => PortRun.declareAll (PortRun.emit .enteredNoise ({ p with lastKnown := .noise }, r.2))

/-- The noise monitor counts a noise event (R56). -/
def PortRun.countNoise (r : PortRun) : PortRun :=
  if r.1.noiseMonitor = 0 then r
  else
    let r : PortRun := ({ r.1 with noiseMonitor := r.1.noiseMonitor - 1 }, r.2)
    if r.1.noiseMonitor = 0 then PortRun.emit .noiseThreshold r else r

/-- The check monitor counts a bad-check packet (R56). -/
def PortRun.countBadCheck (r : PortRun) : PortRun :=
  if r.1.checkMonitor = 0 then r
  else
    let r : PortRun := ({ r.1 with checkMonitor := r.1.checkMonitor - 1 }, r.2)
    if r.1.checkMonitor = 0 then PortRun.emit .checkThreshold r else r

/-- A noise event (R53). -/
def PortRun.noiseEvent (r : PortRun) : PortRun :=
  let r := PortRun.countNoise
    ({ r.1 with assembly := none, fillRun := 0, noiseCount := min 16 (r.1.noiseCount + 1) }, r.2)
  match r.1.stream with
  | .unknown => if r.1.noiseCount = 16 then PortRun.enterStream .noise r else r
  | .idle | .active => PortRun.enterStream (if r.1.noiseCount = 16 then .noise else .unknown) r
  | .noise | .dark => r

/-! ## Words (R47, R48, R51, R52) -/

/-- Whether a decoded word is in place (R47). -/
def Port.inPlace (p : Port) (w : CamWord) : Bool :=
  match p.assembly, w with
  | _, .violation => false
  | some a, .data _ => decide (a.received < 2048)
  | some a, .lineEnd _ => decide (2048 ≤ a.received)
  | some _, .fill | some _, .start _ _ => false
  | none, .fill | none, .start _ _ => true
  | none, .data _ | none, .lineEnd _ =>
    match p.stream with
    | .idle | .active => false
    | .unknown | .noise | .dark => true

/-- An in-place Fill (R51). -/
def PortRun.fill (r : PortRun) : PortRun :=
  let r : PortRun := ({ r.1 with fillRun := min 4 (r.1.fillRun + 1) }, r.2)
  if r.1.fillRun = 4 then
    match r.1.stream with
    | .unknown | .noise | .active => PortRun.enterStream .idle r
    | .idle | .dark => r
  else r

/-- An in-place Start: opens a packet in Idle and Active, ignored elsewhere (R52). -/
def PortRun.start (lineTag : Word16) (phase : Phase) (r : PortRun) : PortRun :=
  let opened : Port := { r.1 with assembly := some { lineTag := lineTag, phase := phase, received := 0, pixels := [] } }
  match r.1.stream with
  | .idle => PortRun.enterStream .active (opened, r.2)
  | .active => (opened, r.2)
  | .unknown | .noise | .dark => r

/-- An in-place Data word adds one pixel to the packet being assembled; with none it has no effect (R47, R48). -/
def Port.addPixel (p : Port) (pixel : Byte) : Port :=
  match p.assembly with
  | none => p
  | some a => { p with assembly := some { a with received := a.received + 1, pixels := pixel :: a.pixels } }

/-- An in-place End completes the packet: a bad check is counted, a good packet is matched on an active port and
discarded on an inactive one (R48, R56, R60, R61). -/
def PortRun.finish (active : Bool) (check : Word16) (r : PortRun) : PortRun :=
  match r.1.assembly with
  | none => r
  | some a =>
    let r : PortRun := ({ r.1 with assembly := none }, r.2)
    let pixels := a.pixels.reverse
    if packetCheck a.lineTag a.phase pixels ≠ check then PortRun.countBadCheck r
    else if active then PortRun.matchPacket a.lineTag a.phase pixels r
    else r

/-- A word received while CAM_SD is active (R47). -/
def PortRun.word (active : Bool) (w : CamWord) (r : PortRun) : PortRun :=
  if !r.1.inPlace w then PortRun.noiseEvent r
  else
    let broken : PortRun := ({ r.1 with fillRun := 0 }, r.2)
    match w with
    | .fill => PortRun.fill r
    | .start t p => PortRun.start t p broken
    | .data px => (broken.1.addPixel px, broken.2)
    | .lineEnd c => PortRun.finish active c broken
    | .violation => PortRun.noiseEvent r

/-! ## The port within the part -/

/-- Runs an operation of a port and raises the conditions it raised in the port's set. -/
def Device.onPort (d : Device) (p : PortId) (f : PortRun → PortRun) : Device :=
  let r := f (d.port p, 0)
  (d.setPort p r.1).raise (.port p) r.2

/-- Whether a port is in the port set of the lane's Scanning panel (R55). -/
def Device.scansPort (d : Device) (p : PortId) : Bool :=
  match (d.lane p.lane).scanningCtx with
  | none => false
  | some c => portIn (d.slot c.slot).hdr.portSet p.loc

def Stream.isBad : Stream → Bool
  | .dark | .noise => true
  | .unknown | .idle | .active => false

/-- Runs an operation that may change the stream state; an entry into Dark or Noise while the port is in the Scanning
panel's port set raises the fault CameraLoss (R55), after the conditions of the port's own set (log 37). -/
def Device.onStream (d : Device) (p : PortId) (f : PortRun → PortRun) : Device :=
  let before := (d.port p).stream
  let d := d.onPort p f
  let now := (d.port p).stream
  if now ≠ before ∧ now.isBad ∧ d.scansPort p then d.fault p.lane .cameraLoss else d

/-- A word on a port's CAM_RX; without a signal nothing is decoded (R47). -/
def Device.camWord (d : Device) (p : PortId) (w : CamWord) : Device :=
  if (d.port p).camSd then d.onStream p (PortRun.word (d.portActive p) w) else d

/-- CAM_SD becomes inactive: Dark from whatever state (R50). While RESET_N is low only the level is kept (log 3). -/
def Device.camSdFalls (d : Device) (p : PortId) : Device :=
  let d := d.setPort p { d.port p with camSd := false }
  if d.resetLow then d else d.onStream p (PortRun.enterStream .dark)

/-- CAM_SD becomes active: a Dark port enters Unknown (R50). -/
def Device.camSdRises (d : Device) (p : PortId) : Device :=
  let d := d.setPort p { d.port p with camSd := true }
  if d.resetLow then d
  else if (d.port p).stream = .dark then d.onStream p (PortRun.enterStream .unknown)
  else d

/-! ## Port orders -/

/-- Configure Port (R57). -/
def takeConfigurePort (tag port noise check : Byte) (d : Device) : Device :=
  match portOf port with
  | none => d.reply tag 0x30 .refusedRange []
  | some p =>
    if noise = 0 ∨ check = 0 then d.reply tag 0x30 .refusedRange []
    else
      (d.setPort p { d.port p with noiseThreshold := noise, checkThreshold := check, noiseMonitor := noise,
                                   checkMonitor := check }).reply tag 0x30 .done []

/-- Offset 0..2047, count 1..256, offset plus count at most 2048 (R64). -/
def patternRange (offset count : Word16) : Bool :=
  decide (offset.toNat ≤ 2047) && decide (1 ≤ count.toNat) && decide (count.toNat ≤ 256)
    && decide (offset.toNat + count.toNat ≤ 2048)

/-- Load Pattern (R64). -/
def takeLoadPattern (tag port : Byte) (offset count : Word16) (pixels : List Byte) (d : Device) : Device :=
  match portOf port with
  | none => d.reply tag 0x31 .refusedRange []
  | some p =>
    if patternRange offset count && decide (pixels.length = count.toNat) then
      if (d.port p).mode = .off then
        (d.setPort p { d.port p with pattern := Memory.writeList (d.port p).pattern offset.toNat pixels }).reply
          tag 0x31 .done []
      else d.reply tag 0x31 .refusedState []
    else d.reply tag 0x31 .refusedRange []

/-- Read Pattern (R64). -/
def takeReadPattern (tag port : Byte) (offset count : Word16) (d : Device) : Device :=
  match portOf port with
  | none => d.reply tag 0x32 .refusedRange []
  | some p =>
    if patternRange offset count then
      d.reply tag 0x32 .done
        (counted (fun b => [b]) (Memory.readList (d.port p).pattern offset.toNat count.toNat))
    else d.reply tag 0x32 .refusedRange []

/-- Whether n suits the mode: a OneShot takes 0..65534, a Periodic is not 0 (R65). -/
def injectionRange (m : InjectionMode) (n : Word16) : Bool :=
  match m with
  | .oneShot => decide (n.toNat ≤ 65534)
  | .periodic => decide (n.toNat ≠ 0)
  | .off | .continuous => true

/-- Set Injection (R65). -/
def takeSetInjection (tag port mode : Byte) (n : Word16) (d : Device) : Device :=
  match portOf port, injectionModeOf mode with
  | some p, some m =>
    if injectionRange m n then
      (d.setPort p { d.port p with mode := m, n := n, target := if m = .oneShot then .armed else .absent }).reply
        tag 0x33 .done []
    else d.reply tag 0x33 .refusedRange []
  | _, _ => d.reply tag 0x33 .refusedRange []

/-- Read Port (R68). -/
def takeReadPort (tag port : Byte) (d : Device) : Device :=
  match portOf port with
  | none => d.reply tag 0x34 .refusedRange []
  | some p => d.reply tag 0x34 .done (portRecord d p)

/-! ## The commands -/

def execCamSdInactive (port : PortId) (s : State) : Host.Outcome State Fault Refusal :=
  pinEvent (fun d => d.camSdFalls port) s

def execCamSdActive (port : PortId) (s : State) : Host.Outcome State Fault Refusal :=
  pinEvent (fun d => d.camSdRises port) s

def execFillWord (port : PortId) (s : State) : Host.Outcome State Fault Refusal :=
  event (fun d => d.camWord port .fill) s

def execStartWord (port : PortId) (lineTag : Word16) (phase : Phase) (s : State) : Host.Outcome State Fault Refusal :=
  event (fun d => d.camWord port (.start lineTag phase)) s

def execDataWord (port : PortId) (pixel : Byte) (s : State) : Host.Outcome State Fault Refusal :=
  event (fun d => d.camWord port (.data pixel)) s

def execEndWord (port : PortId) (check : Word16) (s : State) : Host.Outcome State Fault Refusal :=
  event (fun d => d.camWord port (.lineEnd check)) s

/-- The word as received; a well-formed command's word decodes as a Violation (R53, R189). -/
def execViolationWord (port : PortId) (word : BitVec 24) (s : State) : Host.Outcome State Fault Refusal :=
  event (fun d => d.camWord port (decodeCamWord word)) s

def execConfigurePort (tag port noise check : Byte) (s : State) : Host.Outcome State Fault Refusal :=
  event (fun d => d.arrive tag (.configurePort port noise check) (takeConfigurePort tag port noise check)) s

def execLoadPattern (tag port : Byte) (offset count : Word16) (pixels : List Byte) (s : State) :
    Host.Outcome State Fault Refusal :=
  event (fun d => d.arrive tag (.loadPattern port offset count pixels)
    (takeLoadPattern tag port offset count pixels)) s

def execReadPattern (tag port : Byte) (offset count : Word16) (s : State) : Host.Outcome State Fault Refusal :=
  event (fun d => d.arrive tag (.readPattern port offset count) (takeReadPattern tag port offset count)) s

def execSetInjection (tag port mode : Byte) (n : Word16) (s : State) : Host.Outcome State Fault Refusal :=
  event (fun d => d.arrive tag (.setInjection port mode n) (takeSetInjection tag port mode n)) s

def execReadPort (tag port : Byte) (s : State) : Host.Outcome State Fault Refusal :=
  event (fun d => d.arrive tag (.readPort port) (takeReadPort tag port)) s

end Sys2Proof.Machine
end

