-- ==== Sys2Proof/Machine/Recipes.lean ====
section
/-! DEFINITION. The recipe store (chapter 1): loading, sealing, validation, erasing, reading back, binding. -/

namespace Sys2Proof.Machine

/-! ## Validation (section 1.4): each table a list of (check, phase reported, fails when), the first that fails is
reported (R12) -/

/-- One check: its name, the phase it reports, and whether it fails. -/
abbrev CheckRow := Check × Option Phase × Bool

/-- The first check of a table that fails, as the failure detail of an entry (R12, R17). -/
def firstFailure (t : FailTable) (index : Nat) (rows : List CheckRow) : Option Failure :=
  (rows.find? (fun r => r.2.2)).map (fun r => { table := t, index := index, check := r.1, phase := r.2.1 })

def outside (lo hi x : Nat) : Bool := decide (x < lo) || decide (hi < x)

/-- Table 1-5 (R13). An unwritten header fails the first check. -/
def headerRows (o : Option Header) : List CheckRow :=
  let h := o.getD zeroHeader
  [(.unwritten, none, o.isNone),
   (.panelLength, none, outside 256 65535 h.panelLength.toNat),
   (.zoneSize, none, outside 64 4095 h.zone.toNat),
   (.zoneFit, none, decide (h.panelLength.toNat < h.zone.toNat + 196)),
   (.linePitch, none, outside 1 255 h.linePitch.toNat),
   (.phaseSet, none, decide (h.phaseSet = 0) || decide (7 < h.phaseSet.toNat))]
  ++ (phasesOf h.phaseSet).map (fun p => (.flashTime, some p, outside 1 255 ((flashTimes h).get p).toNat))
  ++ [(.portSet, none, decide (h.portSet = 0) || decide (3 < h.portSet.toNat)),
      (.jointCount, none, outside 1 8192 h.jointCount.toNat),
      (.fiducialCount, none, outside 2 4 h.fiducialCount.toNat),
      (.ruleCount, none, outside 1 64 h.ruleCount.toNat),
      (.spreadTolerance, none, outside 0 15 h.spreadTolerance.toNat)]

/-- Whether a local port field names no port of the port set. -/
def badPort (h : Header) (b : Byte) : Bool :=
  match localPortOf b with
  | none => true
  | some p => !portIn h.portSet p

/-- Table 1-6 (R14). -/
def fiducialRows (h : Header) (o : Option FiducialEntry) : List CheckRow :=
  let e := o.getD zeroFiducialEntry
  let x := boxStart e.column e.width
  let y := boxStart e.line e.height
  [(.unwritten, none, o.isNone),
   (.port, none, badPort h e.port),
   (.phase, phaseOfCode e.phase, match phaseOfCode e.phase with | none => true | some p => !phaseIn h.phaseSet p),
   (.boxSize, none, outside 16 128 e.width.toNat || outside 16 128 e.height.toNat),
   (.boxPlace, none, decide (x < 0) || decide (2047 < x + e.width.toNat - 1) || decide (y < 0)
      || decide ((h.zone.toNat : Int) - 1 < y + e.height.toNat - 1)),
   (.band, none, decide (e.bandHigh.toNat < e.bandLow.toNat)),
   (.area, none, decide (e.areaMin.toNat < 1) || decide (16384 < e.areaMax.toNat)
      || decide (e.areaMax.toNat < e.areaMin.toNat))]

/-- The four checks of one used phase (Table 1-7). -/
def criteriaRows (r : RuleEntry) (p : Phase) : List CheckRow :=
  let c := ruleCriteria r p
  [(.band, some p, decide (c.bandHigh.toNat < c.bandLow.toNat)),
   (.fill, some p, decide (100 < c.fillMax.toNat) || decide (c.fillMax.toNat < c.fillMin.toNat)),
   (.span, some p, decide (64 < c.spanLimit.toNat)),
   (.mean, some p, decide (c.meanHigh.toNat < c.meanLow.toNat))]

/-- Table 1-7 (R15): all four phase checks for Top if used, then Ring, then Axial. -/
def ruleRows (o : Option RuleEntry) : List CheckRow :=
  let r := o.getD zeroRuleEntry
  [(.unwritten, none, o.isNone),
   (.usedMark, none, sequenceOrder.any (fun p => decide (1 < (ruleCriteria r p).used.toNat))),
   (.noPhase, none, (usedPhases r).isEmpty),
   (.margins, none, decide (20 < r.fillMargin.toNat) || decide (16 < r.spanMargin.toNat)
      || decide (32 < r.meanMargin.toNat))]
  ++ (usedPhases r).flatMap (criteriaRows r)

/-- Table 1-8 (R16). `before` is the entry one index below, absent for joint 0. -/
def jointRows (s : Slot) (before : Option JointEntry) (o : Option JointEntry) : List CheckRow :=
  let h := s.hdr
  let e := o.getD zeroJointEntry
  let unneeded := (usedPhases (s.rule e.rule.toNat)).find? (fun p => !phaseIn e.phases p)
  [(.unwritten, none, o.isNone),
   (.component, none, decide (2047 < e.component.toNat)),
   (.port, none, badPort h e.port),
   (.size, none, outside 4 64 e.width.toNat || outside 4 64 e.height.toNat),
   (.columns, none, decide (e.x.toNat < 64) || decide (1984 < e.x.toNat + e.width.toNat)),
   (.lines, none, decide (e.y.toNat < h.zone.toNat + 128)
      || decide (h.panelLength.toNat < e.y.toNat + e.height.toNat + 64)),
   (.order, none, match before with | none => false | some b => decide (e.y.toNat < b.y.toNat)),
   (.ruleIndex, none, decide (h.ruleCount.toNat ≤ e.rule.toNat)),
   (.phases, none, decide (e.phases = 0) || decide (e.phases &&& ~~~h.phaseSet ≠ 0)),
   (.ruleAgreement, unneeded, unneeded.isSome),
   (.crop, none, decide (1 < e.crop.toNat))]

/-- The entry one index below, absent for index 0 (R16). -/
def entryBelow (s : Slot) : Nat → Option JointEntry
  | 0 => none
  | i + 1 => some (s.joint i)

/-- The walk: header, fiducials, rules, joints, ending at the first check that fails (R12). -/
def validate (s : Slot) : Option Failure :=
  let h := s.hdr
  (firstFailure .header 0 (headerRows s.header)).orElse fun _ =>
  ((List.range h.fiducialCount.toNat).findSome? fun i =>
    firstFailure .fiducial i (fiducialRows h (Table.find s.fiducials i))).orElse fun _ =>
  ((List.range h.ruleCount.toNat).findSome? fun i =>
    firstFailure .rule i (ruleRows (Table.find s.rules i))).orElse fun _ =>
  (List.range h.jointCount.toNat).findSome? fun i =>
    firstFailure .joint i (jointRows s (entryBelow s i) (Table.find s.joints i))

/-- The end of a validation (R17): Sealed with a Done reply, or Loading with the failure recorded and an Invalid reply.
The reply carries the tag of the Seal Slot order and takes the held place. -/
def Device.validationEnds (d : Device) : Device :=
  match d.validation with
  | none => d
  | some v =>
    let s := d.slot v.slot
    let d := { d with validation := none }
    match validate s with
    | none => (d.setSlot v.slot { s with state := .sealed, lastFailure := none }).reply v.tag 0x15 .done []
    | some f =>
      (d.setSlot v.slot { s with state := .loading, lastFailure := some f }).reply v.tag 0x15 .invalid (failureBytes f)

/-! ## Refusals (R2, Table 1-1) -/

/-- Why an order that would change a slot is refused: Validating (unless it is Erase Slot), then referenced, then not
allowed in the state (R2). -/
def Device.slotRefusal (d : Device) (i : Fin 4) (erase : Bool) (allowed : SlotState → Bool) : Option ReplyCode :=
  let st := (d.slot i).state
  if st = .validating ∧ ¬ erase then some .refusedBusy
  else if d.referenced i then some .refusedReferenced
  else if allowed st then none
  else some .refusedState

/-- An order that changes a slot: the addressing ranges, the refusals of R2, then its effect and its reply. -/
def Device.changeSlot (d : Device) (tag code slot : Byte) (inRange : Bool) (allowed : SlotState → Bool)
    (effect : Slot → Slot) : Device :=
  match fourOf slot, inRange with
  | some i, true =>
    match d.slotRefusal i false allowed with
    | some r => d.reply tag code r []
    | none => (d.setSlot i (effect (d.slot i))).reply tag code .done []
  | _, _ => d.reply tag code .refusedRange []

def isLoading (s : SlotState) : Bool := decide (s = .loading)

/-- Start index, count and last index within a table of `size` entries, `most` entries at a time (Table 1-4). -/
def rangeOk (start count size most : Nat) : Bool :=
  decide (start < size) && decide (1 ≤ count) && decide (count ≤ most) && decide (start + count ≤ size)

/-! ## Loading a slot (section 1.3) -/

/-- Open Slot (R7). -/
def takeOpenSlot (tag slot : Byte) (d : Device) : Device :=
  d.changeSlot tag 0x10 slot true (fun s => decide (s = .empty)) (fun _ => { Slot.empty with state := .loading })

/-- Write Header (R8, R9). -/
def takeWriteHeader (tag slot : Byte) (h : Header) (d : Device) : Device :=
  d.changeSlot tag 0x11 slot true isLoading (fun s => { s with header := some h })

/-- Write Fiducials (R8, R10). -/
def takeWriteFiducials (tag slot start count : Byte) (es : List FiducialEntry) (d : Device) : Device :=
  d.changeSlot tag 0x12 slot (rangeOk start.toNat count.toNat 4 4 && decide (es.length = count.toNat)) isLoading
    (fun s => { s with fiducials := Table.putList s.fiducials start.toNat es })

/-- Write Joints (R8, R10). -/
def takeWriteJoints (tag slot : Byte) (start : Word16) (count : Byte) (es : List JointEntry) (d : Device) : Device :=
  d.changeSlot tag 0x13 slot (rangeOk start.toNat count.toNat 8192 32 && decide (es.length = count.toNat)) isLoading
    (fun s => { s with joints := Table.putList s.joints start.toNat es })

/-- Write Rules (R8, R10). -/
def takeWriteRules (tag slot start count : Byte) (es : List RuleEntry) (d : Device) : Device :=
  d.changeSlot tag 0x14 slot (rangeOk start.toNat count.toNat 64 8 && decide (es.length = count.toNat)) isLoading
    (fun s => { s with rules := Table.putList s.rules start.toNat es })

/-! ## Sealing, unsealing, erasing (sections 1.4 and 1.6) -/

/-- Seal Slot (R11): taken it queues no reply; the validation in progress holds a place of the reply queue. -/
def takeSealSlot (tag slot : Byte) (d : Device) : Device :=
  match fourOf slot with
  | none => d.reply tag 0x15 .refusedRange []
  | some i =>
    match d.slotRefusal i false isLoading with
    | some r => d.reply tag 0x15 r []
    | none =>
      if d.validation.isSome then d.reply tag 0x15 .refusedBusy []
      else { d.setSlot i { d.slot i with state := .validating } with validation := some { slot := i, tag := tag } }

/-- Unseal Slot (R20). -/
def takeUnsealSlot (tag slot : Byte) (d : Device) : Device :=
  d.changeSlot tag 0x16 slot true (fun s => decide (s = .sealed)) (fun s => { s with state := .loading })

/-- Ends the validation of a slot with the Aborted reply, if the slot is the one being validated (R18). -/
def Device.abortValidation (d : Device) (i : Fin 4) : Device :=
  match d.validation with
  | none => d
  | some v => if v.slot = i then { d with validation := none }.reply v.tag 0x15 .aborted [] else d

/-- Erase Slot (R18, R21). -/
def takeEraseSlot (tag slot : Byte) (d : Device) : Device :=
  match fourOf slot with
  | none => d.reply tag 0x17 .refusedRange []
  | some i =>
    match d.slotRefusal i true (fun _ => true) with
    | some r => d.reply tag 0x17 r []
    | none => ((d.abortValidation i).setSlot i .empty).reply tag 0x17 .done []

/-! ## Reading back (R22, R23) -/

/-- Read Slot (R22). -/
def takeReadSlot (tag slot : Byte) (d : Device) : Device :=
  match fourOf slot with
  | none => d.reply tag 0x18 .refusedRange []
  | some i => d.reply tag 0x18 .done (slotRecord d i)

/-- An entry read: its ranges, refused in Empty, otherwise the entries (R23). -/
def Device.readEntries (d : Device) (tag code slot : Byte) (inRange : Bool) (record : Slot → List Byte) : Device :=
  match fourOf slot, inRange with
  | some i, true =>
    if (d.slot i).state = .empty then d.reply tag code .refusedState []
    else d.reply tag code .done (record (d.slot i))
  | _, _ => d.reply tag code .refusedRange []

/-- Read Fiducials (R23). -/
def takeReadFiducials (tag slot start count : Byte) (d : Device) : Device :=
  d.readEntries tag 0x19 slot (rangeOk start.toNat count.toNat 4 4)
    (fun s => entriesRecord s.fiducials zeroFiducialEntry fiducialBytes start.toNat count.toNat)

/-- Read Joints (R23). -/
def takeReadJoints (tag slot : Byte) (start : Word16) (count : Byte) (d : Device) : Device :=
  d.readEntries tag 0x1A slot (rangeOk start.toNat count.toNat 8192 32)
    (fun s => entriesRecord s.joints zeroJointEntry jointBytes start.toNat count.toNat)

/-- Read Rules (R23). -/
def takeReadRules (tag slot start count : Byte) (d : Device) : Device :=
  d.readEntries tag 0x1B slot (rangeOk start.toNat count.toNat 64 8)
    (fun s => entriesRecord s.rules zeroRuleEntry ruleBytes start.toNat count.toNat)

/-! ## Binding (section 1.7) -/

/-- A take: the pending recipe becomes the active recipe; without one it does nothing (R26). -/
def Lane.takeRecipe (L : Lane) : Lane :=
  match L.pendingRecipe with
  | none => L
  | some i => { L with active := some i, pendingRecipe := none }

/-- Whether Bind Recipe takes the recipe at once: the lane is Off, or Standby with no live context (R25). -/
def Lane.takesAtOnce (L : Lane) : Bool :=
  decide (L.mode = .off) || (decide (L.mode = .standby) && L.live.isEmpty)

/-- A lane after Bind Recipe has named a slot (R25). -/
def Lane.bind (L : Lane) (i : Fin 4) : Lane :=
  let L := { L with pendingRecipe := some i }
  if L.takesAtOnce then L.takeRecipe else L

/-- Bind Recipe (R25): FFH names none (Table 11-2). -/
def takeBindRecipe (tag lane slot : Byte) (d : Device) : Device :=
  match laneOf lane with
  | none => d.reply tag 0x1C .refusedRange []
  | some l =>
    if slot = 0xFF then (d.modLane l (fun L => { L with pendingRecipe := none })).reply tag 0x1C .done []
    else
      match fourOf slot with
      | none => d.reply tag 0x1C .refusedRange []
      | some i =>
        match (d.slot i).state with
        | .validating => d.reply tag 0x1C .refusedBusy []
        | .empty | .loading => d.reply tag 0x1C .refusedState []
        | .sealed => (d.modLane l (fun L => L.bind i)).reply tag 0x1C .done []

/-! ## The commands -/

def execOpenSlot (tag slot : Byte) (s : State) : Host.Outcome State Fault Refusal :=
  event (fun d => d.arrive tag (.openSlot slot) (takeOpenSlot tag slot)) s

def execWriteHeader (tag slot : Byte) (header : Header) (s : State) : Host.Outcome State Fault Refusal :=
  event (fun d => d.arrive tag (.writeHeader slot header) (takeWriteHeader tag slot header)) s

def execWriteFiducials (tag slot start count : Byte) (entries : List FiducialEntry) (s : State) :
    Host.Outcome State Fault Refusal :=
  event (fun d => d.arrive tag (.writeFiducials slot start count entries)
    (takeWriteFiducials tag slot start count entries)) s

def execWriteJoints (tag slot : Byte) (start : Word16) (count : Byte) (entries : List JointEntry) (s : State) :
    Host.Outcome State Fault Refusal :=
  event (fun d => d.arrive tag (.writeJoints slot start count entries)
    (takeWriteJoints tag slot start count entries)) s

def execWriteRules (tag slot start count : Byte) (entries : List RuleEntry) (s : State) :
    Host.Outcome State Fault Refusal :=
  event (fun d => d.arrive tag (.writeRules slot start count entries)
    (takeWriteRules tag slot start count entries)) s

def execSealSlot (tag slot : Byte) (s : State) : Host.Outcome State Fault Refusal :=
  event (fun d => d.arrive tag (.sealSlot slot) (takeSealSlot tag slot)) s

def execValidationComplete (s : State) : Host.Outcome State Fault Refusal := event Device.validationEnds s

def execUnsealSlot (tag slot : Byte) (s : State) : Host.Outcome State Fault Refusal :=
  event (fun d => d.arrive tag (.unsealSlot slot) (takeUnsealSlot tag slot)) s

def execEraseSlot (tag slot : Byte) (s : State) : Host.Outcome State Fault Refusal :=
  event (fun d => d.arrive tag (.eraseSlot slot) (takeEraseSlot tag slot)) s

def execReadSlot (tag slot : Byte) (s : State) : Host.Outcome State Fault Refusal :=
  event (fun d => d.arrive tag (.readSlot slot) (takeReadSlot tag slot)) s

def execReadFiducials (tag slot start count : Byte) (s : State) : Host.Outcome State Fault Refusal :=
  event (fun d => d.arrive tag (.readFiducials slot start count) (takeReadFiducials tag slot start count)) s

def execReadJoints (tag slot : Byte) (start : Word16) (count : Byte) (s : State) :
    Host.Outcome State Fault Refusal :=
  event (fun d => d.arrive tag (.readJoints slot start count) (takeReadJoints tag slot start count)) s

def execReadRules (tag slot start count : Byte) (s : State) : Host.Outcome State Fault Refusal :=
  event (fun d => d.arrive tag (.readRules slot start count) (takeReadRules tag slot start count)) s

def execBindRecipe (tag lane slot : Byte) (s : State) : Host.Outcome State Fault Refusal :=
  event (fun d => d.arrive tag (.bindRecipe lane slot) (takeBindRecipe tag lane slot)) s

end Sys2Proof.Machine
end

