-- ==== Sys2Proof/Machine/Motion.lean ====
section
/-! DEFINITION. Conveyor motion and line timing (chapter 2) with lane control's answers to its events (sections 7.3 and
7.4): counts, edges, scan starts, line issues, the strobe sequencer, the warm-up timer, Configure Lane. -/

namespace Sys2Proof.Machine

/-! ## The strobe sequencer (section 2.4) -/

/-- An outstanding entry or held skip of a line in one phase (Figure 3-3, R58, R60). -/
def LineRun.entry (r : LineRun) (kind : EntryKind) (p : Phase) : Entry :=
  { lineTag := r.lineTag, phase := p, kind := kind, seq := r.seq, line := r.line, lastPhase := lastPhaseOf r.phaseSet }

/-- Runs an operation on each port of the lane that is in a port set, local port 0 first. -/
def Device.onPortSet (d : Device) (l : LaneId) (set : Byte) (f : PortRun → PortRun) : Device :=
  let d := if portIn set .p0 then d.onPort ⟨l, .p0⟩ f else d
  if portIn set .p1 then d.onPort ⟨l, .p1⟩ f else d

/-- Entering Flash(phase): the strobe on for its flash time, and a trigger word to each port of the port set (R41). -/
def Device.enterFlash (d : Device) (l : LaneId) (r : LineRun) (p : Phase) : Device :=
  let d := d.modLane l (fun L =>
    { L with strobe := { L.strobe with state := .flash p, run := some r, flashLeft := (r.flash.get p).toNat } })
  d.onPortSet l r.portSet (PortRun.trigger (r.entry .triggered p))

/-- The line issue as the sequencer takes it from the recipe of the Scanning panel (R40). -/
def lineRun (c : Context) (h : Header) (lineTag : Word16) (line : Nat) : LineRun :=
  { lineTag := lineTag, seq := c.seq, line := line, phaseSet := h.phaseSet, flash := flashTimes h, portSet := h.portSet }

/-- A line issue at the sequencer: on an Idle sequencer the sequence starts; on a busy one it is an overspeed, which
raises Overspeed and hands each port of the set a skip for each phase (R41, R43). -/
def Device.strobeLine (d : Device) (l : LaneId) (r : LineRun) : Device :=
  if (d.lane l).strobe.state = .idle then
    match phasesOf r.phaseSet with
    | [] => d
    | p :: _ => d.enterFlash l r p
  else
    let hold : PortRun → PortRun := fun x =>
      (phasesOf r.phaseSet).foldl (fun x p => PortRun.hold (r.entry .skipped p) x) x
    (d.raiseLane l .overspeed).onPortSet l r.portSet hold

/-- The flash time ends: the strobe goes inactive and the phase's settle counter is loaded (R42). -/
def Device.flashEnds (d : Device) (l : LaneId) : Device :=
  match (d.lane l).strobe.state with
  | .flash p =>
    d.modLane l (fun L =>
      { L with strobe := { L.strobe with state := .settle p, flashLeft := 0,
                                         settle := L.strobe.settle.set p L.settings.settleReload.toNat } })
  | .idle | .settle _ => d

/-- The phase after `p` in a phase set, in sequence order (R42). -/
def nextPhase (set : Byte) (p : Phase) : Option Phase :=
  (phasesOf set).find? (fun q => decide (phaseBit p < phaseBit q))

/-- The end of a line's sequence: Idle, and the held skips of the lane's ports join their lists (R42, R58). -/
def Device.sequenceEnds (d : Device) (l : LaneId) : Device :=
  let d := d.modLane l (fun L => { L with strobe := { L.strobe with state := .idle, run := none } })
  (d.onPort ⟨l, .p0⟩ PortRun.joinHeld).onPort ⟨l, .p1⟩ PortRun.joinHeld

/-- A settle counter expires: the next phase flashes, or the sequence ends (R42). -/
def Device.settleExpires (d : Device) (l : LaneId) : Device :=
  match (d.lane l).strobe.state with
  | .settle p =>
    let d := d.modLane l (fun L => { L with strobe := { L.strobe with settle := L.strobe.settle.set p 0 } })
    match (d.lane l).strobe.run with
    | none => d.sequenceEnds l
    | some r =>
      match nextPhase r.phaseSet p with
      | some q => d.enterFlash l r q
      | none => d.sequenceEnds l
  | .idle | .flash _ => d

/-! ## Line issue (section 2.3) -/

/-- The end of a panel's scan or of its abort while Scanning: the context leaves Scanning, the lane becomes Ready, and
the context is decided if it is fully accounted for (R37, R129, R138). -/
def Device.leaveScanning (d : Device) (l : LaneId) (n : Fin 4) : Device :=
  ((d.settleCtx l n).modLane l Lane.enterReady).tryDecide l n

/-- The panel line number of a tag: tag minus first tag, modulo 65,536 (R36). -/
def Context.lineOf (c : Context) (lineTag : Word16) : Nat := (lineTag - c.firstTag.getD lineTag).toNat

/-- The issue of one line of the Scanning panel at position `pos`: its tag, then lane control's deadline check, the
window scheduler and the strobe sequencer in that order, then the scan end of the last line (R36 to R38). -/
def Device.issueLine (d : Device) (l : LaneId) (c : Context) (pos : Word32) : Device :=
  let h := (d.slot c.slot).hdr
  let lineTag := (d.lane l).motion.tagCounter
  let line := c.lineOf lineTag
  let last := decide (line + 1 = h.panelLength.toNat)
  let next := if last then none else some (pos + h.linePitch.setWidth 32)
  let d := d.modLane l (fun L => { L with motion := { L.motion with tagCounter := lineTag + 1, nextLine := next } })
  let d := if line = h.zone.toNat + 64 then d.registrationDeadline l else d
  let d := Device.openJoints l c.num line h.jointCount.toNat d
  let d := d.strobeLine l (lineRun c h lineTag line)
  if last then d.leaveScanning l c.num else d

/-- The next-line position reached: the next line of the Scanning panel is issued (R36). -/
def Device.issueDue (d : Device) (l : LaneId) : Device :=
  let L := d.lane l
  match L.motion.nextLine, L.scanningCtx with
  | some pos, some c => if atOrBeyond L.motion.h pos then d.issueLine l c pos else d
  | _, _ => d

/-! ## Scan start (R34, R35, section 7.4) -/

/-- Counts every joint of a panel aborted at its scan start as Unjudged with the abort's cause (R136, R137). -/
def Context.abortAtStart (cause : AbortCause) (joints : Nat) (c : Context) : Context :=
  let c := c.writeAbort cause
  let causes :=
    match cause with
    | .overlap => { c.causes with overlap := c.causes.overlap + joints }
    | .warmup => { c.causes with warmup := c.causes.warmup + joints }
    | .none | .motion | .registration => c.causes
  { c with causes := causes, pointer := joints }

/-- A scan start aborted with cause Warmup (R136). -/
def Device.abortWarmup (d : Device) (l : LaneId) (c : Context) : Device :=
  (((d.modCtx l c.num (Context.abortAtStart .warmup (d.jointCount c))).settleCtx l c.num).fault l .warmupLate).tryDecide
    l c.num

/-- A scan start aborted with cause Overlap (R137). -/
def Device.abortOverlap (d : Device) (l : LaneId) (c : Context) : Device :=
  (((d.modCtx l c.num (Context.abortAtStart .overlap (d.jointCount c))).settleCtx l c.num).raiseLane l .overlap).tryDecide
    l c.num

/-- A scan start taken: context and lane Scanning, the idle timer stopped, the registration unit on the panel, and panel
line 0 issued at the scan start position (R35, R70, R135). -/
def Device.startScan (d : Device) (l : LaneId) (c : Context) : Device :=
  let first := (d.lane l).motion.tagCounter
  let d := d.modCtx l c.num (fun c => { c with state := .scanning, firstTag := some first })
  let d := d.modLane l (fun L =>
    ({ L with mode := .scanning, idleLeft := none } : Lane).startRegistration c (d.slot c.slot).hdr)
  match (d.lane l).ctx c.num with
  | none => d
  | some c => d.issueLine l c c.scanStart

/-- A scan start handed to lane control: taken when the lane is Ready, aborted with cause Overlap when it is Scanning
and with cause Warmup otherwise (R135 to R137, log 26). -/
def Device.scanStart (d : Device) (l : LaneId) (c : Context) : Device :=
  match (d.lane l).mode with
  | .ready => d.startScan l c
  | .scanning => d.abortOverlap l c
  | .off | .standby | .warming => d.abortWarmup l c

/-- Scan starts while the oldest Waiting context's position is reached; `fuel` bounds them by the live contexts (R34). -/
def Device.scanStarts (l : LaneId) : Nat → Device → Device
  | 0, d => d
  | fuel + 1, d =>
    let L := d.lane l
    match L.oldestWaiting with
    | none => d
    | some c => if atOrBeyond L.motion.h c.scanStart then Device.scanStarts l fuel (d.scanStart l c) else d

/-! ## Counts (R29 to R31) -/

/-- Whether a line issue is due at the present H. -/
def Lane.lineDue (L : Lane) : Bool :=
  match L.motion.nextLine with
  | none => false
  | some p => L.scanningCtx.isSome && atOrBeyond L.motion.h p

/-- Whether a scan start is due at the present H. -/
def Lane.scanDue (L : Lane) : Bool :=
  match L.oldestWaiting with
  | none => false
  | some c => atOrBeyond L.motion.h c.scanStart

/-- The watched positions tested after a rise of H: the line issue before the scan starts (R34). Where a gate arrival is
due with either of them, its place is a free value (log 10). -/
def Device.testPositions (d : Device) (l : LaneId) : Device :=
  let L := d.lane l
  let gates : Device → Device := fun d => Device.gateArrivals l (d.lane l).gate.queue.length d
  let scans : Device → Device := fun d => Device.scanStarts l (d.lane l).live.length d
  if L.gateDue && (L.lineDue || L.scanDue) then
    let order := Config.gateOrder d.freeIndex
    let d := { d with freeIndex := d.freeIndex + 1 }
    match order with
    | .beforeLine => scans ((gates d).issueDue l)
    | .betweenLineAndScan => scans (gates (d.issueDue l))
    | .afterScan => gates (scans (d.issueDue l))
  else gates (scans (d.issueDue l))

/-- A forward count: lowers D, or with D zero raises H and tests the watched positions; nothing on an Off lane (R29,
R30). -/
def Device.forwardCount (d : Device) (l : LaneId) : Device :=
  let L := d.lane l
  if L.mode = .off then d
  else if L.motion.d = 0 then
    (d.setLane l { L with motion := { L.motion with h := L.motion.h + 1 } }).testPositions l
  else d.setLane l { L with motion := { L.motion with d := L.motion.d - 1 } }

/-- The Scanning panel aborted with cause Motion: cause, line issue stopped, registration discarded, windows and joints
accounted for, context out of Scanning, lane Ready, decided if fully accounted for (R39, R77, R103, R138). -/
def Device.abortMotion (d : Device) (l : LaneId) (c : Context) : Device :=
  let d := d.modCtx l c.num (fun c => c.writeAbort .motion)
  let d := d.modLane l (fun L => { L with motion := { L.motion with nextLine := none }, reg := none })
  (d.abortWindows l c).leaveScanning l c.num

/-- A reverse count: raises D up to 65,535; D above the reverse limit with a Scanning panel raises MotionFault and aborts
the panel; nothing on an Off lane (R29, R31). -/
def Device.reverseCount (d : Device) (l : LaneId) : Device :=
  let L := d.lane l
  if L.mode = .off ∨ L.motion.d = 0xFFFF then d
  else
    let depth := L.motion.d + 1
    let d := d.setLane l { L with motion := { L.motion with d := depth } }
    match L.scanningCtx with
    | none => d
    | some c =>
      if L.settings.reverseLimit.toNat < depth.toNat then (d.fault l .motionFault).abortMotion l c else d

/-! ## Edges (section 2.2, section 7.3) -/

/-- Whether an edge is accepted: D zero, and H at or beyond the last accepted edge plus the edge guard (R32). -/
def Lane.acceptsEdge (L : Lane) : Bool :=
  decide (L.motion.d = 0) &&
    (match L.motion.lastEdge with
     | none => true
     | some e => atOrBeyond L.motion.h (e + L.settings.edgeGuard.setWidth 32))

/-- The free context of lowest number (R131). -/
def Lane.freeCtx (L : Lane) : Option (Fin 4) :=
  ([0, 1, 2, 3] : List (Fin 4)).find? (fun n => (L.ctx n).isNone)

/-- A panel context as lane control makes it (R69, R131). -/
def Context.fresh (n : Fin 4) (q : Word16) (slot : Fin 4) (recipeId : Word32) (edge start : Word32) : Context :=
  { num := n, seq := q, state := .waiting, slot := slot, recipeId := recipeId, edge := edge, scanStart := start,
    firstTag := none, reg := { state := .pending, detail := [], injected := false }, pointer := 0, opened := 0, pass := 0,
    marginal := 0, defect := 0,
    causes := { registration := 0, windowOverflow := 0, aborted := 0, dataLoss := 0, warmup := 0, overlap := 0 },
    injected := 0, verdictsLost := 0, cropsMissed := 0, abort := .none, decision := none, gateAction := .pending,
    late := false }

/-- A panel without a context: its gate entry carries the fixed code Review, and the idle timer of a Ready lane with no
Waiting context restarts (R130, R133). -/
def Device.untracked (d : Device) (l : LaneId) (q : Word16) (gatePos : Word32) : Device :=
  (d.passGateEntry l { pos := gatePos, seq := q, kind := .fixedReview }).modLane l Lane.loadIdle

/-- A tracked panel: a Waiting context, the idle timer stopped, a linked gate entry, and the scan start tested as it
becomes watched (R30, R34, R133). -/
def Device.tracked (d : Device) (l : LaneId) (n slot : Fin 4) (q : Word16) (edge start gatePos : Word32) : Device :=
  let c := Context.fresh n q slot (d.slot slot).hdr.recipeId edge start
  let d := d.modLane l (fun L => { L with live := L.live ++ [c], idleLeft := none })
  let d := d.passGateEntry l { pos := gatePos, seq := q, kind := .linked n }
  Device.scanStarts l (d.lane l).live.length d

/-- An accepted edge: positions captured, a Standby lane armed, the pending recipe taken, the panel numbered, then the
panel decided (R33, R133). -/
def Device.acceptedEdge (d : Device) (l : LaneId) : Device :=
  let L := d.lane l
  let edge := L.motion.h
  let q := L.nextSeq
  let L := { L with motion := { L.motion with lastEdge := some edge } }
  let L := if L.mode = .standby then L.enterWarming else L
  let L := { L.takeRecipe with nextSeq := q + 1 }
  let start := edge + L.settings.leadIn.setWidth 32
  let gatePos := edge + L.settings.gateDistance.setWidth 32
  let d := d.setLane l L
  match L.active, L.freeCtx with
  | none, _ => (d.raiseLane l .noRecipe).untracked l q gatePos
  | some slot, some n => d.tracked l n slot q edge start gatePos
  | some _, none => (d.fault l .panelOverrun).untracked l q gatePos

/-- A rising EDGE input: nothing on an Off lane, accepted, or ignored with EdgeIgnored (R32). -/
def Device.edgeRises (d : Device) (l : LaneId) : Device :=
  let L := d.lane l
  if L.mode = .off then d
  else if L.acceptsEdge then d.acceptedEdge l
  else d.raiseLane l .edgeIgnored

/-! ## Timers of the lane -/

/-- The warm-up timer expires, if it runs (R45, R129). -/
def Device.warmupExpires (d : Device) (l : LaneId) : Device :=
  if (d.lane l).warmupLeft.isSome then d.modLane l Lane.warmupExpires else d

/-- The idle timer expires, if it runs: the lane returns to Standby (R130). -/
def Device.idleExpires (d : Device) (l : LaneId) : Device :=
  if (d.lane l).idleLeft.isSome then d.modLane l Lane.enterStandby else d

/-! ## Configure Lane (R46) -/

/-- Every setting within its range (Figure 2-3). -/
def settingsInRange (s : LaneSettings) : Bool :=
  decide (1 ≤ s.reverseLimit.toNat) && decide (s.reverseLimit.toNat ≤ 4095) && decide (1 ≤ s.gateDistance.toNat)
    && decide (s.warmupTime.toNat ≤ 4095) && decide (1 ≤ s.settleReload.toNat)

/-- Configure Lane (R46). -/
def takeConfigureLane (tag lane : Byte) (x : LaneSettings) (d : Device) : Device :=
  match laneOf lane, settingsInRange x with
  | some l, true =>
    if (d.lane l).mode = .off then (d.modLane l (fun L => { L with settings := x })).reply tag 0x20 .done []
    else d.reply tag 0x20 .refusedState []
  | _, _ => d.reply tag 0x20 .refusedRange []

/-! ## The commands -/

def execConfigureLane (tag lane : Byte) (settings : LaneSettings) (s : State) : Host.Outcome State Fault Refusal :=
  event (fun d => d.arrive tag (.configureLane lane settings) (takeConfigureLane tag lane settings)) s

def execEncoderForwardCount (lane : LaneId) (s : State) : Host.Outcome State Fault Refusal :=
  event (fun d => d.forwardCount lane) s

def execEncoderReverseCount (lane : LaneId) (s : State) : Host.Outcome State Fault Refusal :=
  event (fun d => d.reverseCount lane) s

def execEdgeRise (lane : LaneId) (s : State) : Host.Outcome State Fault Refusal := event (fun d => d.edgeRises lane) s

def execFlashEnd (lane : LaneId) (s : State) : Host.Outcome State Fault Refusal := event (fun d => d.flashEnds lane) s

def execSettleExpiry (lane : LaneId) (s : State) : Host.Outcome State Fault Refusal :=
  event (fun d => d.settleExpires lane) s

def execWarmupExpiry (lane : LaneId) (s : State) : Host.Outcome State Fault Refusal :=
  event (fun d => d.warmupExpires lane) s

def execIdleTimerExpiry (lane : LaneId) (s : State) : Host.Outcome State Fault Refusal :=
  event (fun d => d.idleExpires lane) s

end Sys2Proof.Machine
end

