-- ==== Sys2Proof/Machine/Lanes.lean ====
section
/-! DEFINITION. The orders of lane control (chapter 7): Enable, Arm, Disable, Read Lane, Read Panel; and of the gate unit
(chapter 8): Set Gate Mode, Set Fault Response, Release Force, Read Gate. -/

namespace Sys2Proof.Machine

/-! ## Lane control -/

/-- An order that names a lane: RefusedRange for another lane, otherwise what it does there. -/
def Device.onLane (d : Device) (tag code lane : Byte) (f : LaneId → Device) : Device :=
  match laneOf lane with
  | none => d.reply tag code .refusedRange []
  | some l => f l

/-- An Off lane enabled: Standby, motion unit and panel sequence counter at zero, idle timer stopped (R28, R127). -/
def Lane.enable (L : Lane) : Lane := { L with mode := .standby, motion := .zero, nextSeq := 0, idleLeft := none }

/-- Enable Lane (R127). -/
def takeEnableLane (tag lane : Byte) (d : Device) : Device :=
  d.onLane tag 0x50 lane (fun l =>
    if (d.lane l).mode = .off then (d.modLane l Lane.enable).reply tag 0x50 .done []
    else d.reply tag 0x50 .refusedState [])

/-- What Arm Lane does to a lane that is not Off (R128): Standby goes to Warming; Ready restarts a running idle timer. -/
def Lane.arm (L : Lane) : Lane :=
  match L.mode with
  | .standby => L.enterWarming
  | .ready => if L.idleLeft.isSome then { L with idleLeft := some (L.settings.idleTimeout.toNat * 1000000) } else L
  | .off | .warming | .scanning => L

/-- Arm Lane (R128). -/
def takeArmLane (tag lane : Byte) (d : Device) : Device :=
  d.onLane tag 0x51 lane (fun l =>
    if (d.lane l).mode = .off then d.reply tag 0x51 .refusedState []
    else (d.modLane l Lane.arm).reply tag 0x51 .done [])

/-- A port after Disable Lane: outstanding list, held skips and FIFO emptied without markers; a OneShot target that names
a panel returns to armed (R58, R61 to R63). -/
def Port.disable (p : Port) : Port :=
  { p with outstanding := [], held := [], fifo := [],
           target := match p.target with | .panel _ => .armed | .armed => .armed | .absent => .absent }

/-- The gate unit after Disable Lane (Figure 8-1, fourth column). -/
def Gate.disable (g : Gate) : Gate :=
  { g with queue := [], divert := .review, forced := .none, hold := false, seen := Gate.atReset.seen }

/-- A lane after Disable Lane: Off, everything it worked on discarded, its settings, H, D, last accepted edge, tag
counter and panel sequence counter kept (R28, R40, R45, R80, R104, R144). -/
def Lane.disable (L : Lane) : Lane :=
  { L with mode := .off, motion := { L.motion with nextLine := none }, strobe := .rest, light := .off,
           warmupLeft := none, idleLeft := none, ports := { p0 := L.ports.p0.disable, p1 := L.ports.p1.disable },
           reg := none, openList := [], resolved := { p0 := none, p1 := none }, lastServed := .p1, live := [],
           active := none, pendingRecipe := none, gate := L.gate.disable }

/-- Whether a crop slot's owner names a lane (R102). -/
def CropSlot.ownedBy (l : LaneId) (s : CropSlot) : Bool :=
  match s.owner with
  | none => false
  | some o => decide (o.lane = l)

/-- Every crop slot of a lane becomes Free and leaves the crop queue; the other lane's keep their order (R102). -/
def Device.freeLaneCrops (d : Device) (l : LaneId) : Device :=
  let mine : Nat → Bool := fun i =>
    match d.crops[i]? with
    | none => false
    | some s => s.ownedBy l
  { d with crops := d.crops.map (fun s => if s.ownedBy l then { s with state := .free, owner := none } else s),
           cropQueue := d.cropQueue.filter (fun i => !mine i) }

/-- A cleared condition set: no condition but those given, no snapshot; mask and notice pending mark kept (R183). -/
def CondSet.cleared (standing : Word16) (c : CondSet) : CondSet := { c with raised := standing, snapshot := none }

/-- Disable Lane's clearing of the lane's set and its two ports' sets, taken whole: the conditions a monitor at zero holds
standing are raised again in it (R183, log 17). -/
def Device.clearLaneConds (d : Device) (l : LaneId) : Device :=
  let s0 := (d.port ⟨l, .p0⟩).standing
  let s1 := (d.port ⟨l, .p1⟩).standing
  d.updateConds (fun u =>
    ((u.mod (.lane l) (CondSet.cleared 0)).mod (.port ⟨l, .p0⟩) (CondSet.cleared s0)).mod (.port ⟨l, .p1⟩)
      (CondSet.cleared s1))

/-- Everything Disable Lane discards (R144): the lane's own state, its retire order entries, close-queue records,
evaluation, waiting windows and crop slots; the places freed go to the other lane's waiting windows (R97, R123). -/
def Device.disableLane (d : Device) (l : LaneId) : Device :=
  let d := (d.modLane l Lane.disable).freeLaneCrops l
  let d := { d with retireOrder := d.retireOrder.filter (fun r => decide (r.1 ≠ l)),
                    waiting := d.waiting.filter (fun k => decide (k.lane ≠ l)),
                    closeQueue := d.closeQueue.filter (fun w => decide (w.lane ≠ l)),
                    evaluation := d.evaluation.filter (fun w => decide (w.lane ≠ l)) }
  d.refillClose.clearLaneConds l

/-- Disable Lane (R144): taken in every lane state, Off included. -/
def takeDisableLane (tag lane : Byte) (d : Device) : Device :=
  d.onLane tag 0x52 lane (fun l => (d.disableLane l).reply tag 0x52 .done [])

/-- Read Lane (R146). -/
def takeReadLane (tag lane : Byte) (d : Device) : Device :=
  d.onLane tag 0x53 lane (fun l => d.reply tag 0x53 .done (laneRecord d l))

/-- Read Panel (R147). -/
def takeReadPanel (tag lane context : Byte) (d : Device) : Device :=
  d.onLane tag 0x54 lane (fun l =>
    match fourOf context with
    | none => d.reply tag 0x54 .refusedRange []
    | some n => d.reply tag 0x54 .done (panelRecord d l n))

/-! ## The gate unit -/

/-- Set Gate Mode (R154): refused with RefusedForced, and WriteRejected raised, while the lane is forced. -/
def takeSetGateMode (tag lane mode : Byte) (d : Device) : Device :=
  match laneOf lane, gateModeOf mode with
  | some l, some m =>
    if (d.lane l).gate.isForced then (d.raiseDevice .writeRejected).reply tag 0x60 .refusedForced []
    else (d.modLane l (fun L => { L with gate := { L.gate with mode := m } })).reply tag 0x60 .done []
  | _, _ => d.reply tag 0x60 .refusedRange []

/-- Set Fault Response (R155). -/
def takeSetFaultResponse (tag lane kind override hold : Byte) (d : Device) : Device :=
  match laneOf lane, faultKindOf kind, overrideOf override, markOf hold with
  | some l, some k, some o, some h =>
    (d.modLane l (fun L =>
      { L with gate := { L.gate with table := L.gate.table.set k { override := o, hold := h } } })).reply tag 0x61 .done []
  | _, _, _, _ => d.reply tag 0x61 .refusedRange []

/-- The forced override, the hold and the fault kinds seen released (R159). -/
def Gate.release (g : Gate) : Gate := { g with forced := .none, hold := false, seen := Gate.atReset.seen }

/-- Release Force (R159). -/
def takeReleaseForce (tag lane : Byte) (d : Device) : Device :=
  d.onLane tag 0x62 lane (fun l =>
    (d.modLane l (fun L => { L with gate := L.gate.release })).reply tag 0x62 .done [])

/-- Read Gate (R160). -/
def takeReadGate (tag lane : Byte) (d : Device) : Device :=
  d.onLane tag 0x63 lane (fun l => d.reply tag 0x63 .done (gateRecord (d.lane l).gate))

/-! ## The commands -/

def execEnableLane (tag lane : Byte) (s : State) : Host.Outcome State Fault Refusal :=
  event (fun d => d.arrive tag (.enableLane lane) (takeEnableLane tag lane)) s

def execArmLane (tag lane : Byte) (s : State) : Host.Outcome State Fault Refusal :=
  event (fun d => d.arrive tag (.armLane lane) (takeArmLane tag lane)) s

def execDisableLane (tag lane : Byte) (s : State) : Host.Outcome State Fault Refusal :=
  event (fun d => d.arrive tag (.disableLane lane) (takeDisableLane tag lane)) s

def execReadLane (tag lane : Byte) (s : State) : Host.Outcome State Fault Refusal :=
  event (fun d => d.arrive tag (.readLane lane) (takeReadLane tag lane)) s

def execReadPanel (tag lane context : Byte) (s : State) : Host.Outcome State Fault Refusal :=
  event (fun d => d.arrive tag (.readPanel lane context) (takeReadPanel tag lane context)) s

def execSetGateMode (tag lane mode : Byte) (s : State) : Host.Outcome State Fault Refusal :=
  event (fun d => d.arrive tag (.setGateMode lane mode) (takeSetGateMode tag lane mode)) s

def execSetFaultResponse (tag lane kind override hold : Byte) (s : State) : Host.Outcome State Fault Refusal :=
  event (fun d => d.arrive tag (.setFaultResponse lane kind override hold)
    (takeSetFaultResponse tag lane kind override hold)) s

def execReleaseForce (tag lane : Byte) (s : State) : Host.Outcome State Fault Refusal :=
  event (fun d => d.arrive tag (.releaseForce lane) (takeReleaseForce tag lane)) s

def execReadGate (tag lane : Byte) (s : State) : Host.Outcome State Fault Refusal :=
  event (fun d => d.arrive tag (.readGate lane) (takeReadGate tag lane)) s

end Sys2Proof.Machine
end

