-- ==== Sys2Proof/Machine/Reset.lean ====
section
/-! DEFINITION. Power, the reset pin and Reset Device (R161, R174 to R176). -/

namespace Sys2Proof.Machine

/-- The levels of the CAM_SD inputs. -/
def Device.camSds (d : Device) : PerLane (PerPort Bool) :=
  let of : LaneId → PerPort Bool := fun l => { p0 := (d.port ⟨l, .p0⟩).camSd, p1 := (d.port ⟨l, .p1⟩).camSd }
  { a := of .a, b := of .b }

/-- Every block at its power-on values before any condition is raised; the input levels stay as they are (log 2). -/
def Device.allAtPowerOn (d : Device) : Device := Device.atPowerOn d.resetLow d.trkSd d.camSds d.freeIndex

def allPorts : List PortId := [⟨.a, .p0⟩, ⟨.a, .p1⟩, ⟨.b, .p0⟩, ⟨.b, .p1⟩]

/-- A port right after a reset: in Dark at once where CAM_SD is inactive, with its conditions, and NoiseThreshold and
CheckThreshold raised because both monitors are zero (R49, R56, R176). -/
def Device.wakePort (d : Device) (p : PortId) : Device :=
  let d := if (d.port p).camSd then d else d.onStream p (PortRun.enterStream .dark)
  d.raise (.port p) (d.port p).standing

/-- What the condition unit raises once the power-on values are taken: ResetDone, then the ports' conditions (R176). -/
def Device.raiseResetConds (d : Device) : Device := allPorts.foldl Device.wakePort (d.raiseDevice .resetDone)

/-- Power is applied: power-on values, link Down, no credit, ResetDone raised (R161, R176, log 2). While RESET_N is low
the conditions wait for its release (log 3). -/
def Device.powersOn (d : Device) : Device :=
  let d := d.allAtPowerOn
  if d.resetLow then d else d.raiseResetConds

/-- RESET_N goes low: every block at its power-on values, link Down (R161, section 9.9, log 3). -/
def Device.resetFalls (d : Device) : Device := { d with resetLow := true }.allAtPowerOn

/-- The link state at release of the reset pin, from TRK_SD (R161). -/
def linkAtRelease (trkSd : Bool) : Link := if trkSd then .training else .down

/-- RESET_N is released: power-on values, the link from TRK_SD, ResetDone raised (R175). -/
def Device.resetRises (d : Device) : Device :=
  ({ d with resetLow := false }.allAtPowerOn.modTrunk (fun t => { t with link := linkAtRelease d.trkSd })).raiseResetConds

/-- Reset Device: every block to its power-on values but the link state, the sync run, the credit count, the frame in
transmission and the inbound frame being assembled; ResetDone raised; then its own Done reply (R174). -/
def takeResetDevice (tag : Byte) (d : Device) : Device :=
  let t := d.trunk
  ((d.allAtPowerOn.modTrunk (fun new =>
    { new with link := t.link, syncRun := t.syncRun, credit := t.credit, frame := t.frame,
               rx := t.rx })).raiseResetConds).reply tag 0x71 .done []

/-! ## The commands -/

def execPowerOn (s : State) : Host.Outcome State Fault Refusal := pinEvent Device.powersOn s

def execResetPinAssert (s : State) : Host.Outcome State Fault Refusal := pinEvent Device.resetFalls s

def execResetPinRelease (s : State) : Host.Outcome State Fault Refusal := pinEvent Device.resetRises s

def execResetDevice (tag : Byte) (s : State) : Host.Outcome State Fault Refusal :=
  event (fun d => d.arrive tag .resetDevice (takeResetDevice tag)) s

end Sys2Proof.Machine
end

