-- ==== Sys2Proof/Machine/Trunk.lean ====
section
/-! DEFINITION. The trunk link (chapter 9): link state, inbound frames, the order decoder, the outbound arbiter, the
stall timer, and the trunk's own orders. -/

namespace Sys2Proof.Machine

/-! ## The trunk's own orders (section 9.8) -/

/-- Identify (R172). -/
def takeIdentify (tag : Byte) (d : Device) : Device := d.reply tag 0x70 .done identifyRecord

/-- Read Trunk (R172): the record stands as the order is taken, before its own reply. -/
def takeReadTrunk (tag : Byte) (d : Device) : Device := d.reply tag 0x73 .done (trunkRecord d)

/-- A new stall limit; a running stall timer is loaded afresh from it (R173). -/
def Trunk.setLimit (t : Trunk) (limit : Word16) : Trunk :=
  { t with stallLimit := limit, stallLeft := t.stallLeft.map (fun _ => limit.toNat * 1000) }

/-- Configure Device (R173). -/
def takeConfigureDevice (tag : Byte) (limit : Word16) (d : Device) : Device :=
  if limit = 0 then d.reply tag 0x72 .refusedRange []
  else (d.modTrunk (fun t => t.setLimit limit)).reply tag 0x72 .done []

/-! ## The order decoder (R167, R186) -/

/-- An order of the wrong payload length is refused whatever it names (R186). -/
def takeMalformed (tag code : Byte) (d : Device) : Device := d.reply tag code .refusedRange []

/-- An unlisted code is answered UnknownOrder and nothing changes (R167). -/
def takeUnknown (tag code : Byte) (d : Device) : Device := d.reply tag code .unknownOrder []

/-- What the owner of an order does with it (R167, Table 9-2). -/
def takeOrder (tag : Byte) : Order → Device → Device
  | .openSlot slot => takeOpenSlot tag slot
  | .writeHeader slot h => takeWriteHeader tag slot h
  | .writeFiducials slot start count es => takeWriteFiducials tag slot start count es
  | .writeJoints slot start count es => takeWriteJoints tag slot start count es
  | .writeRules slot start count es => takeWriteRules tag slot start count es
  | .sealSlot slot => takeSealSlot tag slot
  | .unsealSlot slot => takeUnsealSlot tag slot
  | .eraseSlot slot => takeEraseSlot tag slot
  | .readSlot slot => takeReadSlot tag slot
  | .readFiducials slot start count => takeReadFiducials tag slot start count
  | .readJoints slot start count => takeReadJoints tag slot start count
  | .readRules slot start count => takeReadRules tag slot start count
  | .bindRecipe lane slot => takeBindRecipe tag lane slot
  | .configureLane lane x => takeConfigureLane tag lane x
  | .configurePort port noise check => takeConfigurePort tag port noise check
  | .loadPattern port offset count px => takeLoadPattern tag port offset count px
  | .readPattern port offset count => takeReadPattern tag port offset count
  | .setInjection port mode n => takeSetInjection tag port mode n
  | .readPort port => takeReadPort tag port
  | .readWindows lane start count => takeReadWindows tag lane start count
  | .setReportMode lane mode detail => takeSetReportMode tag lane mode detail
  | .readJudgement => takeReadJudgement tag
  | .enableLane lane => takeEnableLane tag lane
  | .armLane lane => takeArmLane tag lane
  | .disableLane lane => takeDisableLane tag lane
  | .readLane lane => takeReadLane tag lane
  | .readPanel lane context => takeReadPanel tag lane context
  | .setGateMode lane mode => takeSetGateMode tag lane mode
  | .setFaultResponse lane kind override hold => takeSetFaultResponse tag lane kind override hold
  | .releaseForce lane => takeReleaseForce tag lane
  | .readGate lane => takeReadGate tag lane
  | .identify => takeIdentify tag
  | .resetDevice => takeResetDevice tag
  | .configureDevice limit => takeConfigureDevice tag limit
  | .readTrunk => takeReadTrunk tag
  | .readConditions set => takeReadConditions tag set
  | .clearConditions set list => takeClearConditions tag set list
  | .setMask set list => takeSetMask tag set list
  | .malformed code => takeMalformed tag code
  | .unknown code => takeUnknown tag code

/-- The decoder takes the oldest waiting order when the reply queue has room (R167). -/
def Device.decodeNext (d : Device) : Device :=
  match d.trunk.inbound with
  | [] => d
  | q :: rest =>
    if d.replyRoom then takeOrder q.tag q.order (d.modTrunk (fun t => { t with inbound := rest })) else d

/-- An Order payload reaches the decoder: its tag, its code and the bytes of its parameters (R166, R186). -/
def Device.orderArrives (d : Device) (tag code : Byte) (params : List Byte) : Device :=
  d.arrive tag (parseOrder code params) (takeOrder tag (parseOrder code params))

/-! ## Inbound frames (R164, R165, R185) -/

/-- An inbound frame is discarded with FrameError; `rx` is what the receiver goes on with (R164). -/
def Device.discardFrame (d : Device) (rx : Option (List Byte)) : Device :=
  (d.modTrunk (fun t => { t with rx := rx })).raiseDevice .frameError

/-- A grant is added to the credit count, the sum limited to 255 (R165). -/
def Device.grantCredit (d : Device) (grant : Byte) : Device :=
  d.modTrunk (fun t => { t with credit := min 255 (t.credit + grant.toNat) })

/-- A kind byte an inbound frame may carry: Order 01H or Credit 02H (Table 11-1). -/
def inboundKind (b : Byte) : Bool := decide (b = 1) || decide (b = 2)

/-- A payload length an inbound frame of a kind may state (R185). -/
def inboundLength (kind : Byte) (n : Nat) : Bool :=
  if kind = 2 then decide (n = 1) else decide (2 ≤ n) && decide (n ≤ 512)

/-- A frame whose checks agree, by its kind (R165, R166). -/
def Device.acceptFrame (d : Device) (kind : Byte) (payload : List Byte) : Device :=
  if kind = 2 then d.grantCredit (payload.headD 0)
  else
    match payload with
    | tag :: code :: params => d.orderArrives tag code params
    | _ => d

/-- The last word of a frame has come: `body` is kind, length and payload, `check` the check it carries (R164, R185). -/
def Device.endFrame (d : Device) (kind : Byte) (body check : List Byte) : Device :=
  if (crc body).toNat = ofBe check then
    (d.modTrunk (fun t => { t with rx := none })).acceptFrame kind (body.drop 3)
  else d.discardFrame none

/-- A data byte in Up: ignored between frames, otherwise taken into the frame, whose kind is examined at its first byte
and whose length at its third (R164, R185). -/
def Device.rxByte (d : Device) (b : Byte) : Device :=
  match d.trunk.rx with
  | none => d
  | some newest =>
    let bytes := (b :: newest).reverse
    match bytes with
    | [kind] => if inboundKind kind then d.modTrunk (fun t => { t with rx := some [b] }) else d.discardFrame none
    | [kind, _] => d.modTrunk (fun t => { t with rx := some [b, kind] })
    | kind :: l1 :: l0 :: rest =>
      let n := (word16 l1 l0).toNat
      if !inboundLength kind n then d.discardFrame none
      else if rest.length = n + 2 then d.endFrame kind (bytes.take (n + 3)) (bytes.drop (n + 3))
      else d.modTrunk (fun t => { t with rx := some (b :: newest) })
    | [] => d

/-- A word taken by frame assembly (R162, R164): a control word within a frame breaks it, and a delimiter opens one. -/
def Device.rxWord (d : Device) : LinkWord → Device
  | .sync => if d.trunk.rx.isSome then d.discardFrame none else d
  | .delimiter => if d.trunk.rx.isSome then d.discardFrame (some []) else d.modTrunk (fun t => { t with rx := some [] })
  | .data b => d.rxByte b

/-- A word received in Training (R162). -/
def Trunk.trainWord (t : Trunk) (w : LinkWord) : Trunk :=
  if w = .sync then
    if 8 ≤ t.syncRun + 1 then { t with syncRun := 8, link := .up } else { t with syncRun := t.syncRun + 1 }
  else { t with syncRun := 0 }

/-- A word on TRK_RX, by the link state (R162). -/
def Device.trunkWord (d : Device) (w : LinkWord) : Device :=
  match d.trunk.link with
  | .down => d
  | .training => d.modTrunk (fun t => t.trainWord w)
  | .up => d.rxWord w

/-- A whole frame begins with a delimiter, which breaks a frame being assembled before any of it is taken (R164, log 5);
the stall timer follows a notice that this queues (R171). -/
def Device.breakOpen (d : Device) : Device :=
  if d.trunk.rx.isSome then (d.discardFrame none).settleStall else d

/-- The words of a whole frame: in Up the receiver takes the frame; in Training its words break the sync run, which then
stands at `run`; in Down no word has an effect (R162, log 5). -/
def Device.frameComes (d : Device) (run : Nat) (f : Device → Device) : Device :=
  match d.trunk.link with
  | .up => f d
  | .training => d.modTrunk (fun t => { t with syncRun := run })
  | .down => d

/-- What the receiver goes on with after a discarded frame: a delimiter that broke it opens a new frame (R164). -/
def rxAfter : FrameDamage → Option (List Byte)
  | .brokenByDelimiter => some []
  | .badCheck | .badLength | .wrongKind | .brokenBySync => none

/-- The sync run that the words of a damaged frame leave in Training: every word other than Sync zeroes it, and the Sync
that breaks a frame counts one (R162, log 5). -/
def runAfter : FrameDamage → Nat
  | .brokenBySync => 1
  | .badCheck | .badLength | .wrongKind | .brokenByDelimiter => 0

/-- A whole Order frame whose checks agree; one longer than 512 bytes is discarded at its length (R164, R185). -/
def Device.orderFrame (tag code : Byte) (params : List Byte) (d : Device) : Device :=
  if 2 + params.length ≤ 512 then d.breakOpen.orderArrives tag code params else d.breakOpen.discardFrame none

/-! ## The link state (R162, R163) -/

/-- The link leaves Up: the inbound frame, the credit and the frame in transmission are gone (R163). -/
def Trunk.leaveUp (t : Trunk) : Trunk := if t.link = .up then { t with rx := none, credit := 0, frame := none } else t

/-- TRK_SD becomes inactive (R162, R163). While RESET_N is low only the level is kept (log 3). -/
def Device.trkSdFalls (d : Device) : Device :=
  let d := { d with trkSd := false }
  if d.resetLow then d else d.modTrunk (fun t => { t.leaveUp with link := .down, syncRun := 0 })

/-- TRK_SD becomes active: a link in Down enters Training (R162). -/
def Device.trkSdRises (d : Device) : Device :=
  let d := { d with trkSd := true }
  if d.resetLow then d
  else if d.trunk.link = .down then d.modTrunk (fun t => { t with link := .training, syncRun := 0 })
  else d

/-! ## The outbound arbiter (R169, R170) -/

/-- The frame sent for an item: its words carry the kind code, the length and the check of the payload (R184, R185). -/
def Frame.of (kind : FrameKind) (payload : List Byte) : Frame :=
  { kind := kind, payload := payload, words := frameWords (frameKindCode kind) payload }

/-- A frame begins: one credit spent, its contents fixed (R170). -/
def Trunk.send (t : Trunk) (kind : FrameKind) (payload : List Byte) : Trunk :=
  { t with credit := t.credit - 1, frame := some (.of kind payload) }

/-- A reply is sent and frees a place, so that the decoder may take its next order, which finds the stall timer as the
spent credit leaves it (R170, R171). -/
def Device.sendReply (d : Device) (r : Reply) (rest : List Reply) : Device :=
  (d.modTrunk (fun t => { t.send .reply (replyPayload r) with replies := rest })).settleStall.decodeNext

/-- A notice is sent: the set leaves the notice queue, its mark clears, and the notice takes its contents (R170, R179). -/
def Device.sendNotice (d : Device) (i : SetId) (rest : List SetId) : Device :=
  let u := { d.cond.mod i (fun c => { c with noticePending := false }) with noticeQueue := rest }
  { d with cond := u }.modTrunk (fun t => t.send .notice (noticePayload u i))

/-- A panel report is sent and frees a place, into which the oldest of the retire order retires (R170). -/
def Device.sendPanelReport (d : Device) (r : PanelReport) (rest : List PanelReport) : Device :=
  let d := d.modTrunk (fun t => { t.send .panelReport (panelReportPayload r) with panelReports := rest })
  Device.retireFrom d.retireOrder d

/-- A verdict report is sent and frees a place in the verdict queue (R170). -/
def Device.sendVerdict (d : Device) (r : VerdictReport) (rest : List VerdictReport) : Device :=
  d.modTrunk (fun t => { t.send .verdictReport (verdictReportPayload r) with verdicts := rest })

/-- A crop report is sent with the slot's owner and pixels, and the slot becomes Free (R170). -/
def Device.sendCrop (d : Device) (i : Nat) : Device :=
  (d.modTrunk (fun t => t.send .cropReport (cropReportPayload i (d.crops.getD i .free)))).freeCrop i

/-- The oldest item of the first queue that holds one, in the order of R169, is sent. -/
def Device.sendNext (d : Device) : Device :=
  match d.trunk.replies, d.cond.noticeQueue, d.trunk.panelReports, d.trunk.verdicts, d.cropQueue with
  | r :: rest, _, _, _, _ => d.sendReply r rest
  | [], i :: rest, _, _, _ => d.sendNotice i rest
  | [], [], r :: rest, _, _ => d.sendPanelReport r rest
  | [], [], [], r :: rest, _ => d.sendVerdict r rest
  | [], [], [], [], i :: _ => d.sendCrop i
  | [], [], [], [], [] => d

/-- The arbiter begins a frame when the link is Up, credit is above zero and no frame is in transmission (R169). -/
def Device.beginFrame (d : Device) : Device :=
  if d.trunk.link = .up ∧ 0 < d.trunk.credit ∧ d.trunk.frame = none then d.sendNext else d

/-- The frame in transmission ends (R170). -/
def Device.endTransmission (d : Device) : Device := d.modTrunk (fun t => { t with frame := none })

/-! ## The stall timer (R171) -/

/-- The stall timer expires, if it runs: TrunkStall in the device set and as a fault on both lanes, and the timer is
loaded again (R171, log 22). -/
def Device.stallExpires (d : Device) : Device :=
  if d.trunk.stallLeft.isSome then
    (((d.raiseDevice .trunkStall).fault .a .trunkStall).fault .b .trunkStall).modTrunk
      (fun t => { t with stallLeft := some t.stallLoad })
  else d

/-! ## The commands -/

def execTrkSdInactive (s : State) : Host.Outcome State Fault Refusal := pinEvent Device.trkSdFalls s

def execTrkSdActive (s : State) : Host.Outcome State Fault Refusal := pinEvent Device.trkSdRises s

def execTrainingWord (word : LinkWord) (s : State) : Host.Outcome State Fault Refusal :=
  event (fun d => d.trunkWord word) s

def execFrameError (damage : FrameDamage) (s : State) : Host.Outcome State Fault Refusal :=
  event (fun d => d.frameComes (runAfter damage) (fun d => d.discardFrame (rxAfter damage))) s

def execCreditFrame (grant : Byte) (s : State) : Host.Outcome State Fault Refusal :=
  event (fun d => d.frameComes 0 (fun d => d.breakOpen.grantCredit grant)) s

def execOrderFrame (tag code : Byte) (params : List Byte) (s : State) : Host.Outcome State Fault Refusal :=
  event (fun d => d.frameComes 0 (Device.orderFrame tag code params)) s

/-- A code Table 11-2 lists is no unknown order; it is decoded as that order without parameters (log 25). -/
def execUnknownOrder (tag code : Byte) (s : State) : Host.Outcome State Fault Refusal :=
  event (fun d => d.orderArrives tag code []) s

def execFrameBegin (s : State) : Host.Outcome State Fault Refusal := event Device.beginFrame s

def execFrameComplete (s : State) : Host.Outcome State Fault Refusal := event Device.endTransmission s

def execStallTimerExpiry (s : State) : Host.Outcome State Fault Refusal := event Device.stallExpires s

def execIdentify (tag : Byte) (s : State) : Host.Outcome State Fault Refusal :=
  event (fun d => d.arrive tag .identify (takeIdentify tag)) s

def execReadTrunk (tag : Byte) (s : State) : Host.Outcome State Fault Refusal :=
  event (fun d => d.arrive tag .readTrunk (takeReadTrunk tag)) s

def execConfigureDevice (tag : Byte) (stallLimit : Word16) (s : State) : Host.Outcome State Fault Refusal :=
  event (fun d => d.arrive tag (.configureDevice stallLimit) (takeConfigureDevice tag stallLimit)) s

end Sys2Proof.Machine
end

