-- ==== Sys2Proof/Machine/Time.lean ====
section
/-! DEFINITION. The passage of one microsecond, which is what a step does when no command waits (log 7): the strobe,
idle, warm-up and stall timers that run count down and expire at zero. -/

namespace Sys2Proof.Machine

/-- One microsecond at a lane's strobe sequencer: the flash or the settle time counts down and ends (R42). -/
def Device.tickStrobe (d : Device) (l : LaneId) : Device :=
  let s := (d.lane l).strobe
  match s.state with
  | .idle => d
  | .flash _ =>
    if s.flashLeft ≤ 1 then d.flashEnds l
    else d.modLane l (fun L => { L with strobe := { s with flashLeft := s.flashLeft - 1 } })
  | .settle p =>
    if s.settle.get p ≤ 1 then d.settleExpires l
    else d.modLane l (fun L => { L with strobe := { s with settle := s.settle.set p (s.settle.get p - 1) } })

/-- One microsecond at a lane's idle timer (R130). -/
def Device.tickIdle (d : Device) (l : LaneId) : Device :=
  match (d.lane l).idleLeft with
  | none => d
  | some n => if n ≤ 1 then d.idleExpires l else d.modLane l (fun L => { L with idleLeft := some (n - 1) })

/-- One microsecond at a lane's warm-up timer (R45). -/
def Device.tickWarmup (d : Device) (l : LaneId) : Device :=
  match (d.lane l).warmupLeft with
  | none => d
  | some n => if n ≤ 1 then d.warmupExpires l else d.modLane l (fun L => { L with warmupLeft := some (n - 1) })

/-- One microsecond at the stall timer (R171). -/
def Device.tickStall (d : Device) : Device :=
  match d.trunk.stallLeft with
  | none => d
  | some n => if n ≤ 1 then d.stallExpires else d.modTrunk (fun t => { t with stallLeft := some (n - 1) })

/-- One microsecond at a lane; the idle timer before the warm-up timer, whose expiry may start it. -/
def Device.tickLane (d : Device) (l : LaneId) : Device := ((d.tickStrobe l).tickIdle l).tickWarmup l

/-- One microsecond: the stall timer, then lane A, then lane B (log 7). -/
def Device.tick (d : Device) : Device := (d.tickStall.tickLane .a).tickLane .b

/-- What an empty queue does: one microsecond passes. -/
def idle (s : State) : Host.Outcome State Fault Refusal := event Device.tick s

end Sys2Proof.Machine
end

