-- ==== Sys2Proof/Machine/Dispatch.lean ====
section
/-! DEFINITION. The meaning of each command: one direct call for each constructor of Instr. -/

namespace Sys2Proof.Machine

def exec (i : Instr) (s : State) : Host.Outcome State Fault Refusal :=
  match i with
  | .powerOn => Sys2Proof.Machine.execPowerOn s
  | .resetPinAssert => Sys2Proof.Machine.execResetPinAssert s
  | .resetPinRelease => Sys2Proof.Machine.execResetPinRelease s
  | .openSlot tag slot => Sys2Proof.Machine.execOpenSlot tag slot s
  | .writeHeader tag slot header => Sys2Proof.Machine.execWriteHeader tag slot header s
  | .writeFiducials tag slot start count entries => Sys2Proof.Machine.execWriteFiducials tag slot start count entries s
  | .writeJoints tag slot start count entries => Sys2Proof.Machine.execWriteJoints tag slot start count entries s
  | .writeRules tag slot start count entries => Sys2Proof.Machine.execWriteRules tag slot start count entries s
  | .sealSlot tag slot => Sys2Proof.Machine.execSealSlot tag slot s
  | .validationComplete => Sys2Proof.Machine.execValidationComplete s
  | .unsealSlot tag slot => Sys2Proof.Machine.execUnsealSlot tag slot s
  | .eraseSlot tag slot => Sys2Proof.Machine.execEraseSlot tag slot s
  | .readSlot tag slot => Sys2Proof.Machine.execReadSlot tag slot s
  | .readFiducials tag slot start count => Sys2Proof.Machine.execReadFiducials tag slot start count s
  | .readJoints tag slot start count => Sys2Proof.Machine.execReadJoints tag slot start count s
  | .readRules tag slot start count => Sys2Proof.Machine.execReadRules tag slot start count s
  | .bindRecipe tag lane slot => Sys2Proof.Machine.execBindRecipe tag lane slot s
  | .configureLane tag lane settings => Sys2Proof.Machine.execConfigureLane tag lane settings s
  | .encoderForwardCount lane => Sys2Proof.Machine.execEncoderForwardCount lane s
  | .encoderReverseCount lane => Sys2Proof.Machine.execEncoderReverseCount lane s
  | .edgeRise lane => Sys2Proof.Machine.execEdgeRise lane s
  | .flashEnd lane => Sys2Proof.Machine.execFlashEnd lane s
  | .settleExpiry lane => Sys2Proof.Machine.execSettleExpiry lane s
  | .warmupExpiry lane => Sys2Proof.Machine.execWarmupExpiry lane s
  | .idleTimerExpiry lane => Sys2Proof.Machine.execIdleTimerExpiry lane s
  | .enableLane tag lane => Sys2Proof.Machine.execEnableLane tag lane s
  | .armLane tag lane => Sys2Proof.Machine.execArmLane tag lane s
  | .disableLane tag lane => Sys2Proof.Machine.execDisableLane tag lane s
  | .readLane tag lane => Sys2Proof.Machine.execReadLane tag lane s
  | .readPanel tag lane context => Sys2Proof.Machine.execReadPanel tag lane context s
  | .camSdInactive port => Sys2Proof.Machine.execCamSdInactive port s
  | .camSdActive port => Sys2Proof.Machine.execCamSdActive port s
  | .fillWord port => Sys2Proof.Machine.execFillWord port s
  | .startWord port lineTag phase => Sys2Proof.Machine.execStartWord port lineTag phase s
  | .dataWord port pixel => Sys2Proof.Machine.execDataWord port pixel s
  | .endWord port check => Sys2Proof.Machine.execEndWord port check s
  | .violationWord port word => Sys2Proof.Machine.execViolationWord port word s
  | .configurePort tag port noise check => Sys2Proof.Machine.execConfigurePort tag port noise check s
  | .loadPattern tag port offset count pixels => Sys2Proof.Machine.execLoadPattern tag port offset count pixels s
  | .readPattern tag port offset count => Sys2Proof.Machine.execReadPattern tag port offset count s
  | .setInjection tag port mode n => Sys2Proof.Machine.execSetInjection tag port mode n s
  | .readPort tag port => Sys2Proof.Machine.execReadPort tag port s
  | .itemTake lane => Sys2Proof.Machine.execItemTake lane s
  | .evaluationTake => Sys2Proof.Machine.execEvaluationTake s
  | .evaluationComplete => Sys2Proof.Machine.execEvaluationComplete s
  | .setReportMode tag lane mode detail => Sys2Proof.Machine.execSetReportMode tag lane mode detail s
  | .readJudgement tag => Sys2Proof.Machine.execReadJudgement tag s
  | .readWindows tag lane start count => Sys2Proof.Machine.execReadWindows tag lane start count s
  | .setGateMode tag lane mode => Sys2Proof.Machine.execSetGateMode tag lane mode s
  | .setFaultResponse tag lane kind override hold => Sys2Proof.Machine.execSetFaultResponse tag lane kind override hold s
  | .releaseForce tag lane => Sys2Proof.Machine.execReleaseForce tag lane s
  | .readGate tag lane => Sys2Proof.Machine.execReadGate tag lane s
  | .trkSdInactive => Sys2Proof.Machine.execTrkSdInactive s
  | .trkSdActive => Sys2Proof.Machine.execTrkSdActive s
  | .trainingWord word => Sys2Proof.Machine.execTrainingWord word s
  | .frameError damage => Sys2Proof.Machine.execFrameError damage s
  | .creditFrame grant => Sys2Proof.Machine.execCreditFrame grant s
  | .orderFrame tag code params => Sys2Proof.Machine.execOrderFrame tag code params s
  | .unknownOrder tag code => Sys2Proof.Machine.execUnknownOrder tag code s
  | .frameBegin => Sys2Proof.Machine.execFrameBegin s
  | .frameComplete => Sys2Proof.Machine.execFrameComplete s
  | .stallTimerExpiry => Sys2Proof.Machine.execStallTimerExpiry s
  | .identify tag => Sys2Proof.Machine.execIdentify tag s
  | .readTrunk tag => Sys2Proof.Machine.execReadTrunk tag s
  | .configureDevice tag stallLimit => Sys2Proof.Machine.execConfigureDevice tag stallLimit s
  | .resetDevice tag => Sys2Proof.Machine.execResetDevice tag s
  | .readConditions tag set => Sys2Proof.Machine.execReadConditions tag set s
  | .clearConditions tag set list => Sys2Proof.Machine.execClearConditions tag set list s
  | .setMask tag set list => Sys2Proof.Machine.execSetMask tag set list s

end Sys2Proof.Machine
end

