-- ==== Sys2Proof/Machine/Pins.lean ====
section
/-! DEFINITION. The output pins, each level computed from the state that drives it (log 12): STROBE (R41, R42), LIGHT_ON
(R45, R130), DIVERT_0, DIVERT_1 and HOLD (R153), CAM_TRIG (R60, R189), TRK_TX (R184, sections 9.9 and 11.1). -/

namespace Sys2Proof.Machine

/-- STROBE_TOP, STROBE_RING or STROBE_AXIAL: active from entry into Flash of the phase to the end of its flash time
(R41, R42). -/
def Lane.strobeOn (L : Lane) (p : Phase) : Bool := decide (L.strobe.state = .flash p)

/-- LIGHT_ON: active from entry into Warming until the illumination goes off again (R45, R130). -/
def Lane.lightOn (L : Lane) : Bool :=
  match L.light with
  | .off => false
  | .warming | .ready => true

/-- DIVERT_0 (Table 8-1). -/
def Gate.divert0 (g : Gate) : Bool :=
  match g.divert with
  | .accept => true
  | .review | .reject => false

/-- DIVERT_1 (Table 8-1). -/
def Gate.divert1 (g : Gate) : Bool :=
  match g.divert with
  | .reject => true
  | .review | .accept => false

/-- HOLD: active while the lane's hold is set (R153). -/
def Gate.holdOn (g : Gate) : Bool := g.hold

/-- CAM_TRIG: the trigger word last sent (R60, R189, log 20). -/
def Port.camTrig (p : Port) : Option (BitVec 24) := p.trigSent

/-- TRK_TX: the words of the frame in transmission; between frames the part sends Sync (section 11.1). While RESET_N is low
TRK_TX is not driven and sends nothing (section 9.9, log 12). -/
def Device.trkTx (d : Device) : List LinkWord :=
  if d.resetLow then []
  else
    match d.trunk.frame with
    | none => [.sync]
    | some f => f.words

end Sys2Proof.Machine
end

