-- ==== Sys2Proof/Safety.lean ====
section
/-! DEFINITION. What the statements speak of: when an order is taken at once, what an answer is, and the properties that
every step keeps. -/

namespace Sys2Proof.Machine

/-! ## Operands by the thing they name (chapter 11, opening; section 11.2) -/

def slotByte (i : Fin 4) : Byte := BitVec.ofNat 8 i.val
def laneByte (l : LaneId) : Byte := BitVec.ofNat 8 (laneCode l)
def portByte (p : PortId) : Byte := BitVec.ofNat 8 (portCode p)
def setByte (i : SetId) : Byte := BitVec.ofNat 8 (setCode i)

/-! ## Orders -/

/-- An order that arrives is taken in the same event: the part is not held in reset, no order waits and the reply queue
has room (R167). -/
def Taken (s : State) : Prop := s.dev.resetLow = false ∧ s.dev.trunk.inbound = [] ∧ s.dev.replyRoom = true

/-- The next state in which the part is `d`, with the stall timer following its condition, judged on `d` (log 38), and the
queue of commands as it was (R171). -/
def becomes (s : State) (d : Device) : Host.Outcome State Fault Refusal :=
  .next { dev := d.settleStall, pending := s.pending }

/-- The next state in which the part is `d` and one reply more stands at the tail of the reply queue (R168). -/
def answers (s : State) (d : Device) (tag code : Byte) (outcome : ReplyCode) (body : List Byte) :
    Host.Outcome State Fault Refusal :=
  becomes s (d.reply tag code outcome body)

/-- A lane's part of the device after a change of that lane alone. -/
def withLane (d : Device) (l : LaneId) (L : Lane) : Device := { d with lanes := d.lanes.set l L }

/-- The device after a change of one port alone. -/
def withPort (d : Device) (p : PortId) (x : Port) : Device :=
  withLane d p.lane { d.lanes.get p.lane with ports := (d.lanes.get p.lane).ports.set p.loc x }

/-- The device after a change of one recipe slot alone. -/
def withSlot (d : Device) (i : Fin 4) (x : Slot) : Device := { d with slots := d.slots.set i x }

/-! ## The orders that change a slot (Table 1-1) -/

/-- A start index, a count and the number of entries carried, against Table 1-4 (R10). -/
def entriesInRange (start count carried size most : Nat) : Bool :=
  decide (start < size ∧ 1 ≤ count ∧ count ≤ most ∧ start + count ≤ size ∧ carried = count)

/-- What Table 1-1 needs of an order that changes a slot: tag, code, slot, the state in which it is taken, and whether its
start index and count lie in their ranges. Erase Slot, which Table 1-1 takes in every state, is not among them. -/
def slotChange : Instr → Option (Byte × Byte × Byte × SlotState × Bool)
  | .openSlot tag slot => some (tag, 0x10, slot, .empty, true)
  | .writeHeader tag slot _ => some (tag, 0x11, slot, .loading, true)
  | .writeFiducials tag slot start count es =>
    some (tag, 0x12, slot, .loading, entriesInRange start.toNat count.toNat es.length 4 4)
  | .writeJoints tag slot start count es =>
    some (tag, 0x13, slot, .loading, entriesInRange start.toNat count.toNat es.length 8192 32)
  | .writeRules tag slot start count es =>
    some (tag, 0x14, slot, .loading, entriesInRange start.toNat count.toNat es.length 64 8)
  | .sealSlot tag slot => some (tag, 0x15, slot, .loading, true)
  | .unsealSlot tag slot => some (tag, 0x16, slot, .sealed, true)
  | _ => none

/-- The tag and code of an order, other than those of `slotChange` and the condition orders, one of whose operands names
nothing or lies outside its range (R186, Table 11-2 and the owning chapters). -/
def badOperand : Instr → Option (Byte × Byte)
  | .eraseSlot tag slot => if 3 < slot.toNat then some (tag, 0x17) else none
  | .readSlot tag slot => if 3 < slot.toNat then some (tag, 0x18) else none
  | .readFiducials tag slot start count =>
    if 3 < slot.toNat ∨ entriesInRange start.toNat count.toNat count.toNat 4 4 = false then some (tag, 0x19) else none
  | .readJoints tag slot start count =>
    if 3 < slot.toNat ∨ entriesInRange start.toNat count.toNat count.toNat 8192 32 = false then some (tag, 0x1A) else none
  | .readRules tag slot start count =>
    if 3 < slot.toNat ∨ entriesInRange start.toNat count.toNat count.toNat 64 8 = false then some (tag, 0x1B) else none
  | .bindRecipe tag lane slot =>
    if 1 < lane.toNat ∨ (3 < slot.toNat ∧ slot.toNat < 255) then some (tag, 0x1C) else none
  | .configureLane tag lane _ => if 1 < lane.toNat then some (tag, 0x20) else none
  | .configurePort tag port _ _ => if 3 < port.toNat then some (tag, 0x30) else none
  | .loadPattern tag port offset count pixels =>
    if 3 < port.toNat ∨ entriesInRange offset.toNat count.toNat pixels.length 2048 256 = false then some (tag, 0x31)
    else none
  | .readPattern tag port offset count =>
    if 3 < port.toNat ∨ entriesInRange offset.toNat count.toNat count.toNat 2048 256 = false then some (tag, 0x32) else none
  | .setInjection tag port mode _ => if 3 < port.toNat ∨ 3 < mode.toNat then some (tag, 0x33) else none
  | .readPort tag port => if 3 < port.toNat then some (tag, 0x34) else none
  | .readWindows tag lane start count =>
    if 1 < lane.toNat ∨ 511 < start.toNat ∨ count = 0 ∨ 16 < count.toNat then some (tag, 0x40) else none
  | .setReportMode tag lane mode detail =>
    if 1 < lane.toNat ∨ 3 < mode.toNat ∨ 1 < detail.toNat then some (tag, 0x48) else none
  | .enableLane tag lane => if 1 < lane.toNat then some (tag, 0x50) else none
  | .armLane tag lane => if 1 < lane.toNat then some (tag, 0x51) else none
  | .disableLane tag lane => if 1 < lane.toNat then some (tag, 0x52) else none
  | .readLane tag lane => if 1 < lane.toNat then some (tag, 0x53) else none
  | .readPanel tag lane context => if 1 < lane.toNat ∨ 3 < context.toNat then some (tag, 0x54) else none
  | .setGateMode tag lane mode => if 1 < lane.toNat ∨ 3 < mode.toNat then some (tag, 0x60) else none
  | .setFaultResponse tag lane kind override hold =>
    if 1 < lane.toNat ∨ 5 < kind.toNat ∨ 2 < override.toNat ∨ 1 < hold.toNat then some (tag, 0x61) else none
  | .releaseForce tag lane => if 1 < lane.toNat then some (tag, 0x62) else none
  | .readGate tag lane => if 1 < lane.toNat then some (tag, 0x63) else none
  | _ => none

/-- A port's conditions after an event that raised those of a list, the list standing in the port's set (R177). -/
def portConds (d : Device) (p : PortId) : Word16 := (d.cond.get (.port p)).raised

/-- The device with every CAM_SD input active. -/
def AllCamerasOn (d : Device) : Prop := ∀ p : PortId, (d.port p).camSd = true

/-! ## Properties every step keeps -/

/-- What holds of every step from a state with the property. -/
def KeptByStep (inv : Device → Prop) : Prop :=
  ∀ s t : State, inv s.dev → step s = .next t → inv t.dev

/-- The reply queue with the held place, the inbound order queue and the credit count stay within their sizes, and an
order waits only while the reply queue has no room (R165 to R167). -/
def TrunkWithin (d : Device) : Prop :=
  d.replyPlaces ≤ 16 ∧ d.trunk.inbound.length ≤ 16 ∧ d.trunk.credit ≤ 255 ∧
    (d.trunk.inbound ≠ [] → d.replyPlaces = 16)

/-- The close queue holds at most 128 windows, and a window waits only while it holds 128 (R97, R106). -/
def CloseQueueWithin (d : Device) : Prop :=
  d.closeQueue.length ≤ 128 ∧ (d.waiting ≠ [] → d.closeQueue.length = 128)

/-- The verdict queue holds at most 1,024 reports and the panel report queue at most 8, and a context waits in the retire
order only while that queue holds 8 (R106, R142). -/
def ReportsWithin (d : Device) : Prop :=
  d.trunk.verdicts.length ≤ 1024 ∧ d.trunk.panelReports.length ≤ 8 ∧
    (d.retireOrder ≠ [] → d.trunk.panelReports.length = 8)

/-- A port's outstanding list holds at most 16 entries and its FIFO at most 4 packets (R59, R62). -/
def Port.Within (p : Port) : Prop := p.outstanding.length ≤ 16 ∧ (p.fifo.filter Item.isPacket).length ≤ 4

def PortsWithin (d : Device) : Prop := ∀ p : PortId, (d.port p).Within

/-- An open list holds at most 512 windows and a gate queue at most 4 entries (R83, R149). -/
def LanesWithin (d : Device) : Prop :=
  ∀ l : LaneId, (d.lane l).openList.length ≤ 512 ∧ (d.lane l).gate.queue.length ≤ 4

/-- Each set stands in the notice queue at most once, and exactly while its notice pending mark is set (R179). -/
def NoticesAgree (d : Device) : Prop :=
  d.cond.noticeQueue.Nodup ∧ ∀ i : SetId, (d.cond.get i).noticePending = true ↔ i ∈ d.cond.noticeQueue

/-- Every pixel buffer keeps its one canonical form. -/
def PixelsCanonical (d : Device) : Prop :=
  (∀ p : PortId, (d.port p).pattern.wf = true) ∧ ∀ s ∈ d.crops, s.planes.wf = true

/-- A slot that is an active or pending recipe or the recipe of a live context is Sealed, and the slot named by the
validation in progress is Validating (R1, R24). -/
def ReferencedSealed (d : Device) : Prop :=
  (∀ i : Fin 4, d.referenced i = true → (d.slot i).state = .sealed) ∧
    ∀ v : Validation, d.validation = some v → (d.slot v.slot).state = .validating

/-- A lane's live contexts have different numbers, the lane is Scanning exactly while one of them is, at most one is, and
each lane timer runs only in its own lane state (R129 to R132). -/
def Lane.Ordered (L : Lane) : Prop :=
  (L.live.map (fun c => c.num)).Nodup ∧ (L.mode = .scanning ↔ ∃ c ∈ L.live, c.state = .scanning) ∧
    (L.live.filter (fun c => decide (c.state = .scanning))).length ≤ 1 ∧
    (L.warmupLeft.isSome = true → L.mode = .warming) ∧ (L.idleLeft.isSome = true → L.mode = .ready)

/-- Every lane is ordered; the retire order names each context at most once, and only Retiring ones (R142). -/
def LanesOrdered (d : Device) : Prop :=
  (∀ l : LaneId, (d.lane l).Ordered) ∧ d.retireOrder.Nodup ∧
    ∀ r ∈ d.retireOrder, ∃ c ∈ (d.lane r.1).live, c.num = r.2 ∧ c.state = .retiring

/-- Every window in flight: in an open list, in the close queue or under evaluation (R98, R99). -/
def Device.windowsInFlight (d : Device) : List Window :=
  (d.lane .a).openList ++ (d.lane .b).openList ++ d.closeQueue ++ d.evaluation.toList

/-- No live context of a lane bears the panel sequence number that its next panel gets (log 34). -/
def NumbersFresh (d : Device) : Prop := ∀ l : LaneId, ∀ c ∈ (d.lane l).live, c.seq ≠ (d.lane l).nextSeq

/-- What a live context has accounted for: every joint below the schedule pointer is in flight or counted; none is before
the registration is Found or Failed; a Decided or Retiring context has counted all (R84, R98, R139). -/
def Context.Accounted (d : Device) (l : LaneId) (c : Context) : Prop :=
  let joints := (d.slot c.slot).hdr.jointCount.toNat
  c.pointer ≤ joints ∧ d.inFlight l c.seq + c.accounted = c.pointer ∧
    (c.state = .waiting → c.reg.state = .pending) ∧
    (c.state = .waiting ∨ c.state = .scanning → c.reg.state = .pending → c.pointer = 0) ∧
    (c.state = .decided ∨ c.state = .retiring → c.accounted = joints)

/-- The panel under registration is the lane's Scanning panel, its registration Pending, and its deadline line not yet
issued (R70, R76). -/
def Lane.RegistersScanning (L : Lane) (d : Device) : Prop :=
  ∀ r : Registration, L.reg = some r →
    ∃ c ∈ L.live, c.num = r.ctx ∧ c.state = .scanning ∧ c.reg.state = .pending ∧
      c.lineOf L.motion.tagCounter ≤ (d.slot c.slot).hdr.zone.toNat + 64

/-- The accounting law of R98 with what it rests on: Sealed recipes leave the deadline before the last line (R13); a lane's
live contexts have different sequences; a lane's open list holds windows of that lane, no joint of a panel twice; every window
in flight belongs to a live context that has scheduled its joint. -/
def JointsAccounted (d : Device) : Prop :=
  (∀ i : Fin 4, (d.slot i).state = .sealed → (d.slot i).hdr.zone.toNat + 196 ≤ (d.slot i).hdr.panelLength.toNat) ∧
    (∀ l : LaneId, ((d.lane l).live.map (fun c => c.seq)).Nodup ∧ (∀ w ∈ (d.lane l).openList, w.lane = l) ∧
      ((d.lane l).openList.map Window.key).Nodup ∧ (d.lane l).RegistersScanning d ∧
      ∀ c ∈ (d.lane l).live, c.Accounted d l) ∧
    ∀ w ∈ d.windowsInFlight, ∃ c ∈ (d.lane w.lane).live, c.seq = w.seq ∧ w.joint < c.pointer

/-- The crop-slot law of R99: 48 slots; the slot of a window in flight is Capturing with an owner of the window's lane, and no
two windows hold one slot; a Capturing slot has its window, a slot without an owner is Free, and the crop queue names each
Held slot once and no other. -/
def CropsAgree (d : Device) : Prop :=
  d.crops.length = 48 ∧ d.cropQueue.Nodup ∧ (d.windowsInFlight.filterMap (fun w => w.crop)).Nodup ∧
    (∀ w ∈ d.windowsInFlight, ∀ i : Nat, w.crop = some i →
      ∃ x : CropSlot, d.crops[i]? = some x ∧ x.state = .capturing ∧ ∃ o : CropOwner, x.owner = some o ∧ o.lane = w.lane) ∧
    (∀ (i : Nat) (x : CropSlot), d.crops[i]? = some x →
      (x.state = .free ↔ x.owner = none) ∧ (x.state = .capturing → ∃ w ∈ d.windowsInFlight, w.crop = some i)) ∧
    ∀ i : Nat, i ∈ d.cropQueue ↔ ∃ x : CropSlot, d.crops[i]? = some x ∧ x.state = .held

/-- While the reset pin is low the link is Down, the sync run zero and the credit count zero (R161). -/
def HeldInReset (d : Device) : Prop :=
  d.resetLow = true → d.trunk.link = .down ∧ d.trunk.syncRun = 0 ∧ d.trunk.credit = 0

/-- The commands through which an order other than the one named may be taken, or which reset the part. -/
def carriesOrders : Instr → Bool
  | .orderFrame .. | .unknownOrder .. | .trainingWord .. | .frameBegin | .powerOn | .resetPinAssert
  | .resetPinRelease | .resetDevice .. => true
  | _ => false

/-- The pins, power and the reset pin act whatever the reset pin is. -/
def actsInReset : Instr → Bool
  | .powerOn | .resetPinAssert | .resetPinRelease | .camSdInactive .. | .camSdActive .. | .trkSdInactive
  | .trkSdActive => true
  | _ => false

end Sys2Proof.Machine
end

