-- ==== Sys2Proof/Certificates/Slice0/Obligations.lean ====
section
/-! DEFINITION. The statements for the provers. -/

open Sys2Proof Sys2Proof.Machine

/-! ## A step -/

/-- Step of a state whose queue has `c` at its front is exec of `c` on the state with the queue's rest; with no command
waiting one microsecond passes, and a part held in reset stays as it is (log 7, log 3). -/
def Obligations.StepRunsFrontCommand : Prop :=
  (∀ (c : Instr) (rest : List Instr) (d : Device),
    step { dev := d, pending := c :: rest } = exec c { dev := d, pending := rest }) ∧
  (∀ d : Device,
    step { dev := d, pending := [] } =
      .next { dev := if d.resetLow then d else d.tick.settleStall, pending := [] })

/-- Every command answers a next state and leaves the queue of waiting commands as it is; while the reset pin is low a
command that is no pin, power or reset-pin event changes nothing (log 3); and the end or expiry of what does not run, and a
take with nothing to take, change nothing (log 8). -/
def Obligations.EveryCommandAnswersNext : Prop :=
  ∀ (c : Instr) (l : LaneId) (s : State),
    (∃ d : Device, exec c s = .next { dev := d, pending := s.pending }) ∧
    (s.dev.resetLow = true → actsInReset c = false → exec c s = .next s) ∧
    (s.dev.resetLow = false →
      let L := s.dev.lane l
      ((∀ p, L.strobe.state ≠ .flash p) → exec (.flashEnd l) s = becomes s s.dev) ∧
      ((∀ p, L.strobe.state ≠ .settle p) → exec (.settleExpiry l) s = becomes s s.dev) ∧
      (L.warmupLeft = none → exec (.warmupExpiry l) s = becomes s s.dev) ∧
      (L.idleLeft = none → exec (.idleTimerExpiry l) s = becomes s s.dev) ∧
      (s.dev.trunk.stallLeft = none → exec .stallTimerExpiry s = becomes s s.dev) ∧
      (s.dev.validation = none → exec .validationComplete s = becomes s s.dev) ∧
      (s.dev.evaluation = none → exec .evaluationComplete s = becomes s s.dev) ∧
      (s.dev.evaluation ≠ none ∨ s.dev.closeQueue = [] → exec .evaluationTake s = becomes s s.dev))

/-! ## Power and reset -/

/-- RESET_N going low puts every block at its power-on values with the link Down (R161), and TRK_TX then sends nothing (section
9.9, log 12). Its release, with every camera
signal present, leaves the part as after reset, with the link Training when TRK_SD is active and Down when it is inactive
(R161, R175). POWER_ON with the reset pin high and every camera signal present does the same with the link Down, and with
the reset pin low leaves the part held at its power-on values (R161, R176; log 2). Release leaves a port without a signal
in Dark with EnteredDark and StateChange, and every port with NoiseThreshold and CheckThreshold standing (R49, R56,
R176). -/
def Obligations.PowerAndResetPin : Prop :=
  ∀ s : State,
    exec .resetPinAssert s =
      .next { dev := Device.atPowerOn true s.dev.trkSd s.dev.camSds s.dev.freeIndex, pending := s.pending } ∧
    (Device.atPowerOn true s.dev.trkSd s.dev.camSds s.dev.freeIndex).trkTx = [] ∧
    (AllCamerasOn s.dev →
      exec .resetPinRelease s =
        .next { dev := { State.reset.dev with
                           trkSd := s.dev.trkSd, freeIndex := s.dev.freeIndex,
                           trunk := { State.reset.dev.trunk with
                                        link := if s.dev.trkSd then .training else .down } },
                pending := s.pending }) ∧
    (s.dev.resetLow = false → AllCamerasOn s.dev →
      exec .powerOn s =
        .next { dev := { State.reset.dev with trkSd := s.dev.trkSd, freeIndex := s.dev.freeIndex },
                pending := s.pending }) ∧
    (s.dev.resetLow = true →
      exec .powerOn s =
        .next { dev := Device.atPowerOn true s.dev.trkSd s.dev.camSds s.dev.freeIndex, pending := s.pending }) ∧
    ∃ t : State, exec .resetPinRelease s = .next t ∧
      ∀ p : PortId,
        (t.dev.port p).stream = (if (s.dev.port p).camSd then .unknown else .dark) ∧
        (t.dev.port p).lastKnown = (if (s.dev.port p).camSd then .never else .dark) ∧
        portConds t.dev p =
          PortCond.noiseThreshold.bit ||| PortCond.checkThreshold.bit |||
            (if (s.dev.port p).camSd then 0 else PortCond.enteredDark.bit ||| PortCond.stateChange.bit)

/-- The state after reset: the link, the queues, the slots, the crop store, the lanes with the settings of Figure 2-3, report
mode All and detail Brief, the gate unit with its fault response table and counts, the ports, the seven condition sets with
their masks and snapshots, and the output pins (R1, R28, R40, R45, R46, R49, R56, R61 to R63, R69, R83, R88, R93, R97, R99,
R106, R118, R126, R148, R153, R161, R166, R168, R171, R175, R176, Figure 2-3, Figure 8-1; the ports in Unknown and the link in
Down by the input levels of log 1, CAM_TRIG by log 20). -/
def Obligations.ResetValues : Prop :=
  let d := State.reset.dev
  let settings : LaneSettings :=
    { leadIn := 0, edgeGuard := 0, reverseLimit := 64, gateDistance := 1, warmupTime := 0, idleTimeout := 0,
      settleReload := 1 }
  State.reset.pending = [] ∧ d.trunk.link = .down ∧ d.trunk.syncRun = 0 ∧ d.trunk.credit = 0 ∧ d.trunk.inbound = [] ∧
    d.trunk.replies = [] ∧ d.trunk.panelReports = [] ∧ d.trunk.verdicts = [] ∧ d.trunk.stallLimit = 500 ∧
    d.trunk.stallLeft = some 500000 ∧ d.cond.noticeQueue = [.device] ∧ d.cond.device.raised = DeviceCond.resetDone.bit ∧
    d.cond.device.mask = DeviceCond.resetDone.bit ∧ d.cropQueue = [] ∧ d.closeQueue = [] ∧ d.evaluation = none ∧
    d.retireOrder = [] ∧ d.crops.length = 48 ∧ (∀ c ∈ d.crops, c.state = .free) ∧
    (∀ i : Fin 4, d.slot i = Slot.empty) ∧
    (∀ l : LaneId, (d.lane l).mode = .off ∧ (d.lane l).motion = Motion.zero ∧ (d.lane l).live = [] ∧
      (d.lane l).nextSeq = 0 ∧ (d.lane l).gate.divert = .review ∧ (d.lane l).gate.mode = .follow ∧
      (d.lane l).gate.queue = []) ∧
    (∀ p : PortId, (d.port p).stream = .unknown ∧ (d.port p).outstanding = [] ∧ (d.port p).fifo = [] ∧
      (d.port p).noiseMonitor = 0 ∧ (d.port p).checkMonitor = 0 ∧
      portConds d p = PortCond.noiseThreshold.bit ||| PortCond.checkThreshold.bit) ∧
    d.trunk.frame = none ∧ d.trkTx = [.sync] ∧ d.validation = none ∧ d.waiting = [] ∧
    (∀ c ∈ d.crops, c.owner = none ∧ ∀ a : Nat, c.planes.read a = 0) ∧
    (∀ l : LaneId, (d.lane l).settings = settings ∧
      (d.lane l).reportMode = .all ∧ (d.lane l).reportDetail = .brief ∧ (d.lane l).strobe.state = .idle ∧
      (d.lane l).light = .off ∧ (d.lane l).warmupLeft = none ∧ (d.lane l).idleLeft = none ∧ (d.lane l).reg = none ∧
      (d.lane l).openList = [] ∧ (d.lane l).resolved = { p0 := none, p1 := none } ∧ (d.lane l).lastServed = .p1 ∧
      (d.lane l).active = none ∧ (d.lane l).pendingRecipe = none ∧ (d.lane l).gate.forced = .none ∧
      (d.lane l).gate.hold = false ∧
      (∀ k : FaultKind, (d.lane l).gate.seen.get k = false ∧ (d.lane l).gate.counts.get k = 0 ∧
        (d.lane l).gate.table.get k = { override := .none, hold := false }) ∧
      (∀ p : Phase, (d.lane l).strobeOn p = false) ∧ (d.lane l).lightOn = false ∧ (d.lane l).gate.divert0 = false ∧
      (d.lane l).gate.divert1 = false ∧ (d.lane l).gate.holdOn = false) ∧
    (∀ p : PortId, (d.port p).lastKnown = .never ∧ (d.port p).fillRun = 0 ∧ (d.port p).noiseCount = 0 ∧
      (d.port p).assembly = none ∧ (d.port p).noiseThreshold = 0 ∧ (d.port p).checkThreshold = 0 ∧
      (d.port p).held = [] ∧ (d.port p).mode = .off ∧ (d.port p).n = 0 ∧ (d.port p).target = .absent ∧
      (d.port p).camTrig = none ∧ ∀ a : Nat, (d.port p).pattern.read a = 0) ∧
    (∀ i : SetId, (d.cond.get i).snapshot = none ∧ (i ≠ .device → (d.cond.get i).mask = 0) ∧
      ((d.cond.get i).noticePending = true ↔ i = .device)) ∧
    (∀ l : LaneId, (d.cond.get (.lane l)).raised = 0)

/-- Reset Device taken with every camera signal present: the part is as after reset, but the link state, the sync run, the
credit count, the frame in transmission and the inbound frame being assembled stand; its Done reply is the one reply
(R174). -/
def Obligations.ResetDeviceTaken : Prop :=
  ∀ (tag : Byte) (s : State), Taken s → AllCamerasOn s.dev →
    exec (.resetDevice tag) s =
      becomes s { State.reset.dev with
        trkSd := s.dev.trkSd, freeIndex := s.dev.freeIndex,
        trunk := { Trunk.atPowerOn with
          link := s.dev.trunk.link, syncRun := s.dev.trunk.syncRun, credit := s.dev.trunk.credit,
          frame := s.dev.trunk.frame, rx := s.dev.trunk.rx,
          replies := [{ tag := tag, code := 0x71, outcome := .done, body := [] }] } }

/-! ## Recipe store -/

/-- Open Slot of an Empty slot, Unseal Slot of a Sealed one, Erase Slot of one that is not being validated, each
unreferenced: the slot's new state, a Done reply, and nothing else (R7, R20, R21). Seal Slot of an unreferenced Loading
slot with no validation in progress: Validating, slot and tag recorded, no reply; with one in progress it is refused
with RefusedBusy (R11). Erase Slot of a referenced slot is refused with RefusedReferenced (R2). -/
def Obligations.SlotStateOrdersTaken : Prop :=
  ∀ (tag : Byte) (i : Fin 4) (s : State), Taken s →
    (s.dev.referenced i = true →
      exec (.eraseSlot tag (slotByte i)) s = answers s s.dev tag 0x17 .refusedReferenced []) ∧
    (s.dev.referenced i = false → (s.dev.slot i).state = .loading → s.dev.validation ≠ none →
      exec (.sealSlot tag (slotByte i)) s = answers s s.dev tag 0x15 .refusedBusy []) ∧
    (s.dev.referenced i = false →
    ((s.dev.slot i).state = .empty →
      exec (.openSlot tag (slotByte i)) s =
        answers s (withSlot s.dev i { Slot.empty with state := .loading }) tag 0x10 .done []) ∧
    ((s.dev.slot i).state = .sealed →
      exec (.unsealSlot tag (slotByte i)) s =
        answers s (withSlot s.dev i { s.dev.slots.get i with state := .loading }) tag 0x16 .done []) ∧
    ((∀ v, s.dev.validation = some v → v.slot ≠ i) →
      exec (.eraseSlot tag (slotByte i)) s =
        answers s (withSlot s.dev i Slot.empty) tag 0x17 .done []) ∧
    ((s.dev.slot i).state = .loading → s.dev.validation = none →
      exec (.sealSlot tag (slotByte i)) s =
        becomes s { withSlot s.dev i { s.dev.slots.get i with state := .validating } with
          validation := some { slot := i, tag := tag } }))

/-- The four write orders on an unreferenced Loading slot within the ranges of Table 1-4: the entries stored, a Done reply,
and nothing else (R8 to R10). -/
def Obligations.SlotWritesTaken : Prop :=
  ∀ (tag : Byte) (i : Fin 4) (s : State), Taken s → s.dev.referenced i = false → (s.dev.slot i).state = .loading →
    let x := s.dev.slots.get i
    (∀ h : Header, exec (.writeHeader tag (slotByte i) h) s =
      answers s (withSlot s.dev i { x with header := some h }) tag 0x11 .done []) ∧
    (∀ (start count : Byte) (es : List FiducialEntry), entriesInRange start.toNat count.toNat es.length 4 4 = true →
      exec (.writeFiducials tag (slotByte i) start count es) s =
        answers s (withSlot s.dev i { x with fiducials := Table.putList x.fiducials start.toNat es }) tag 0x12 .done []) ∧
    (∀ (start : Word16) (count : Byte) (es : List JointEntry),
      entriesInRange start.toNat count.toNat es.length 8192 32 = true →
      exec (.writeJoints tag (slotByte i) start count es) s =
        answers s (withSlot s.dev i { x with joints := Table.putList x.joints start.toNat es }) tag 0x13 .done []) ∧
    (∀ (start count : Byte) (es : List RuleEntry), entriesInRange start.toNat count.toNat es.length 64 8 = true →
      exec (.writeRules tag (slotByte i) start count es) s =
        answers s (withSlot s.dev i { x with rules := Table.putList x.rules start.toNat es }) tag 0x14 .done [])

/-- Entries of any recipe table written from an index on are found at their indexes, and every other entry is as before
(R8, R10). Pixels written from an address on are read back at their addresses, and every other pixel reads as before (R64,
R101). -/
def Obligations.WritesAreReadBack : Prop :=
  (∀ (α : Type) (t : Table α) (start i : Nat) (es : List α), Table.wfFrom 0 t = true →
    Table.find (Table.putList t start es) i =
      (if start ≤ i ∧ i < start + es.length then es[i - start]? else Table.find t i)) ∧
  (∀ (m : Memory) (start a : Nat) (px : List Byte), m.wf = true →
    (m.writeList start px).read a =
      (if start ≤ a then (px[a - start]?).getD (m.read a) else m.read a))

/-- The end of a validation: Sealed with a Done reply, or Loading with the failure recorded and an Invalid reply that
carries it; the reply carries the Seal's tag and the validation is over (R17). Erase Slot of the slot being validated: the
Aborted reply with the Seal's tag, then its own Done reply, the slot Empty and no validation in progress (R18). -/
def Obligations.ValidationEnds : Prop :=
  ∀ (tag : Byte) (v : Validation) (s : State), s.dev.resetLow = false → s.dev.validation = some v →
    let x := s.dev.slots.get v.slot
    let d := { s.dev with validation := none }
    (validate x = none →
      exec .validationComplete s =
        answers s (withSlot d v.slot { x with state := .sealed, lastFailure := none }) v.tag 0x15 .done []) ∧
    (∀ f : Failure, validate x = some f →
      exec .validationComplete s =
        answers s (withSlot d v.slot { x with state := .loading, lastFailure := some f }) v.tag 0x15 .invalid
          (failureBytes f)) ∧
    (Taken s → s.dev.referenced v.slot = false →
      exec (.eraseSlot tag (slotByte v.slot)) s =
        answers s ((withSlot d v.slot Slot.empty).reply v.tag 0x15 .aborted []) tag 0x17 .done [])

/-- An order that would change a slot, refused: RefusedRange for a slot above 3 or entries out of range, RefusedBusy for a
Validating slot, RefusedReferenced for a referenced one, RefusedState for one in another state; nothing but the reply
(R2). -/
def Obligations.SlotChangesRefused : Prop :=
  ∀ (c : Instr) (tag code slot : Byte) (st : SlotState) (ok : Bool) (s : State), Taken s →
    slotChange c = some (tag, code, slot, st, ok) →
    (3 < slot.toNat ∨ ok = false → exec c s = answers s s.dev tag code .refusedRange []) ∧
    (∀ i : Fin 4, slot = slotByte i → ok = true →
      ((s.dev.slot i).state = .validating → exec c s = answers s s.dev tag code .refusedBusy []) ∧
      ((s.dev.slot i).state ≠ .validating → s.dev.referenced i = true →
        exec c s = answers s s.dev tag code .refusedReferenced []) ∧
      ((s.dev.slot i).state ≠ .validating → s.dev.referenced i = false → (s.dev.slot i).state ≠ st →
        exec c s = answers s s.dev tag code .refusedState []))

/-- An order one of whose operands names no slot, lane, port, context, mode, kind, override or mark, or lies outside its
range, is refused with RefusedRange, and nothing but the reply changes (R186; R23, R25, R46, R57, R64, R65, R105, R118,
R154, R155; a hold byte other than 0 and 1 by log 28). -/
def Obligations.OutOfRangeRefused : Prop :=
  ∀ (c : Instr) (tag code : Byte) (s : State), Taken s → badOperand c = some (tag, code) →
    exec c s = answers s s.dev tag code .refusedRange []

/-- Read Slot in every state, and the entry reads of a slot that is not Empty within their ranges: a Done reply with the
record, and nothing else; of an Empty slot they are refused with RefusedState (R22, R23). The slot record holds the fields of
R22 in their order, counts in 2 bytes, zero for an unwritten header and for the detail of a slot without a failure; an entry
read returns the count and, for each index, the written mark and the entry as Table 11-7 lays it out, zero for one never
written (R187, R190; details of the records' layout by logs 18 and 36). The failure detail shows table, index, the row of the
check in its table and the phase, 0 when absent (R186; that the record takes this form, without a presence byte, is log 36).
-/
def Obligations.SlotReadsAnswered : Prop :=
  ∀ (tag : Byte) (i : Fin 4) (s : State), Taken s →
    let x := s.dev.slots.get i
    exec (.readSlot tag (slotByte i)) s = answers s s.dev tag 0x18 .done (slotRecord s.dev i) ∧
    (x.state = .empty →
      (∀ start count : Byte, entriesInRange start.toNat count.toNat count.toNat 4 4 = true →
        exec (.readFiducials tag (slotByte i) start count) s = answers s s.dev tag 0x19 .refusedState []) ∧
      (∀ (start : Word16) (count : Byte), entriesInRange start.toNat count.toNat count.toNat 8192 32 = true →
        exec (.readJoints tag (slotByte i) start count) s = answers s s.dev tag 0x1A .refusedState []) ∧
      (∀ start count : Byte, entriesInRange start.toNat count.toNat count.toNat 64 8 = true →
        exec (.readRules tag (slotByte i) start count) s = answers s s.dev tag 0x1B .refusedState [])) ∧
    (x.state ≠ .empty →
      (∀ start count : Byte, entriesInRange start.toNat count.toNat count.toNat 4 4 = true →
        exec (.readFiducials tag (slotByte i) start count) s = answers s s.dev tag 0x19 .done
          (entriesRecord x.fiducials zeroFiducialEntry fiducialBytes start.toNat count.toNat)) ∧
      (∀ (start : Word16) (count : Byte), entriesInRange start.toNat count.toNat count.toNat 8192 32 = true →
        exec (.readJoints tag (slotByte i) start count) s = answers s s.dev tag 0x1A .done
          (entriesRecord x.joints zeroJointEntry jointBytes start.toNat count.toNat)) ∧
      (∀ start count : Byte, entriesInRange start.toNat count.toNat count.toNat 64 8 = true →
        exec (.readRules tag (slotByte i) start count) s = answers s s.dev tag 0x1B .done
          (entriesRecord x.rules zeroRuleEntry ruleBytes start.toNat count.toNat))) ∧
    (let d := s.dev
     let one (b : Bool) : Byte := if b then 1 else 0
     let h := x.header.getD zeroHeader
     let uses (l : LaneId) : Nat := ((d.lane l).live.filter (fun c => decide (c.slot = i))).length
     slotRecord d i =
       [slotByte i, BitVec.ofNat 8 (slotStateCode x.state), one x.header.isSome] ++
         (be 4 h.recipeId.toNat ++ be 2 h.panelLength.toNat ++ be 2 h.zone.toNat ++
           [h.linePitch, h.phaseSet, h.flashTop, h.flashRing, h.flashAxial, h.portSet] ++ be 2 h.jointCount.toNat ++
           be 2 h.fiducialCount.toNat ++ be 2 h.ruleCount.toNat ++ [h.marginalLimit, h.spreadTolerance]) ++
         [one (Table.find x.fiducials 0).isSome, one (Table.find x.fiducials 1).isSome,
          one (Table.find x.fiducials 2).isSome, one (Table.find x.fiducials 3).isSome] ++
         be 2 x.rules.length ++ be 2 x.joints.length ++
         [one (decide ((d.lane .a).active = some i)), one (decide ((d.lane .a).pendingRecipe = some i)),
          one (decide ((d.lane .b).active = some i)), one (decide ((d.lane .b).pendingRecipe = some i))] ++
         be 2 (uses .a) ++ be 2 (uses .b) ++
         (match x.lastFailure with
          | none => [0, 0, 0, 0, 0, 0]
          | some f => 1 :: failureBytes f)) ∧
    (∀ f : Failure, failureBytes f = [BitVec.ofNat 8 (failTableCode f.table)] ++ be 2 f.index ++
      [BitVec.ofNat 8 (checkCode f.table f.check),
       match f.phase with
       | none => 0
       | some p => p.code]) ∧
    (∀ start count : Nat,
      entriesRecord x.fiducials zeroFiducialEntry fiducialBytes start count =
        be 2 count ++ (List.range count).flatMap (fun k =>
          match Table.find x.fiducials (start + k) with
          | none => List.replicate 15 0
          | some e => [1, e.port, e.phase] ++ be 2 e.column.toNat ++ be 2 e.line.toNat ++
              [e.width, e.height, e.bandLow, e.bandHigh] ++ be 2 e.areaMin.toNat ++ be 2 e.areaMax.toNat) ∧
      entriesRecord x.joints zeroJointEntry jointBytes start count =
        be 2 count ++ (List.range count).flatMap (fun k =>
          match Table.find x.joints (start + k) with
          | none => List.replicate 13 0
          | some e => [1] ++ be 2 e.component.toNat ++ [e.port] ++ be 2 e.x.toNat ++ be 2 e.y.toNat ++
              [e.width, e.height, e.rule, e.phases, e.crop]) ∧
      entriesRecord x.rules zeroRuleEntry ruleBytes start count =
        be 2 count ++ (List.range count).flatMap (fun k =>
          match Table.find x.rules (start + k) with
          | none => List.replicate 28 0
          | some r => [1, r.fillMargin, r.spanMargin, r.meanMargin] ++ [Phase.top, .ring, .axial].flatMap (fun p =>
              let c := ruleCriteria r p
              [c.used, c.bandLow, c.bandHigh, c.fillMin, c.fillMax, c.spanLimit, c.meanLow, c.meanHigh])))

/-- Validation walks the checks of Tables 1-5 to 1-8 in order, the header's, then each fiducial's, each rule's and each
joint's below their counts, and reports the first that fails with its table, index, name and phase; where none fails the
recipe passes (R12 to R17). A recipe that it passes has a written header with every field of Table 1-2 in its range (R13),
every fiducial below the fiducial count written and within the checks of Table 1-6 (R14), every rule below the rule count
written and within the checks of Table 1-7 (R15), and every joint below the joint count written and within the checks of
Table 1-8 (R16). -/
def Obligations.ValidatedRecipeInRange : Prop :=
  (∀ x : Slot,
    let h := x.hdr
    let onPort (b : Byte) : Bool := (b = 0 && portIn h.portSet .p0) || (b = 1 && portIn h.portSet .p1)
    let inSet (p : Phase) : Bool := phaseIn h.phaseSet p
    let row (t : FailTable) (i : Nat) (c : Check) (p : Option Phase) (fails : Bool) : Failure × Bool :=
      ({ table := t, index := i, check := c, phase := p }, fails)
    let headerChecks : List (Failure × Bool) :=
      let row (c : Check) (p : Option Phase) (fails : Bool) := row .header 0 c p fails
      [row .unwritten none (decide (x.header = none)),
       row .panelLength none (decide (h.panelLength.toNat < 256)),
       row .zoneSize none (decide (¬ (64 ≤ h.zone.toNat ∧ h.zone.toNat ≤ 4095))),
       row .zoneFit none (decide (h.panelLength.toNat < h.zone.toNat + 196)),
       row .linePitch none (decide (h.linePitch = 0)),
       row .phaseSet none (decide (¬ (1 ≤ h.phaseSet.toNat ∧ h.phaseSet.toNat ≤ 7)))] ++
      (([Phase.top, .ring, .axial].filter inSet).map fun p =>
        row .flashTime (some p) (decide ((flashTimes h).get p = 0))) ++
      [row .portSet none (decide (¬ (1 ≤ h.portSet.toNat ∧ h.portSet.toNat ≤ 3))),
       row .jointCount none (decide (¬ (1 ≤ h.jointCount.toNat ∧ h.jointCount.toNat ≤ 8192))),
       row .fiducialCount none (decide (¬ (2 ≤ h.fiducialCount.toNat ∧ h.fiducialCount.toNat ≤ 4))),
       row .ruleCount none (decide (¬ (1 ≤ h.ruleCount.toNat ∧ h.ruleCount.toNat ≤ 64))),
       row .spreadTolerance none (decide (15 < h.spreadTolerance.toNat))]
    let fiducialChecks (i : Nat) : List (Failure × Bool) :=
      let row (c : Check) (p : Option Phase) (fails : Bool) := row .fiducial i c p fails
      let e := x.fiducial i
      let col : Int := (e.column.toNat : Int) - (e.width.toNat / 2 : Nat)
      let line : Int := (e.line.toNat : Int) - (e.height.toNat / 2 : Nat)
      [row .unwritten none (decide (Table.find x.fiducials i = none)),
       row .port none (!onPort e.port),
       row .phase (phaseOfCode e.phase) ((phaseOfCode e.phase).all (fun p => !inSet p)),
       row .boxSize none (decide (¬ (16 ≤ e.width.toNat ∧ e.width.toNat ≤ 128 ∧ 16 ≤ e.height.toNat ∧
         e.height.toNat ≤ 128))),
       row .boxPlace none (decide (¬ (0 ≤ col ∧ col + e.width.toNat ≤ 2048 ∧ 0 ≤ line ∧
         line + e.height.toNat ≤ h.zone.toNat))),
       row .band none (decide (e.bandHigh.toNat < e.bandLow.toNat)),
       row .area none (decide (¬ (1 ≤ e.areaMin.toNat ∧ e.areaMin.toNat ≤ e.areaMax.toNat ∧ e.areaMax.toNat ≤ 16384)))]
    let ruleChecks (i : Nat) : List (Failure × Bool) :=
      let row (c : Check) (p : Option Phase) (fails : Bool) := row .rule i c p fails
      let r := x.rule i
      [row .unwritten none (decide (Table.find x.rules i = none)),
       row .usedMark none (decide (1 < r.top.used.toNat ∨ 1 < r.ring.used.toNat ∨ 1 < r.axial.used.toNat)),
       row .noPhase none (decide (r.top.used = 0 ∧ r.ring.used = 0 ∧ r.axial.used = 0)),
       row .margins none (decide (20 < r.fillMargin.toNat ∨ 16 < r.spanMargin.toNat ∨ 32 < r.meanMargin.toNat))] ++
      (([Phase.top, .ring, .axial].filter (fun p => decide ((ruleCriteria r p).used ≠ 0))).flatMap fun p =>
        let c := ruleCriteria r p
        [row .band (some p) (decide (c.bandHigh.toNat < c.bandLow.toNat)),
         row .fill (some p) (decide (¬ (c.fillMin.toNat ≤ c.fillMax.toNat ∧ c.fillMax.toNat ≤ 100))),
         row .span (some p) (decide (64 < c.spanLimit.toNat)),
         row .mean (some p) (decide (c.meanHigh.toNat < c.meanLow.toNat))])
    let jointChecks (i : Nat) : List (Failure × Bool) :=
      let row (c : Check) (p : Option Phase) (fails : Bool) := row .joint i c p fails
      let e := x.joint i
      let unneeded : List Phase := [Phase.top, .ring, .axial].filter (fun p =>
        decide ((ruleCriteria (x.rule e.rule.toNat) p).used ≠ 0) && !phaseIn e.phases p)
      [row .unwritten none (decide (Table.find x.joints i = none)),
       row .component none (decide (2047 < e.component.toNat)),
       row .port none (!onPort e.port),
       row .size none (decide (¬ (4 ≤ e.width.toNat ∧ e.width.toNat ≤ 64 ∧ 4 ≤ e.height.toNat ∧ e.height.toNat ≤ 64))),
       row .columns none (decide (¬ (64 ≤ e.x.toNat ∧ e.x.toNat + e.width.toNat ≤ 1984))),
       row .lines none (decide (¬ (h.zone.toNat + 128 ≤ e.y.toNat ∧
         e.y.toNat + e.height.toNat + 64 ≤ h.panelLength.toNat))),
       row .order none (decide (i ≠ 0 ∧ e.y.toNat < (x.joint (i - 1)).y.toNat)),
       row .ruleIndex none (decide (h.ruleCount.toNat ≤ e.rule.toNat)),
       row .phases none (decide (e.phases = 0 ∨ e.phases &&& ~~~h.phaseSet ≠ 0)),
       row .ruleAgreement unneeded.head? (decide (unneeded ≠ [])),
       row .crop none (decide (1 < e.crop.toNat))]
    let checks : List (Failure × Bool) :=
      headerChecks ++ (List.range h.fiducialCount.toNat).flatMap fiducialChecks ++
        (List.range h.ruleCount.toNat).flatMap ruleChecks ++ (List.range h.jointCount.toNat).flatMap jointChecks
    validate x = (checks.find? (fun c => c.2)).map (fun c => c.1)) ∧
  (∀ x : Slot, validate x = none → ∃ h : Header, x.header = some h ∧
    256 ≤ h.panelLength.toNat ∧ 64 ≤ h.zone.toNat ∧ h.zone.toNat ≤ 4095 ∧ h.zone.toNat + 196 ≤ h.panelLength.toNat ∧
    1 ≤ h.linePitch.toNat ∧ 1 ≤ h.phaseSet.toNat ∧ h.phaseSet.toNat ≤ 7 ∧
    (∀ p : Phase, phaseIn h.phaseSet p = true → 1 ≤ ((flashTimes h).get p).toNat) ∧
    1 ≤ h.portSet.toNat ∧ h.portSet.toNat ≤ 3 ∧ 1 ≤ h.jointCount.toNat ∧ h.jointCount.toNat ≤ 8192 ∧
    2 ≤ h.fiducialCount.toNat ∧ h.fiducialCount.toNat ≤ 4 ∧ 1 ≤ h.ruleCount.toNat ∧ h.ruleCount.toNat ≤ 64 ∧
    h.spreadTolerance.toNat ≤ 15) ∧
  (∀ (x : Slot) (i : Nat), validate x = none → i < x.hdr.jointCount.toNat →
    ∃ e : JointEntry, Table.find x.joints i = some e ∧
      e.component.toNat ≤ 2047 ∧ (∃ p, localPortOf e.port = some p ∧ portIn x.hdr.portSet p = true) ∧
      4 ≤ e.width.toNat ∧ e.width.toNat ≤ 64 ∧ 4 ≤ e.height.toNat ∧ e.height.toNat ≤ 64 ∧
      64 ≤ e.x.toNat ∧ e.x.toNat + e.width.toNat ≤ 1984 ∧ x.hdr.zone.toNat + 128 ≤ e.y.toNat ∧
      e.y.toNat + e.height.toNat + 64 ≤ x.hdr.panelLength.toNat ∧
      (∀ j, i = j + 1 → (x.joint j).y.toNat ≤ e.y.toNat) ∧ e.rule.toNat < x.hdr.ruleCount.toNat ∧ e.phases ≠ 0 ∧
      e.phases &&& ~~~x.hdr.phaseSet = 0 ∧
      (∀ p : Phase, p ∈ usedPhases (x.rule e.rule.toNat) → phaseIn e.phases p = true) ∧ e.crop.toNat ≤ 1) ∧
  (∀ (x : Slot) (i : Nat), validate x = none → i < x.hdr.fiducialCount.toNat →
    ∃ e : FiducialEntry, Table.find x.fiducials i = some e ∧
      (∃ p, localPortOf e.port = some p ∧ portIn x.hdr.portSet p = true) ∧
      (∃ p, phaseOfCode e.phase = some p ∧ phaseIn x.hdr.phaseSet p = true) ∧
      16 ≤ e.width.toNat ∧ e.width.toNat ≤ 128 ∧ 16 ≤ e.height.toNat ∧ e.height.toNat ≤ 128 ∧
      e.width.toNat / 2 ≤ e.column.toNat ∧ e.column.toNat - e.width.toNat / 2 + e.width.toNat ≤ 2048 ∧
      e.height.toNat / 2 ≤ e.line.toNat ∧ e.line.toNat - e.height.toNat / 2 + e.height.toNat ≤ x.hdr.zone.toNat ∧
      e.bandLow.toNat ≤ e.bandHigh.toNat ∧ 1 ≤ e.areaMin.toNat ∧ e.areaMin.toNat ≤ e.areaMax.toNat ∧
      e.areaMax.toNat ≤ 16384) ∧
  (∀ (x : Slot) (i : Nat), validate x = none → i < x.hdr.ruleCount.toNat →
    ∃ r : RuleEntry, Table.find x.rules i = some r ∧
      r.fillMargin.toNat ≤ 20 ∧ r.spanMargin.toNat ≤ 16 ∧ r.meanMargin.toNat ≤ 32 ∧
      (∃ p : Phase, (ruleCriteria r p).used = 1) ∧
      ∀ p : Phase, (ruleCriteria r p).used = 0 ∨ (ruleCriteria r p).used = 1 ∧
        (ruleCriteria r p).bandLow.toNat ≤ (ruleCriteria r p).bandHigh.toNat ∧
        (ruleCriteria r p).fillMin.toNat ≤ (ruleCriteria r p).fillMax.toNat ∧ (ruleCriteria r p).fillMax.toNat ≤ 100 ∧
        (ruleCriteria r p).spanLimit.toNat ≤ 64 ∧ (ruleCriteria r p).meanLow.toNat ≤ (ruleCriteria r p).meanHigh.toNat)

/-- Bind Recipe of a Sealed slot: taken at once by a lane that is Off, or Standby with no live context, otherwise pending;
with FFH no recipe is pending and the active one stays; a Validating slot is refused with
RefusedBusy, an Empty or Loading one with RefusedState (R25, R26). -/
def Obligations.BindRecipeTaken : Prop :=
  ∀ (tag : Byte) (l : LaneId) (i : Fin 4) (s : State), Taken s →
    let L := s.dev.lane l
    ((s.dev.slot i).state = .sealed → (L.mode = .off ∨ (L.mode = .standby ∧ L.live = [])) →
      exec (.bindRecipe tag (laneByte l) (slotByte i)) s =
        answers s (withLane s.dev l { L with active := some i, pendingRecipe := none }) tag 0x1C .done []) ∧
    ((s.dev.slot i).state = .sealed → ¬ (L.mode = .off ∨ (L.mode = .standby ∧ L.live = [])) →
      exec (.bindRecipe tag (laneByte l) (slotByte i)) s =
        answers s (withLane s.dev l { L with pendingRecipe := some i }) tag 0x1C .done []) ∧
    exec (.bindRecipe tag (laneByte l) 0xFF) s =
      answers s (withLane s.dev l { L with pendingRecipe := none }) tag 0x1C .done [] ∧
    ((s.dev.slot i).state = .validating →
      exec (.bindRecipe tag (laneByte l) (slotByte i)) s = answers s s.dev tag 0x1C .refusedBusy []) ∧
    ((s.dev.slot i).state = .empty ∨ (s.dev.slot i).state = .loading →
      exec (.bindRecipe tag (laneByte l) (slotByte i)) s = answers s s.dev tag 0x1C .refusedState [])

/-- Every step keeps this: a slot that is the active or pending recipe of a lane, or the recipe of a live context, is
Sealed, and the slot of the validation in progress is Validating (R24). -/
def Obligations.ReferencedSlotsStaySealed : Prop := KeptByStep ReferencedSealed

/-! ## Conveyor motion, line timing, lane timers -/

/-- The counts. On a lane that is Off no count and no edge changes anything. A forward count with D above zero lowers D;
with D zero and no watched position due at the risen H it raises H; with D zero, whatever else it brings, it raises H by
one, leaves D zero and leaves the other lane's motion unit alone. A reverse count does nothing at D 65,535, and raises D
while no panel is Scanning or D stays within the reverse limit. But for the third case each changes nothing else (R29 to
R32). A forward count whose risen H reaches the
oldest gate entry's position, with no line issue and no scan start due, makes gate arrivals, oldest first, until the oldest
entry left is not reached (R30, R150; `gateArrival` is GateArrivalSetsCode's); with no gate arrival due the line issue comes
first and then the scan starts, oldest Waiting context first, while its position is reached (R34; `issueLine` and `scanStart`
are LineIssueConsumesTag's); with a gate arrival due beside one of them it comes before, between or after them, by a free value
(log 10). -/
def Obligations.CountsMove : Prop :=
  (∀ (l m : LaneId) (s : State), s.dev.resetLow = false → m ≠ l →
    let L := s.dev.lane l
    let up : Lane := { L with motion := { L.motion with h := L.motion.h + 1 } }
    (L.mode = .off →
      exec (.encoderForwardCount l) s = becomes s s.dev ∧ exec (.encoderReverseCount l) s = becomes s s.dev ∧
        exec (.edgeRise l) s = becomes s s.dev) ∧
    (L.mode ≠ .off → L.motion.d ≠ 0 →
      exec (.encoderForwardCount l) s =
        becomes s (withLane s.dev l { L with motion := { L.motion with d := L.motion.d - 1 } })) ∧
    (L.mode ≠ .off → L.motion.d = 0 → up.lineDue = false → up.scanDue = false → up.gateDue = false →
      exec (.encoderForwardCount l) s = becomes s (withLane s.dev l up)) ∧
    (L.mode ≠ .off → L.motion.d = 0 →
      ∃ t : State, exec (.encoderForwardCount l) s = .next t ∧
        (t.dev.lane l).motion.h = L.motion.h + 1 ∧ (t.dev.lane l).motion.d = 0 ∧
        (t.dev.lane m).motion = (s.dev.lane m).motion) ∧
    (L.mode ≠ .off → L.motion.d = 0xFFFF → exec (.encoderReverseCount l) s = becomes s s.dev) ∧
    (L.mode ≠ .off → L.motion.d ≠ 0xFFFF →
      (L.scanningCtx = none ∨ L.motion.d.toNat + 1 ≤ L.settings.reverseLimit.toNat) →
      exec (.encoderReverseCount l) s =
        becomes s (withLane s.dev l { L with motion := { L.motion with d := L.motion.d + 1 } }))) ∧
  (∀ (l : LaneId) (s : State), s.dev.resetLow = false → (s.dev.lane l).mode ≠ .off →
    let L := s.dev.lane l
    let up : Lane := { L with motion := { L.motion with h := L.motion.h + 1 } }
    let d := withLane s.dev l up
    let counted : Device := { d with freeIndex := s.dev.freeIndex + 1 }
    let gates (d : Device) : Device := Device.gateArrivals l (d.lane l).gate.queue.length d
    let scans (d : Device) : Device := Device.scanStarts l (d.lane l).live.length d
    let line (d : Device) : Device := d.issueDue l
    L.motion.d = 0 →
    (up.lineDue = false → up.scanDue = false → exec (.encoderForwardCount l) s = becomes s (gates d)) ∧
    (up.gateDue = false → exec (.encoderForwardCount l) s = becomes s (scans (line d))) ∧
    (up.gateDue = true → up.lineDue = true ∨ up.scanDue = true →
      exec (.encoderForwardCount l) s = becomes s (scans (line (gates counted))) ∨
      exec (.encoderForwardCount l) s = becomes s (scans (gates (line counted))) ∨
      exec (.encoderForwardCount l) s = becomes s (gates (scans (line counted))))) ∧
  (∀ (d : Device) (l : LaneId) (n : Nat),
    let L := d.lane l
    (L.gateDue = true ↔ ∃ (e : GateEntry) (rest : List GateEntry), L.gate.queue = e :: rest ∧
      (L.motion.h - e.pos).toNat < 2 ^ 31) ∧
    (L.gateDue = true → Device.gateArrivals l (n + 1) d = Device.gateArrivals l n (d.gateArrival l)) ∧
    (L.gateDue = false → Device.gateArrivals l n d = d) ∧
    (∀ (c : Context) (pos : Word32), L.motion.nextLine = some pos → L.scanningCtx = some c →
      (L.motion.h - pos).toNat < 2 ^ 31 → d.issueDue l = d.issueLine l c pos) ∧
    (L.lineDue = false → d.issueDue l = d) ∧
    (∀ c : Context, L.oldestWaiting = some c → (L.motion.h - c.scanStart).toNat < 2 ^ 31 →
      Device.scanStarts l (n + 1) d = Device.scanStarts l n (d.scanStart l c)) ∧
    (L.scanDue = false → Device.scanStarts l n d = d))

/-- Line issues and scan starts. A line issue (H reaching the next-line position of a Scanning panel, with no scan start and no
gate arrival due) consumes one tag, and moves the next-line position on by the pitch, or makes it absent at the panel's last
line (R36, R37; the lane's live contexts have different numbers, which LanesStayOrdered keeps). A forward count that brings H
to the scan start position of the one Waiting context, with no line issue and no gate arrival due, hands that context's scan
start to lane control (R30, R34). A scan start on a lane in Ready makes context and lane Scanning, records the tag counter as
first tag, stops the idle timer, puts the registration unit on the panel with one fresh accumulator a fiducial, and issues
line 0 at the scan start position, which on an Idle sequencer starts the line's sequence (R35, R41, R70, R135; said of a panel
of more than one line whose registration is Pending). A line issued reaches, in this order, the deadline check, which at line
Z + 64 fails a registration still running as Late, the window scheduler and the strobe sequencer; after the last line the
context is Settling, or Passed when it is past the gate, the lane is Ready with its idle timer loaded where no context Waits,
and the context is decided if fully accounted for (R36 to R38, R85, R129, R130, R138). With no gate arrival due the line issue
comes before the scan starts (R34). On a lane in Warming it is aborted with cause Warmup and raises the
fault WarmupLate, on a lane in Scanning with cause Overlap and raises Overlap: every joint is counted Unjudged with that
cause, none is left to schedule, the context is Settling, or Passed when it is past the gate, and is then decided (R136, R137;
`tryDecide` is DecisionOfCounts's). -/
def Obligations.LineIssueConsumesTag : Prop :=
  (∀ (l : LaneId) (s : State) (c : Context) (pos : Word32), s.dev.resetLow = false → (s.dev.lane l).mode ≠ .off →
    let L := s.dev.lane l
    (L.live.map (fun c => c.num)).Nodup →
    let up : Lane := { L with motion := { L.motion with h := L.motion.h + 1 } }
    let h := (s.dev.slot c.slot).hdr
    L.motion.d = 0 → L.motion.nextLine = some pos → atOrBeyond (L.motion.h + 1) pos = true → L.scanningCtx = some c →
    up.scanDue = false → up.gateDue = false →
    exec (.encoderForwardCount l) s = becomes s ((withLane s.dev l up).issueLine l c pos) ∧
    ∃ t : State, exec (.encoderForwardCount l) s = .next t ∧
      (t.dev.lane l).motion =
        { up.motion with
          tagCounter := L.motion.tagCounter + 1,
          nextLine := if c.lineOf L.motion.tagCounter + 1 = h.panelLength.toNat then none
                      else some (pos + h.linePitch.setWidth 32) }) ∧
  (∀ (l : LaneId) (s : State) (c w : Context) (pos : Word32), s.dev.resetLow = false → (s.dev.lane l).mode ≠ .off →
    let L := s.dev.lane l
    (L.live.map (fun c => c.num)).Nodup →
    let up : Lane := { L with motion := { L.motion with h := L.motion.h + 1 } }
    let issued := (withLane s.dev l up).issueLine l c pos
    L.motion.d = 0 → L.motion.nextLine = some pos → atOrBeyond (L.motion.h + 1) pos = true → L.scanningCtx = some c →
    L.oldestWaiting = some w → (∀ x ∈ L.live, x.state = .waiting → x = w) →
    atOrBeyond (L.motion.h + 1) w.scanStart = true → up.gateDue = false →
    exec (.encoderForwardCount l) s = becomes s (issued.scanStart l w)) ∧
  (∀ (d : Device) (l : LaneId) (c : Context) (pos : Word32),
    let L := d.lane l
    let h := (d.slot c.slot).hdr
    let line := c.lineOf L.motion.tagCounter
    let last : Bool := decide (line + 1 = h.panelLength.toNat)
    let moved := withLane d l { L with motion := { L.motion with
      tagCounter := L.motion.tagCounter + 1, nextLine := if last then none else some (pos + h.linePitch.setWidth 32) } }
    let checked : Device :=
      match L.reg with
      | none => moved
      | some r => if line = h.zone.toNat + 64 then moved.endRegistration l r (.failed .late) else moved
    let opened := Device.openJoints l c.num line h.jointCount.toNat checked
    let lit := opened.strobeLine l { lineTag := L.motion.tagCounter, seq := c.seq, line := line, phaseSet := h.phaseSet,
                                     flash := flashTimes h, portSet := h.portSet }
    let M := lit.lane l
    let live := M.live.map (fun x => if x.num = c.num then
      { x with state := if x.gateAction = .pending then .settling else .passed } else x)
    (last = false → d.issueLine l c pos = lit) ∧
    (last = true → d.issueLine l c pos = (withLane lit l { M with
      live := live, mode := .ready, light := .ready,
      idleLeft := if M.settings.idleTimeout ≠ 0 ∧ live.find? (fun x => decide (x.state = .waiting)) = none
                  then some (M.settings.idleTimeout.toNat * 1000000) else M.idleLeft }).tryDecide l c.num)) ∧
  (∀ (l : LaneId) (s : State) (c : Context), s.dev.resetLow = false → (s.dev.lane l).mode ≠ .off →
    let L := s.dev.lane l
    let up : Lane := { L with motion := { L.motion with h := L.motion.h + 1 } }
    L.motion.d = 0 → L.oldestWaiting = some c → (∀ x ∈ L.live, x.state = .waiting → x = c) →
    atOrBeyond (L.motion.h + 1) c.scanStart = true → up.lineDue = false → up.gateDue = false →
    exec (.encoderForwardCount l) s = becomes s ((withLane s.dev l up).scanStart l c)) ∧
  (∀ (d : Device) (l : LaneId) (c : Context), (d.lane l).ctx c.num = some c →
    (∀ x ∈ (d.lane l).live, x.num = c.num → x = c) →
    let L := d.lane l
    let h := (d.slot c.slot).hdr
    let t := d.scanStart l c
    let joints := h.jointCount.toNat
    let run : LineRun := { lineTag := L.motion.tagCounter, seq := c.seq, line := 0, phaseSet := h.phaseSet,
                           flash := flashTimes h, portSet := h.portSet }
    let aborted (k : Context) : Device := withLane d l { L with live := L.live.map (fun x => if x.num = c.num then k else x) }
    let out : CtxState := if c.gateAction = .pending then .settling else .passed
    (L.mode = .ready → c.reg.state = .pending → h.panelLength.toNat ≠ 1 →
      (t.lane l).mode = .scanning ∧ (t.lane l).idleLeft = none ∧
      (t.lane l).motion = { L.motion with tagCounter := L.motion.tagCounter + 1,
                                          nextLine := some (c.scanStart + h.linePitch.setWidth 32) } ∧
      (t.lane l).reg = some { seq := c.seq, ctx := c.num, accumulators := (List.range h.fiducialCount.toNat).map (fun i =>
        { index := i, lost := false, injected := false, area := 0, columnSum := 0, lineSum := 0, result := none }) } ∧
      (t.lane l).ctx c.num = some { c with state := .scanning, firstTag := some L.motion.tagCounter } ∧
      (t.lane l).openList = L.openList ∧
      (∀ (p : Phase) (ps : List Phase), L.strobe.state = .idle → phasesOf h.phaseSet = p :: ps →
        (t.lane l).strobe = { L.strobe with state := .flash p, run := some run,
                                            flashLeft := ((flashTimes h).get p).toNat })) ∧
    (L.mode = .warming →
      t = ((aborted { c with
        abort := if c.abort = .none then .warmup else c.abort, state := out, pointer := joints,
        causes := { c.causes with warmup := c.causes.warmup + joints } }).fault l .warmupLate).tryDecide l c.num) ∧
    (L.mode = .scanning →
      t = ((aborted { c with
        abort := if c.abort = .none then .overlap else c.abort, state := out, pointer := joints,
        causes := { c.causes with overlap := c.causes.overlap + joints } }).raiseLane l .overlap).tryDecide l c.num))

/-- Edges on a lane that is not Off. An edge is accepted when D is zero and either no edge has been accepted or H is at or
beyond the last accepted edge plus the edge guard, that is, H minus that sum, modulo 2^32, is below 2^31 (R30, R32). One that
fails this raises EdgeIgnored and changes nothing else; an accepted one captures H as the last accepted edge, consumes one
panel sequence number and leaves no recipe pending (R26, R32, R33, R133). -/
def Obligations.EdgesTaken : Prop :=
  ∀ (l : LaneId) (s : State), s.dev.resetLow = false → (s.dev.lane l).mode ≠ .off →
    let L := s.dev.lane l
    let accepted : Prop := L.motion.d = 0 ∧
      ∀ e : Word32, L.motion.lastEdge = some e →
        (L.motion.h - (e + L.settings.edgeGuard.setWidth 32)).toNat < 2 ^ 31
    (L.acceptsEdge = true ↔ accepted) ∧
    (¬ accepted → exec (.edgeRise l) s = becomes s (s.dev.raiseLane l .edgeIgnored)) ∧
    (accepted →
      ∃ t : State, exec (.edgeRise l) s = .next t ∧
        (t.dev.lane l).motion.lastEdge = some L.motion.h ∧
        (t.dev.lane l).motion.h = L.motion.h ∧
        (t.dev.lane l).nextSeq = L.nextSeq + 1 ∧ (t.dev.lane l).pendingRecipe = none)

/-- A reverse count that raises D above the reverse limit with a panel Scanning: MotionFault counted and recorded, the lane's
gate left as the fault leaves it (`fault`, FaultAnswered's), line issue and registration ended, every window of the panel
gone from the open list and the waiting order with its crop slot Free, the lane Ready, and D raised. The panel's context has
abort cause Motion unless a cause was written before, counts its windows in the open list and its joints not yet scheduled
Unjudged with cause Aborted, has none left to schedule, and leaves Scanning: it is Settling, or Passed when it is past the
gate, and one then fully accounted for is decided at once (R31, R39, R77, R103, R138, R139; the lane's live contexts have
different numbers, which LanesStayOrdered keeps). -/
def Obligations.MotionFaultAbortsPanel : Prop :=
  ∀ (l : LaneId) (s : State) (c : Context), s.dev.resetLow = false → (s.dev.lane l).mode ≠ .off →
    let L := s.dev.lane l
    (L.live.map (fun c => c.num)).Nodup →
    L.motion.d ≠ 0xFFFF → L.settings.reverseLimit.toNat < L.motion.d.toNat + 1 → L.scanningCtx = some c →
    let removed := L.openList.filter (fun w => decide (w.seq = c.seq))
    let joints := (s.dev.slot c.slot).hdr.jointCount.toNat
    let k : Context := { c with
      abort := if c.abort = .none then .motion else c.abort, pointer := joints,
      causes := { c.causes with aborted := c.causes.aborted + removed.length + (joints - c.pointer) },
      state := if c.gateAction = .pending then .settling else .passed }
    let accounted := k.pass + k.marginal + k.defect + k.unjudged = joints
    ∃ t : State, exec (.encoderReverseCount l) s = .next t ∧
      (t.dev.lane l).motion = { L.motion with d := L.motion.d + 1, nextLine := none } ∧
      (t.dev.lane l).mode = .ready ∧ (t.dev.lane l).reg = none ∧
      (t.dev.lane l).openList = L.openList.filter (fun w => decide (w.seq ≠ c.seq)) ∧
      t.dev.waiting = s.dev.waiting.filter (fun x => decide (¬ (x.lane = l ∧ x.seq = c.seq))) ∧
      t.dev.closeQueue = s.dev.closeQueue ∧ t.dev.evaluation = s.dev.evaluation ∧
      (∀ w ∈ removed, ∀ (i : Nat) (x : CropSlot), w.crop = some i → s.dev.crops[i]? = some x →
        t.dev.crops[i]? = some { x with state := .free, owner := none } ∧ i ∉ t.dev.cropQueue) ∧
      (t.dev.lane l).gate.counts.motionFault = min 255 (L.gate.counts.motionFault + 1) ∧
      (t.dev.lane l).gate = ((s.dev.fault l .motionFault).lane l).gate ∧
      (t.dev.cond.get (.lane l)).raised &&& LaneCond.motionFault.bit ≠ 0 ∧
      (¬ accounted → (t.dev.lane l).ctx c.num = some k) ∧
      (accounted → c.gateAction = .pending →
        ∃ x : Decision, (t.dev.lane l).ctx c.num = some { k with decision := some x, state := .decided })

/-- An accepted edge, form by form. On a lane with its lights on, an active recipe, no pending one and a free context, with room
in the gate queue and no older context Waiting, and a lead-in above zero: the last accepted edge is set, one panel sequence
number is consumed, a Waiting context joins the lane, the idle timer stops and a linked gate entry joins the gate queue;
nothing else changes (R33, R133, R149). With a lead-in of zero the same, and the new context's scan start follows at once (R30,
R34). With 4 entries in the gate queue its entry is refused: PanelOverrun, and the context is without one (R134, R149), its
scan start following at once too with a lead-in of zero. Behind an older Waiting context, whose scan start alone is watched
and is not reached, the new one waits whatever the lead-in (R30). On a
Standby lane the edge first arms it (R45, R128); a pending recipe is first taken (R26, R133). With no active recipe NoRecipe
is raised, with no free context PanelOverrun, no context is made, a fixed Review entry joins the gate queue, and the idle
timer of a Ready lane with no Waiting context restarts (R130, R133; both with room in the gate queue; without room the entry
is refused with PanelOverrun too). -/
def Obligations.AcceptedEdgeTracksPanel : Prop :=
  ∀ (l : LaneId) (n slot : Fin 4) (s : State), s.dev.resetLow = false →
    let L := s.dev.lane l
    let hw := L.motion.h
    let pos := hw + L.settings.gateDistance.setWidth 32
    let made := Context.fresh n L.nextSeq slot (s.dev.slot slot).hdr.recipeId hw (hw + L.settings.leadIn.setWidth 32)
    let taken : Lane := { L with motion := { L.motion with lastEdge := some hw }, nextSeq := L.nextSeq + 1 }
    let linked : GateEntry := { pos := pos, seq := L.nextSeq, kind := .linked n }
    let tracked (c : Context) (q : List GateEntry) : Device :=
      withLane s.dev l { taken with idleLeft := none, live := L.live ++ [c], gate := { L.gate with queue := q } }
    let entered (d : Device) (e : GateEntry) : Device :=
      withLane d l { d.lane l with gate := { (d.lane l).gate with queue := (d.lane l).gate.queue ++ [e] } }
    let fixed : GateEntry := { pos := pos, seq := L.nextSeq, kind := .fixedReview }
    let reload (d : Device) : Device :=
      withLane d l { d.lane l with
        idleLeft := if L.settings.idleTimeout ≠ 0 ∧ L.mode = .ready ∧ L.oldestWaiting = none
                    then some (L.settings.idleTimeout.toNat * 1000000) else (d.lane l).idleLeft }
    L.acceptsEdge = true →
    (L.mode ≠ .off → L.mode ≠ .standby → L.active = some slot → L.pendingRecipe = none → L.freeCtx = some n →
      L.oldestWaiting = none →
      (L.gate.queue.length < 4 → L.settings.leadIn ≠ 0 →
        exec (.edgeRise l) s = becomes s (tracked made (L.gate.queue ++ [linked]))) ∧
      (L.gate.queue.length < 4 → L.settings.leadIn = 0 →
        exec (.edgeRise l) s = becomes s ((tracked made (L.gate.queue ++ [linked])).scanStart l made)) ∧
      (4 ≤ L.gate.queue.length → L.settings.leadIn ≠ 0 →
        exec (.edgeRise l) s =
          becomes s ((tracked { made with gateAction := .noEntry } L.gate.queue).fault l .panelOverrun)) ∧
      (4 ≤ L.gate.queue.length → L.settings.leadIn = 0 →
        exec (.edgeRise l) s =
          becomes s (((tracked { made with gateAction := .noEntry } L.gate.queue).fault l .panelOverrun).scanStart l
            { made with gateAction := .noEntry }))) ∧
    (∀ w : Context, L.mode ≠ .off → L.mode ≠ .standby → L.active = some slot → L.pendingRecipe = none →
      L.freeCtx = some n → L.oldestWaiting = some w → atOrBeyond hw w.scanStart = false →
      (L.gate.queue.length < 4 →
        exec (.edgeRise l) s = becomes s (tracked made (L.gate.queue ++ [linked]))) ∧
      (4 ≤ L.gate.queue.length →
        exec (.edgeRise l) s =
          becomes s ((tracked { made with gateAction := .noEntry } L.gate.queue).fault l .panelOverrun))) ∧
    (L.mode = .standby → L.settings.warmupTime ≠ 0 →
      exec (.edgeRise l) s = exec (.edgeRise l) { s with dev := withLane s.dev l { L with
        mode := .warming, light := .warming, warmupLeft := some (L.settings.warmupTime.toNat * 1000) } }) ∧
    (L.mode = .standby → L.settings.warmupTime = 0 →
      exec (.edgeRise l) s = exec (.edgeRise l) { s with dev := withLane s.dev l { L with
        mode := .ready, light := .ready, warmupLeft := none,
        idleLeft := if L.settings.idleTimeout ≠ 0 ∧ L.oldestWaiting = none
                    then some (L.settings.idleTimeout.toNat * 1000000) else L.idleLeft } }) ∧
    (L.mode ≠ .off → L.pendingRecipe = some slot →
      exec (.edgeRise l) s = exec (.edgeRise l) { s with dev := withLane s.dev l { L with
        active := some slot, pendingRecipe := none } }) ∧
    (L.mode ≠ .off → L.mode ≠ .standby → L.active = none → L.pendingRecipe = none →
      (L.gate.queue.length < 4 →
        exec (.edgeRise l) s = becomes s (reload (entered ((withLane s.dev l taken).raiseLane l .noRecipe) fixed))) ∧
      (4 ≤ L.gate.queue.length →
        exec (.edgeRise l) s =
          becomes s (reload (((withLane s.dev l taken).raiseLane l .noRecipe).fault l .panelOverrun)))) ∧
    (L.mode ≠ .off → L.mode ≠ .standby → L.active = some slot → L.pendingRecipe = none → L.freeCtx = none →
      (L.gate.queue.length < 4 →
        exec (.edgeRise l) s = becomes s (reload (entered ((withLane s.dev l taken).fault l .panelOverrun) fixed))) ∧
      (4 ≤ L.gate.queue.length →
        exec (.edgeRise l) s =
          becomes s (reload (((withLane s.dev l taken).fault l .panelOverrun).fault l .panelOverrun))))

/-- The strobe sequencer. A line issue at an Idle sequencer starts the line's sequence: Flash of the first phase of the set, its
strobe active, its flash time loaded, and a trigger word to each port of the set (R41). The end of a flash loads the phase's
settle counter and makes the strobe inactive; the expiry of a settle counter enters Flash for the next phase of the set with
its trigger words, or ends the sequence, at which each port's held skips join its outstanding list in order and none is left
(R42, R58; a trigger word and a joining entry are PacketCompletes's). A line issue at a busy sequencer leaves the sequence as
it is and raises Overspeed, and every port of the set holds one skip more for each phase of the set (R43). A row of the
sequencer ends its time whatever is left of it (log 8). -/
def Obligations.StrobeSequence : Prop :=
  (∀ (l : LaneId) (p : Phase) (s : State), s.dev.resetLow = false →
    let L := s.dev.lane l
    (L.strobe.state = .flash p → L.strobeOn p = true ∧
      exec (.flashEnd l) s =
        becomes s (withLane s.dev l { L with strobe := { L.strobe with
          state := .settle p, flashLeft := 0, settle := L.strobe.settle.set p L.settings.settleReload.toNat } })) ∧
    (∀ (r : LineRun) (q : Phase), L.strobe.state = .settle p → L.strobe.run = some r → nextPhase r.phaseSet p = some q →
      (∃ set : List Phase, phasesOf r.phaseSet = set ∧ q ∈ set ∧ phaseBit p < phaseBit q ∧
        ∀ x ∈ set, phaseBit p < phaseBit x → phaseBit q ≤ phaseBit x) ∧
      ∃ t : State, exec (.settleExpiry l) s = .next t ∧
        (t.dev.lane l).strobe = { state := .flash q, run := some r, flashLeft := (r.flash.get q).toNat,
                                  settle := L.strobe.settle.set p 0 } ∧
        ∀ k : LocalPort,
          t.dev.port ⟨l, k⟩ = (if portIn r.portSet k then
            (PortRun.trigger (r.entry .triggered q) (s.dev.port ⟨l, k⟩, 0)).1 else s.dev.port ⟨l, k⟩) ∧
          (portIn r.portSet k = true → (t.dev.port ⟨l, k⟩).trigSent = some (triggerWord r.lineTag q))) ∧
    (∀ r : LineRun, L.strobe.state = .settle p → L.strobe.run = some r → nextPhase r.phaseSet p = none →
      ∃ t : State, exec (.settleExpiry l) s = .next t ∧
        (t.dev.lane l).strobe.state = .idle ∧ (t.dev.lane l).strobe.run = none ∧
        ∀ k : LocalPort,
          t.dev.port ⟨l, k⟩ = ((s.dev.port ⟨l, k⟩).held.foldl PortRun.join ({ s.dev.port ⟨l, k⟩ with held := [] }, 0)).1 ∧
          (t.dev.port ⟨l, k⟩).held = [])) ∧
  (∀ (d : Device) (l : LaneId) (r : LineRun) (k : LocalPort) (p : Phase) (rest : List Phase),
    (d.lane l).strobe.state = .idle → phasesOf r.phaseSet = p :: rest →
    let t := d.strobeLine l r
    (t.lane l).strobe = { (d.lane l).strobe with state := .flash p, run := some r, flashLeft := (r.flash.get p).toNat } ∧
      (t.lane l).strobeOn p = true ∧
      t.port ⟨l, k⟩ = (if portIn r.portSet k then
        (PortRun.trigger (r.entry .triggered p) (d.port ⟨l, k⟩, 0)).1 else d.port ⟨l, k⟩) ∧
      (portIn r.portSet k = true → (t.port ⟨l, k⟩).trigSent = some (triggerWord r.lineTag p))) ∧
  (∀ (d : Device) (l : LaneId) (r : LineRun) (k : LocalPort), (d.lane l).strobe.state ≠ .idle →
    let t := d.strobeLine l r
    (t.lane l).strobe = (d.lane l).strobe ∧ (t.cond.get (.lane l)).raised &&& LaneCond.overspeed.bit ≠ 0 ∧
      (t.port ⟨l, k⟩).outstanding = (d.port ⟨l, k⟩).outstanding ∧
      (t.port ⟨l, k⟩).trigSent = (d.port ⟨l, k⟩).trigSent ∧
      (t.port ⟨l, k⟩).held =
        (d.port ⟨l, k⟩).held ++ (if portIn r.portSet k then (phasesOf r.phaseSet).map (r.entry .skipped) else []))

/-- The timers. Expiry of the warm-up timer makes the lane Ready and loads the idle timer where a timeout is set and no context
Waits; expiry of the idle timer returns the lane to Standby with its lights off and LIGHT_ON inactive (R45, R129, R130; an
expiry row makes its running timer expire whatever is left of it, log 8). In one microsecond the stall timer, then lane A's
and then lane B's flash or settle time, idle timer and warm-up timer each fall by one where they run with more than one
microsecond left, and come to their end or expiry, as the row of that event does, where they have no more left; one that does
not run stands (R42, R45, R130, R171; the microsecond and the order of the timers are the model's, log 7). -/
def Obligations.LaneTimersExpire : Prop :=
  (∀ (l : LaneId) (s : State), s.dev.resetLow = false →
    let L := s.dev.lane l
    (L.warmupLeft.isSome = true →
      exec (.warmupExpiry l) s =
        becomes s (withLane s.dev l { L with
          mode := .ready, light := .ready, warmupLeft := none,
          idleLeft := if L.settings.idleTimeout ≠ 0 ∧ L.oldestWaiting = none
                      then some (L.settings.idleTimeout.toNat * 1000000) else L.idleLeft })) ∧
    (L.idleLeft.isSome = true →
      exec (.idleTimerExpiry l) s =
        becomes s (withLane s.dev l { L with mode := .standby, light := .off, warmupLeft := none, idleLeft := none })) ∧
    exec (.flashEnd l) s = becomes s (s.dev.flashEnds l) ∧ exec (.settleExpiry l) s = becomes s (s.dev.settleExpires l) ∧
    exec (.idleTimerExpiry l) s = becomes s (s.dev.idleExpires l) ∧
    exec (.warmupExpiry l) s = becomes s (s.dev.warmupExpires l) ∧
    exec .stallTimerExpiry s = becomes s s.dev.stallExpires) ∧
  (∀ (l : LaneId) (d : Device),
    let L := d.lane l
    let z := L.strobe
    (L.light = .off → L.lightOn = false) ∧ (L.light ≠ .off → L.lightOn = true) ∧
    d.tick = (((((((d.tickStall.tickStrobe .a).tickIdle .a).tickWarmup .a).tickStrobe .b).tickIdle .b).tickWarmup .b)) ∧
    (z.state = .idle → d.tickStrobe l = d) ∧
    (∀ p : Phase, z.state = .flash p →
      (1 < z.flashLeft → d.tickStrobe l = withLane d l { L with strobe := { z with flashLeft := z.flashLeft - 1 } }) ∧
      (z.flashLeft ≤ 1 → d.tickStrobe l = d.flashEnds l)) ∧
    (∀ p : Phase, z.state = .settle p →
      (1 < z.settle.get p →
        d.tickStrobe l = withLane d l { L with strobe := { z with settle := z.settle.set p (z.settle.get p - 1) } }) ∧
      (z.settle.get p ≤ 1 → d.tickStrobe l = d.settleExpires l)) ∧
    (L.idleLeft = none → d.tickIdle l = d) ∧
    (∀ n : Nat, L.idleLeft = some n →
      (1 < n → d.tickIdle l = withLane d l { L with idleLeft := some (n - 1) }) ∧
      (n ≤ 1 → d.tickIdle l = d.idleExpires l)) ∧
    (L.warmupLeft = none → d.tickWarmup l = d) ∧
    (∀ n : Nat, L.warmupLeft = some n →
      (1 < n → d.tickWarmup l = withLane d l { L with warmupLeft := some (n - 1) }) ∧
      (n ≤ 1 → d.tickWarmup l = d.warmupExpires l)) ∧
    (d.trunk.stallLeft = none → d.tickStall = d) ∧
    (∀ n : Nat, d.trunk.stallLeft = some n →
      (1 < n → d.tickStall = { d with trunk := { d.trunk with stallLeft := some (n - 1) } }) ∧
      (n ≤ 1 → d.tickStall = d.stallExpires)))

/-- Configure Lane: RefusedRange for a setting outside Figure 2-3, RefusedState in a lane that is not Off, otherwise all
seven settings replaced (R46). Set Report Mode: the lane's mode and detail replaced with a Done reply; another mode or
detail code is refused with RefusedRange (R118). Nothing else changes. -/
def Obligations.LaneConfigurationAnswered : Prop :=
  ∀ (tag : Byte) (l : LaneId) (s : State), Taken s →
    let L := s.dev.lane l
    (∀ x : LaneSettings,
      let inRange := 1 ≤ x.reverseLimit.toNat ∧ x.reverseLimit.toNat ≤ 4095 ∧ 1 ≤ x.gateDistance.toNat ∧
        x.warmupTime.toNat ≤ 4095 ∧ 1 ≤ x.settleReload.toNat
      (¬ inRange → exec (.configureLane tag (laneByte l) x) s = answers s s.dev tag 0x20 .refusedRange []) ∧
      (inRange → L.mode ≠ .off →
        exec (.configureLane tag (laneByte l) x) s = answers s s.dev tag 0x20 .refusedState []) ∧
      (inRange → L.mode = .off →
        exec (.configureLane tag (laneByte l) x) s =
          answers s (withLane s.dev l { L with settings := x }) tag 0x20 .done [])) ∧
    (∀ mode detail : Byte,
      (∀ (m : ReportMode) (x : ReportDetail), mode.toNat = reportModeCode m → detail.toNat = reportDetailCode x →
        exec (.setReportMode tag (laneByte l) mode detail) s =
          answers s (withLane s.dev l { L with reportMode := m, reportDetail := x }) tag 0x48 .done []) ∧
      (3 < mode.toNat ∨ 1 < detail.toNat →
        exec (.setReportMode tag (laneByte l) mode detail) s = answers s s.dev tag 0x48 .refusedRange []))

/-! ## Camera ports -/

/-- CAM_SD going inactive: a port not yet Dark enters Dark, its packet discarded and its outstanding list declared lost: a
loss marker of each entry joins the FIFO, oldest first, LineLost is raised when one of them was Triggered, and EnteredDark
and StateChange are raised; the fault CameraLoss is raised on the lane exactly when the port is in the port set of its
Scanning panel, and the lane's gate is then as the fault leaves it (`fault`, FaultAnswered's; R50, R54, R55, R58). A port
already Dark stays so and keeps all but the level. CAM_SD going active: a port that is not Dark keeps all but the level; a
Dark port enters Unknown (R50) with StateChange, and with UnknownAfterGood where its last known state is Idle or Active,
UnknownAfterBad where it is Dark or Noise (R54). While CAM_SD is inactive no word has an effect (R47). -/
def Obligations.SignalDetectMovesStream : Prop :=
  ∀ (p : PortId) (s : State), s.dev.resetLow = false →
    let x := s.dev.port p
    let scans : Prop := ∃ c : Context, (s.dev.lane p.lane).scanningCtx = some c ∧
      portIn (s.dev.slot c.slot).hdr.portSet p.loc = true
    (x.stream ≠ .dark →
      ∃ t : State, exec (.camSdInactive p) s = .next t ∧
        (t.dev.port p).camSd = false ∧ (t.dev.port p).stream = .dark ∧ (t.dev.port p).lastKnown = .dark ∧
        (t.dev.port p).assembly = none ∧ (t.dev.port p).outstanding = [] ∧ (t.dev.port p).fillRun = 0 ∧
        (t.dev.port p).held = x.held ∧ (t.dev.port p).noiseCount = x.noiseCount ∧
        (t.dev.port p).fifo = x.fifo ++ x.outstanding.map (fun e =>
          { lineTag := e.lineTag, phase := e.phase, seq := e.seq, line := e.line, payload := .lost }) ∧
        portConds t.dev p = portConds s.dev p ||| PortCond.stateChange.bit ||| PortCond.enteredDark.bit |||
          (if x.outstanding.any (fun e => decide (e.kind = .triggered)) then PortCond.lineLost.bit else 0) ∧
        (scans → (t.dev.lane p.lane).gate = ((s.dev.fault p.lane .cameraLoss).lane p.lane).gate ∧
          (t.dev.lane p.lane).gate.counts.cameraLoss = min 255 ((s.dev.lane p.lane).gate.counts.cameraLoss + 1)) ∧
        (¬ scans → (t.dev.lane p.lane).gate = (s.dev.lane p.lane).gate)) ∧
    (x.stream = .dark → exec (.camSdInactive p) s = becomes s (withPort s.dev p { x with camSd := false })) ∧
    (x.stream ≠ .dark → exec (.camSdActive p) s = becomes s (withPort s.dev p { x with camSd := true })) ∧
    (x.stream = .dark →
      ∃ t : State, exec (.camSdActive p) s = .next t ∧
        t.dev.port p = { s.dev.port p with camSd := true, stream := .unknown, fillRun := 0 } ∧
        portConds t.dev p = portConds s.dev p ||| PortCond.stateChange.bit |||
          (match x.lastKnown with
           | .idle | .active => PortCond.unknownAfterGood.bit
           | .dark | .noise => PortCond.unknownAfterBad.bit
           | .never => 0)) ∧
    (∀ (lineTag check : Word16) (ph : Phase) (px : Byte) (w : BitVec 24), (s.dev.port p).camSd = false →
      exec (.fillWord p) s = becomes s s.dev ∧ exec (.startWord p lineTag ph) s = becomes s s.dev ∧
        exec (.dataWord p px) s = becomes s s.dev ∧ exec (.endWord p check) s = becomes s s.dev ∧
        exec (.violationWord p w) s = becomes s s.dev)

/-- A Fill between packets counts toward the fill run, and changes nothing else, until the fourth; the fourth takes a port
that is Unknown, Noise or Active to Idle with the noise count zeroed and EnteredIdle and StateChange raised (R51, R54). An
in-place Start opens a packet in Active and, with entry into Active, in Idle; a Data word adds its pixel to a packet not yet
full (R48, R52). In Unknown and Noise a Start, a Data word and an End have no effect but to break the fill run (R47, R51,
R52). -/
def Obligations.FillsAndPacketsAssemble : Prop :=
  ∀ (p : PortId) (s : State) (lineTag : Word16) (ph : Phase) (px : Byte), s.dev.resetLow = false →
    let x := s.dev.port p
    let opened : Assembly := { lineTag := lineTag, phase := ph, received := 0, pixels := [] }
    x.camSd = true →
    (x.assembly = none → x.fillRun < 3 ∨ x.stream = .idle →
      exec (.fillWord p) s = becomes s (withPort s.dev p { x with fillRun := min 4 (x.fillRun + 1) })) ∧
    (x.assembly = none → x.fillRun = 3 → (x.stream = .unknown ∨ x.stream = .noise ∨ x.stream = .active) →
      ∃ t : State, exec (.fillWord p) s = .next t ∧
        t.dev.port p = { x with stream := .idle, lastKnown := .idle, fillRun := 0, noiseCount := 0 } ∧
        portConds t.dev p =
          portConds s.dev p ||| PortCond.stateChange.bit ||| PortCond.enteredIdle.bit) ∧
    (x.stream = .active → x.assembly = none →
      exec (.startWord p lineTag ph) s = becomes s (withPort s.dev p { x with fillRun := 0, assembly := some opened })) ∧
    (∀ check : Word16, x.stream = .unknown ∨ x.stream = .noise → x.assembly = none →
      let broken := becomes s (withPort s.dev p { x with fillRun := 0 })
      exec (.startWord p lineTag ph) s = broken ∧ exec (.dataWord p px) s = broken ∧ exec (.endWord p check) s = broken) ∧
    (x.stream = .idle → x.assembly = none →
      ∃ t : State, exec (.startWord p lineTag ph) s = .next t ∧
        t.dev.port p = { x with stream := .active, lastKnown := .active, fillRun := 0, noiseCount := 0,
                                assembly := some opened } ∧
        portConds t.dev p = portConds s.dev p ||| PortCond.stateChange.bit ||| PortCond.enteredActive.bit) ∧
    (∀ a : Assembly, x.assembly = some a → a.received < 2048 →
      exec (.dataWord p px) s = becomes s (withPort s.dev p
        { x with fillRun := 0,
                 assembly := some { a with received := a.received + 1, pixels := px :: a.pixels } }))

/-- The end of a packet. An End after 2,048 pixels completes it: with a bad check it is discarded and the check monitor falls
by one, raising CheckThreshold at zero, where it stays; a good packet on an inactive port is discarded, on an active port it
is matched (R48, R56, R60, R61). A packet that matches the oldest entry, with injection Off and four packets not queued,
leaves the list and enters the FIFO with the entry's panel. In general: one that no Triggered entry awaits raises StrayPacket
and changes nothing else; one that an entry awaits resolves the older entries as loss markers, LineLost where one was
Triggered, and enters the FIFO, or with four packets queued is dropped with FifoSlip and a marker; Skipped entries then at
the front are resolved (R58, R60, R62). Its pixels are the pattern line's when injection is due: Continuous, Periodic with
the panel line a multiple of n, OneShot with target panel and line n; a OneShot ends with the target's last phase of line n
(R66, R67). An entry that joins resolves an entry of the same tag and phase with every older one, else with 16 entries the
oldest; then Skipped entries at the front; the first of panel line 0 fixes an armed OneShot's target, one of a later panel
ends it (R58, R59, R67). A trigger word is sent and its entry joins; in Dark and Noise the list is declared lost at once
(R60). -/
def Obligations.PacketCompletes : Prop :=
  (∀ (p : PortId) (s : State) (a : Assembly) (check : Word16), s.dev.resetLow = false →
    let x := s.dev.port p
    let px := a.pixels.reverse
    let good := packetCheck a.lineTag a.phase px = check
    x.camSd = true → x.assembly = some a → 2048 ≤ a.received →
    (¬ good → 1 < x.checkMonitor.toNat →
      exec (.endWord p check) s = becomes s (withPort s.dev p
        { x with fillRun := 0, assembly := none, checkMonitor := x.checkMonitor - 1 })) ∧
    (¬ good → x.checkMonitor = 1 →
      ∃ t : State, exec (.endWord p check) s = .next t ∧
        t.dev.port p = { x with fillRun := 0, assembly := none, checkMonitor := 0 } ∧
        portConds t.dev p = portConds s.dev p ||| PortCond.checkThreshold.bit) ∧
    (¬ good → x.checkMonitor = 0 →
      exec (.endWord p check) s = becomes s (withPort s.dev p { x with fillRun := 0, assembly := none })) ∧
    (good → s.dev.portActive p = false →
      exec (.endWord p check) s = becomes s (withPort s.dev p { x with fillRun := 0, assembly := none })) ∧
    (∀ (e : Entry) (rest : List Entry), good → s.dev.portActive p = true → x.outstanding = e :: rest →
      e.kind = .triggered → e.lineTag = a.lineTag → e.phase = a.phase → (∀ f ∈ rest, f.kind = .triggered) →
      x.mode = .off → (x.fifo.filter Item.isPacket).length < 4 →
      exec (.endWord p check) s = becomes s (withPort s.dev p
        { x with fillRun := 0, assembly := none, outstanding := rest,
                 fifo := x.fifo ++ [{ lineTag := e.lineTag, phase := e.phase, seq := e.seq, line := e.line,
                                      payload := .packet px false }] })) ∧
    (good → s.dev.portActive p = true →
      ∃ t : State, exec (.endWord p check) s = .next t ∧
        let r := PortRun.matchPacket a.lineTag a.phase px ({ x with fillRun := 0, assembly := none }, 0)
        t.dev.port p = r.1 ∧ portConds t.dev p = portConds s.dev p ||| r.2)) ∧
  (∀ (x : Port) (cs : Word16) (lineTag : Word16) (ph : Phase) (px : List Byte),
    let hits (f : Entry) : Prop := f.kind = .triggered ∧ f.lineTag = lineTag ∧ f.phase = ph
    let marker (f : Entry) : Item :=
      { lineTag := f.lineTag, phase := f.phase, seq := f.seq, line := f.line, payload := .lost }
    let lost (fs : List Entry) : Word16 :=
      if fs.any (fun f => decide (f.kind = .triggered)) then PortCond.lineLost.bit else 0
    let r := PortRun.matchPacket lineTag ph px (x, cs)
    ((∀ f ∈ x.outstanding, ¬ hits f) → r = (x, cs ||| PortCond.strayPacket.bit)) ∧
    (∀ (older after : List Entry) (e : Entry), x.outstanding = older ++ e :: after → (∀ f ∈ older, ¬ hits f) → hits e →
      let due : Bool := match x.mode with
        | .off => false
        | .continuous => true
        | .periodic => decide (e.line % x.n.toNat = 0)
        | .oneShot => decide (x.target = .panel e.seq ∧ e.line = x.n.toNat)
      let slip := 4 ≤ (x.fifo.filter Item.isPacket).length
      let skipped := after.takeWhile (fun f => decide (f.kind = .skipped))
      let pixels := if due then (List.range 2048).map (fun i => x.pattern.read i) else px
      let item : Item := if slip then marker e else { marker e with payload := .packet pixels due }
      (older = [] ∨ x.mode ≠ .oneShot →
        r.1.outstanding = after.dropWhile (fun f => decide (f.kind = .skipped)) ∧
        r.1.fifo = x.fifo ++ older.map marker ++ [item] ++ skipped.map marker ∧
        r.2 = cs ||| lost older ||| (if slip then PortCond.fifoSlip.bit else 0)) ∧
      (x.mode ≠ .oneShot → r.1.mode = x.mode ∧ r.1.target = x.target) ∧
      (older = [] → skipped = [] → x.mode = .oneShot →
        (x.target = .panel e.seq ∧ e.line = x.n.toNat ∧ e.phase = e.lastPhase →
          r.1.mode = .off ∧ r.1.target = .absent) ∧
        (¬ (x.target = .panel e.seq ∧ e.line = x.n.toNat ∧ e.phase = e.lastPhase) →
          r.1.mode = .oneShot ∧ r.1.target = x.target)))) ∧
  (∀ (x : Port) (cs : Word16) (e : Entry) (k : Nat),
    let same (f : Entry) : Prop := f.lineTag = e.lineTag ∧ f.phase = e.phase
    let marker (f : Entry) : Item :=
      { lineTag := f.lineTag, phase := f.phase, seq := f.seq, line := f.line, payload := .lost }
    ((∃ (older after : List Entry) (f : Entry), x.outstanding = older ++ f :: after ∧ same f ∧
        (∀ g ∈ older, ¬ same g) ∧ k = older.length + 1) ∨
      ((∀ f ∈ x.outstanding, ¬ same f) ∧ k = if 16 ≤ x.outstanding.length then 1 else 0)) →
    let rest := x.outstanding.drop k ++ [e]
    let gone := x.outstanding.take k ++ rest.takeWhile (fun f => decide (f.kind = .skipped))
    let r := PortRun.join (x, cs) e
    let u := PortRun.trigger e (x, cs)
    r.1.outstanding = rest.dropWhile (fun f => decide (f.kind = .skipped)) ∧ r.1.fifo = x.fifo ++ gone.map marker ∧
      r.2 = cs ||| (if gone.any (fun f => decide (f.kind = .triggered)) then PortCond.lineLost.bit else 0) ∧
      (x.mode ≠ .oneShot → r.1.mode = x.mode ∧ r.1.target = x.target) ∧
      (gone = [] → x.mode = .oneShot → e.line = 0 →
        (x.target = .armed → r.1.mode = .oneShot ∧ r.1.target = .panel e.seq) ∧
        (∀ q : Word16, x.target = .panel q → q ≠ e.seq → r.1.mode = .off ∧ r.1.target = .absent)) ∧
      u.1.trigSent = some (triggerWord e.lineTag e.phase) ∧
      (x.stream ≠ .dark → x.stream ≠ .noise → u.1.outstanding = r.1.outstanding ∧ u.1.fifo = r.1.fifo ∧ u.2 = r.2) ∧
      (x.stream = .dark ∨ x.stream = .noise → u.1.outstanding = [] ∧
        u.1.fifo = r.1.fifo ++ r.1.outstanding.map marker))

/-- A Violation on a port with a signal discards the packet being assembled, zeroes the fill run, raises the noise count up
to 16 and lowers the noise monitor by one down to zero, raising NoiseThreshold as it reaches zero; the port goes to Noise at
a count of 16 and from Idle or Active to Unknown below it (R53, R56). Entry into Noise raises EnteredNoise and StateChange,
makes Noise the last known state, declares the outstanding list lost, oldest first, with LineLost where an entry was
Triggered, and raises the fault CameraLoss exactly when the port is in the port set of its lane's Scanning panel, whose
lane's gate is then as the fault leaves it (`fault`, FaultAnswered's; R54, R55). Entry into Unknown raises StateChange, and
UnknownAfterGood or UnknownAfterBad by the last known state, which stands (R54); it and a Violation without a new state
change nothing else in the port, and raise no fault. A word out of place is a Violation: a Fill or a Start within a packet, a
Data word after 2,048 pixels, an End before them, and a Data word or an End between packets in Idle and Active (R47). -/
def Obligations.ViolationIsNoiseEvent : Prop :=
  ∀ (p : PortId) (s : State) (w : BitVec 24), s.dev.resetLow = false → decodeCamWord w = .violation →
    let x := s.dev.port p
    let n := min 16 (x.noiseCount + 1)
    x.camSd = true →
    ∃ t : State, exec (.violationWord p w) s = .next t ∧
      (t.dev.port p).assembly = none ∧ (t.dev.port p).fillRun = 0 ∧ (t.dev.port p).noiseCount = n ∧
      (t.dev.port p).noiseMonitor.toNat = x.noiseMonitor.toNat - 1 ∧
      (t.dev.port p).stream =
        (match x.stream with
         | .unknown => if n = 16 then .noise else .unknown
         | .idle | .active => if n = 16 then .noise else .unknown
         | .noise => .noise
         | .dark => .dark) ∧
      (x.noiseMonitor = 1 → portConds t.dev p &&& PortCond.noiseThreshold.bit ≠ 0) ∧
      (let threshold : Word16 := if x.noiseMonitor = 1 then PortCond.noiseThreshold.bit else 0
       let counted : Port := { x with
         assembly := none, fillRun := 0, noiseCount := n,
         noiseMonitor := if x.noiseMonitor = 0 then 0 else x.noiseMonitor - 1 }
       let scans : Prop := ∃ c : Context, (s.dev.lane p.lane).scanningCtx = some c ∧
         portIn (s.dev.slot c.slot).hdr.portSet p.loc = true
       let gate := (s.dev.lane p.lane).gate
       (n = 16 → x.stream = .unknown ∨ x.stream = .idle ∨ x.stream = .active →
         (t.dev.port p).lastKnown = .noise ∧ (t.dev.port p).outstanding = [] ∧ (t.dev.port p).held = x.held ∧
         (t.dev.port p).noiseMonitor = counted.noiseMonitor ∧
         (t.dev.port p).fifo = x.fifo ++ x.outstanding.map (fun e =>
           { lineTag := e.lineTag, phase := e.phase, seq := e.seq, line := e.line, payload := .lost }) ∧
         portConds t.dev p = portConds s.dev p ||| threshold ||| PortCond.stateChange.bit ||| PortCond.enteredNoise.bit |||
           (if x.outstanding.any (fun e => decide (e.kind = .triggered)) then PortCond.lineLost.bit else 0) ∧
         (scans → (t.dev.lane p.lane).gate = ((s.dev.fault p.lane .cameraLoss).lane p.lane).gate ∧
           (t.dev.lane p.lane).gate.counts.cameraLoss = min 255 (gate.counts.cameraLoss + 1)) ∧
         (¬ scans → (t.dev.lane p.lane).gate = gate)) ∧
       (n < 16 → x.stream = .idle ∨ x.stream = .active →
         t.dev.port p = { counted with stream := .unknown } ∧ (t.dev.lane p.lane).gate = gate ∧
         portConds t.dev p = portConds s.dev p ||| threshold ||| PortCond.stateChange.bit |||
           (match x.lastKnown with
            | .idle | .active => PortCond.unknownAfterGood.bit
            | .dark | .noise => PortCond.unknownAfterBad.bit
            | .never => 0)) ∧
       (x.stream = .noise ∨ x.stream = .dark ∨ (x.stream = .unknown ∧ n < 16) →
         t.dev.port p = counted ∧ (t.dev.lane p.lane).gate = gate ∧
         portConds t.dev p = portConds s.dev p ||| threshold)) ∧
      (∀ (lineTag : Word16) (ph : Phase), x.assembly ≠ none →
        exec (.fillWord p) s = .next t ∧ exec (.startWord p lineTag ph) s = .next t) ∧
      (∀ (a : Assembly) (px : Byte), x.assembly = some a → 2048 ≤ a.received → exec (.dataWord p px) s = .next t) ∧
      (∀ (a : Assembly) (check : Word16), x.assembly = some a → a.received < 2048 →
        exec (.endWord p check) s = .next t) ∧
      (∀ (px : Byte) (check : Word16), x.assembly = none → x.stream = .idle ∨ x.stream = .active →
        exec (.dataWord p px) s = .next t ∧ exec (.endWord p check) s = .next t)

/-- Configure Port and Set Injection within their ranges: the port's thresholds and monitors, or its mode, number and
target, and a Done reply; nothing else changes. Outside their ranges: RefusedRange and nothing else (R57, R65). -/
def Obligations.PortOrdersAnswered : Prop :=
  ∀ (tag : Byte) (p : PortId) (s : State), Taken s →
    let x := s.dev.port p
    (∀ noise check : Byte,
      exec (.configurePort tag (portByte p) noise check) s =
        if noise = 0 ∨ check = 0 then answers s s.dev tag 0x30 .refusedRange []
        else answers s (withPort s.dev p { x with noiseThreshold := noise, checkThreshold := check,
                                                  noiseMonitor := noise, checkMonitor := check }) tag 0x30 .done []) ∧
    (∀ (mode : Byte) (m : InjectionMode) (n : Word16), injectionModeOf mode = some m →
      exec (.setInjection tag (portByte p) mode n) s =
        if (m = .oneShot ∧ n = 65535) ∨ (m = .periodic ∧ n = 0) then answers s s.dev tag 0x33 .refusedRange []
        else answers s (withPort s.dev p { x with mode := m, n := n,
                                                  target := if m = .oneShot then .armed else .absent }) tag 0x33 .done [])

/-- Load Pattern and Read Pattern within the ranges of R64: a load in mode Off replaces the pixels from the offset on, in
another mode it is refused with RefusedState; a read returns the pixels in column order behind their count; Read Port
returns the port record, the fields of R68 in their order, lists with their counts before them (R64, R68, R187; the count and
details of the record's layout by logs 18 and 36). -/
def Obligations.PatternOrdersAnswered : Prop :=
  ∀ (tag : Byte) (p : PortId) (offset count : Word16) (s : State), Taken s →
    let x := s.dev.port p
    exec (.readPort tag (portByte p)) s = answers s s.dev tag 0x34 .done (portRecord s.dev p) ∧
    (let one (b : Bool) : Byte := if b then 1 else 0
     portRecord s.dev p =
       [portByte p, one (s.dev.portActive p), BitVec.ofNat 8 (streamCode x.stream),
        BitVec.ofNat 8 (lastKnownCode x.lastKnown)] ++ be 2 x.fillRun ++ be 2 x.noiseCount ++
       [one x.assembly.isSome, x.noiseMonitor, x.checkMonitor, x.noiseThreshold, x.checkThreshold] ++
       be 2 x.outstanding.length ++
       x.outstanding.flatMap (fun e => be 2 e.lineTag.toNat ++
         [e.phase.code, if e.kind = .triggered then 0 else 1] ++ be 2 e.seq.toNat ++ be 2 e.line) ++
       be 2 x.held.length ++
       (match x.held with
        | [] => [0, 0, 0, 0]
        | e :: _ => [1] ++ be 2 e.lineTag.toNat ++ [e.phase.code]) ++
       be 2 (x.fifo.filter Item.isPacket).length ++ be 2 (x.fifo.filter (fun y => !y.isPacket)).length ++
       [BitVec.ofNat 8 (injectionModeCode x.mode)] ++ be 2 x.n.toNat ++
       (match x.target with
        | .absent => [0, 0, 0, 0]
        | .armed => [1, 0, 0, 0]
        | .panel q => [2, 1] ++ be 2 q.toNat)) ∧
    (offset.toNat ≤ 2047 → 1 ≤ count.toNat → count.toNat ≤ 256 → offset.toNat + count.toNat ≤ 2048 →
      exec (.readPattern tag (portByte p) offset count) s =
        answers s s.dev tag 0x32 .done
          (be 2 count.toNat ++ (List.range count.toNat).map (fun i => x.pattern.read (offset.toNat + i))) ∧
      ∀ pixels : List Byte, pixels.length = count.toNat →
        (x.mode = .off →
          exec (.loadPattern tag (portByte p) offset count pixels) s =
            answers s (withPort s.dev p { x with pattern := x.pattern.writeList offset.toNat pixels }) tag 0x31
              .done []) ∧
        (x.mode ≠ .off →
          exec (.loadPattern tag (portByte p) offset count pixels) s = answers s s.dev tag 0x31 .refusedState []))

/-- Every step keeps this: every pattern line and every crop plane has its one canonical form (the model's own, log 19). And
from a state with ordered lanes and Sealed referenced slots (LanesStayOrdered and ReferencedSlotsStaySealed keep both), in
which no live context bears the number that its lane's next panel gets (so every step keeps this until the sequence counter
has wrapped round to a context still live, log 34), every step keeps R98 and R99: the joint count of a live panel equals its
joints not yet scheduled, plus its windows in flight, plus its Pass, Marginal, Defect and Unjudged counts; and each of the 48
crop slots is Free, Capturing for exactly one window in an open list, the close queue or under evaluation, or Held for
exactly one place of the crop queue. `JointsAccounted` and `CropsAgree` spell them with what they rest on. -/
def Obligations.PixelsStayCanonical : Prop :=
  KeptByStep PixelsCanonical ∧
  (∀ (d : Device) (l : LaneId) (c : Context), JointsAccounted d → c ∈ (d.lane l).live →
    (d.slot c.slot).hdr.jointCount.toNat = ((d.slot c.slot).hdr.jointCount.toNat - c.pointer) +
      (d.windowsInFlight.filter (fun w => decide (w.lane = l ∧ w.seq = c.seq))).length +
      (c.pass + c.marginal + c.defect + c.unjudged)) ∧
  ∀ s t : State, LanesOrdered s.dev → ReferencedSealed s.dev → NumbersFresh s.dev → JointsAccounted s.dev →
    CropsAgree s.dev → step s = .next t → JointsAccounted t.dev ∧ CropsAgree t.dev

/-- Every step keeps this: an outstanding list holds at most 16 entries, a port FIFO at most 4 packets, an open list at most
512 windows and a gate queue at most 4 entries (R59, R62, R83, R149). -/
def Obligations.LanesAndPortsStayWithin : Prop := KeptByStep PortsWithin ∧ KeptByStep LanesWithin

/-! ## Lanes -/

/-- Enable Lane and Arm Lane in every lane state: their effect with a Done reply, or RefusedState, and nothing else (R45,
R127, R128, R130). -/
def Obligations.LaneOrdersAnswered : Prop :=
  ∀ (tag : Byte) (l : LaneId) (s : State), Taken s →
    let L := s.dev.lane l
    (L.mode = .off →
      exec (.enableLane tag (laneByte l)) s =
        answers s (withLane s.dev l { L with mode := .standby, motion := Motion.zero, nextSeq := 0, idleLeft := none })
          tag 0x50 .done [] ∧
      exec (.armLane tag (laneByte l)) s = answers s s.dev tag 0x51 .refusedState []) ∧
    (L.mode ≠ .off → exec (.enableLane tag (laneByte l)) s = answers s s.dev tag 0x50 .refusedState []) ∧
    (L.mode = .standby → L.settings.warmupTime ≠ 0 →
      exec (.armLane tag (laneByte l)) s =
        answers s (withLane s.dev l { L with
          mode := .warming, light := .warming, warmupLeft := some (L.settings.warmupTime.toNat * 1000) })
          tag 0x51 .done []) ∧
    (L.mode = .standby → L.settings.warmupTime = 0 →
      exec (.armLane tag (laneByte l)) s =
        answers s (withLane s.dev l { L with
          mode := .ready, light := .ready, warmupLeft := none,
          idleLeft := if L.settings.idleTimeout ≠ 0 ∧ L.oldestWaiting = none
                      then some (L.settings.idleTimeout.toNat * 1000000) else L.idleLeft }) tag 0x51 .done []) ∧
    (L.mode = .ready → L.idleLeft.isSome = true →
      exec (.armLane tag (laneByte l)) s =
        answers s (withLane s.dev l { L with idleLeft := some (L.settings.idleTimeout.toNat * 1000000) }) tag 0x51
          .done []) ∧
    ((L.mode = .ready ∧ L.idleLeft = none) ∨ L.mode = .warming ∨ L.mode = .scanning →
      exec (.armLane tag (laneByte l)) s = answers s s.dev tag 0x51 .done [])

/-- Disable Lane in every lane state: a next state, given whole. The lane is Off with everything it worked on gone and what
R144 lists kept; its ports' outstanding lists, held skips and FIFOs are empty, and a OneShot target that names a panel is
armed again; its crop slots are Free with their pixels standing and leave the crop queue (R102); its records leave the close
queue, the waiting order, the evaluation and the retire order, and the other lane's keep their places and their order (R104,
R123, R144); the places freed in the close queue go to the other lane's waiting windows, and with none waiting nothing more
moves (R97; `refillClose` is ItemTakeServesPort's). The condition sets of the lane and of its two ports have every condition
cleared but the NoiseThreshold and CheckThreshold that a monitor at zero raises again in the same order, no snapshot, and
their masks and notice marks kept (R56, R183; notices judged once, log 17). The queued reports stand, and one Done reply
joins (R144); the stall timer's condition is judged once, at the end of the event, so that a running timer counts on where
the last queued crops leave and the reply joins, which is the model's choice (log 38). -/
def Obligations.DisableLaneDiscards : Prop :=
  ∀ (tag : Byte) (l : LaneId) (s : State), Taken s →
    let L := s.dev.lane l
    let emptied (p : Port) : Port := { p with
      outstanding := [], held := [], fifo := [],
      target := match p.target with
        | .panel _ => .armed
        | .armed => .armed
        | .absent => .absent }
    let K : Lane := { L with
      mode := .off, light := .off, warmupLeft := none, idleLeft := none, strobe := Strobe.rest,
      motion := { L.motion with nextLine := none }, reg := none, openList := [], live := [], active := none,
      pendingRecipe := none, resolved := { p0 := none, p1 := none }, lastServed := .p1,
      ports := { p0 := emptied L.ports.p0, p1 := emptied L.ports.p1 },
      gate := { L.gate with queue := [], divert := .review, forced := .none, hold := false,
                            seen := Gate.atReset.seen } }
    let owned (c : CropSlot) : Bool := c.owner.any (fun o => decide (o.lane = l))
    let kept : Device := { withLane s.dev l K with
      crops := s.dev.crops.map (fun c => if owned c then { c with state := .free, owner := none } else c),
      cropQueue := s.dev.cropQueue.filter (fun i => !(s.dev.crops[i]?).any owned),
      retireOrder := s.dev.retireOrder.filter (fun r => decide (r.1 ≠ l)),
      waiting := s.dev.waiting.filter (fun k => decide (k.lane ≠ l)),
      closeQueue := s.dev.closeQueue.filter (fun w => decide (w.lane ≠ l)),
      evaluation := s.dev.evaluation.filter (fun w => decide (w.lane ≠ l)) }
    let cleared (u : CondUnit) (i : SetId) (standing : Word16) : CondUnit :=
      u.set i { u.get i with raised := standing, snapshot := none }
    let standing (p : Port) : Word16 :=
      (if p.noiseMonitor = 0 then PortCond.noiseThreshold.bit else 0) |||
        (if p.checkMonitor = 0 then PortCond.checkThreshold.bit else 0)
    let conds := cleared (cleared (cleared s.dev.cond (.lane l) 0) (.port ⟨l, .p0⟩) (standing L.ports.p0))
      (.port ⟨l, .p1⟩) (standing L.ports.p1)
    exec (.disableLane tag (laneByte l)) s =
      answers s { kept.refillClose with cond := s.dev.cond.settle conds } tag 0x52 .done [] ∧
    ((∀ k ∈ s.dev.waiting, k.lane = l) → kept.refillClose = kept)

/-- Every step keeps this: a lane's live contexts have different numbers, the lane is Scanning exactly while one of them is
and at most one is, each lane timer runs only in its own lane state, and the retire order names each context at most once
and only Retiring ones (R129, R130, R132, R142). -/
def Obligations.LanesStayOrdered : Prop := KeptByStep LanesOrdered

/-- The read orders that name a lane or nothing: a Done reply with the record as it stands when the order is taken, and
nothing else changes (R105, R125, R146, R147, R160, R172). Each record holds the fields of its rule in that rule's order: a
number is sent most significant byte first, a signed one in two's complement, a mark and a named value's code in one byte, an
item that may be absent behind a presence byte with zeros where it is absent, a list behind its count (R187; details of the
records' layout by logs 18 and 36). Identify gives each capacity in 2 bytes and a ranged one by its upper bound, the model's
choice (log 36). The time left on a timer is given in whole units, rounded up: the rounding is the model's choice (log 9),
for R45, R130 and R171 do not say how a part of a unit shows. A named value's code is its position in the list that defines
it, from 0, but for the phases, the context states and the causes, from 1 (chapter 11, opening; Tables 11-1, 11-4, 11-5). -/
def Obligations.ReadOrdersAnswered : Prop :=
  ∀ (tag : Byte) (l : LaneId) (n : Fin 4) (s : State), Taken s →
    exec (.readLane tag (laneByte l)) s = answers s s.dev tag 0x53 .done (laneRecord s.dev l) ∧
    exec (.readPanel tag (laneByte l) (slotByte n)) s = answers s s.dev tag 0x54 .done (panelRecord s.dev l n) ∧
    exec (.readGate tag (laneByte l)) s = answers s s.dev tag 0x63 .done (gateRecord (s.dev.lane l).gate) ∧
    exec (.readJudgement tag) s = answers s s.dev tag 0x49 .done (judgementRecord s.dev) ∧
    exec (.readTrunk tag) s = answers s s.dev tag 0x73 .done (trunkRecord s.dev) ∧
    exec (.identify tag) s = answers s s.dev tag 0x70 .done identifyRecord ∧
    (∀ (start : Word16) (count : Byte), start.toNat ≤ 511 → 1 ≤ count.toNat → count.toNat ≤ 16 →
      exec (.readWindows tag (laneByte l) start count) s =
        answers s s.dev tag 0x40 .done (windowsRecord s.dev l start.toNat count.toNat)) ∧
    (let d := s.dev
     let L := d.lane l
     let g := L.gate
     let m := L.motion
     let u := d.trunk
     let code (x : Nat) : Byte := BitVec.ofNat 8 x
     let one (b : Bool) : Byte := if b then 1 else 0
     let small (x : Option (Fin 4)) : List Byte :=
       match x with
       | none => [0, 0]
       | some i => [1, slotByte i]
     let wide (x : Option Word32) : List Byte :=
       match x with
       | none => [0, 0, 0, 0, 0]
       | some y => 1 :: be 4 y.toNat
     let time (unit : Nat) (x : Option Nat) : List Byte :=
       match x with
       | none => [0, 0, 0]
       | some us => 1 :: be 2 ((us + (unit - 1)) / unit)
     let closing (k : LaneId) : Nat := (d.closeQueue.filter (fun w => decide (w.lane = k))).length
     let freeSlots := (d.crops.filter (fun x => decide (x.state = .free))).length
     let modes (k : LaneId) : List Byte :=
       [code (reportModeCode (d.lane k).reportMode), code (reportDetailCode (d.lane k).reportDetail)]
     let kinds : List FaultKind := [.cameraLoss, .motionFault, .panelOverrun, .warmupLate, .trunkStall, .verdictLoss]
     let causes (k : CauseCounts) : List Byte := be 2 k.registration ++ be 2 k.windowOverflow ++ be 2 k.aborted ++
       be 2 k.dataLoss ++ be 2 k.warmup ++ be 2 k.overlap
     gateRecord g =
       [code (divertCode g.divert), code (gateModeCode g.mode), code (overrideCode g.forced), one g.hold,
        code (kinds.zipIdx.map (fun k => if g.seen.get k.1 then 2 ^ k.2 else 0)).sum] ++ be 2 g.queue.length ++
       g.queue.flatMap (fun e => be 4 e.pos.toNat ++ be 2 e.seq.toNat ++
         (match e.kind with
          | .linked k => [0, 1, slotByte k]
          | .fixedReview => [1, 0, 0])) ++
       kinds.flatMap (fun k => [code (overrideCode (g.table.get k).override), one (g.table.get k).hold]) ++
       kinds.flatMap (fun k => be 2 (g.counts.get k)) ∧
     judgementRecord d =
       be 2 d.closeQueue.length ++ be 2 (closing .a) ++ be 2 (closing .b) ++
       (match d.evaluation with
        | none => [0, 0, 0, 0, 0, 0]
        | some w => [1, laneByte w.lane] ++ be 2 w.seq.toNat ++ be 2 w.joint) ++
       be 2 u.verdicts.length ++ be 2 d.cropQueue.length ++ be 2 freeSlots ++ modes .a ++ modes .b ∧
     trunkRecord d =
       [code (linkCode u.link)] ++ be 2 u.syncRun ++ be 2 u.credit ++ be 2 u.inbound.length ++ be 2 u.replies.length ++
       [one d.validation.isSome] ++ be 2 d.cond.noticeQueue.length ++ d.cond.noticeQueue.map setByte ++
       be 2 u.panelReports.length ++ be 2 u.verdicts.length ++ be 2 d.cropQueue.length ++
       (match u.frame with
        | none => [0, 0]
        | some f => [1, frameKindCode f.kind]) ++
       be 2 u.stallLimit.toNat ++ time 1000 u.stallLeft ∧
     identifyRecord = be 2 21079 ++ be 2 4410 ++ [1] ++
       ([4, 8192, 4, 64, 2, 4, 4, 4, 512, 128, 1024, 8, 48, 16, 16, 16] : List Nat).flatMap (be 2) ∧
     laneRecord d l =
       [code (laneModeCode L.mode)] ++ time 1000000 L.idleLeft ++ [code (illuminationCode L.light)] ++
       time 1000 L.warmupLeft ++
       (be 2 L.settings.leadIn.toNat ++ be 2 L.settings.edgeGuard.toNat ++ be 2 L.settings.reverseLimit.toNat ++
         be 3 L.settings.gateDistance.toNat ++ be 2 L.settings.warmupTime.toNat ++
         [L.settings.idleTimeout, L.settings.settleReload]) ++
       be 4 m.h.toNat ++ be 2 m.d.toNat ++ be 4 (m.h - m.d.setWidth 32).toNat ++ wide m.lastEdge ++ wide m.nextLine ++
       be 2 m.tagCounter.toNat ++
       (match L.strobe.state with
        | .idle => [0, 0, 0]
        | .flash p => [1, 1, p.code]
        | .settle p => [2, 1, p.code]) ++
       (match L.reg with
        | none => [0, 0, 0]
        | some r => 1 :: be 2 r.seq.toNat) ++
       (let accumulators : List Accumulator :=
          match L.reg with
          | none => []
          | some r => r.accumulators
        be 2 accumulators.length ++ accumulators.flatMap (fun a =>
          be 2 a.index ++ [one a.result.isSome, one a.lost, one a.injected] ++ be 2 a.area ++
          (match a.result with
           | none => [0, 0, 0, 0]
           | some (.found dx dy) => [1, 1] ++ signed dx ++ signed dy
           | some .notFound => [2, 0, 0, 0]
           | some .lost => [3, 0, 0, 0]))) ++
       [code (localPortCode L.lastServed)] ++
       [LocalPort.p0, .p1].flatMap (fun p =>
         match L.resolved.get p with
         | none => List.replicate 8 0
         | some r => [1] ++ be 2 r.lineTag.toNat ++ [r.phase.code] ++ be 2 r.seq.toNat ++ be 2 r.line) ++
       small L.active ++ small L.pendingRecipe ++ be 2 L.nextSeq.toNat ++
       ([0, 1, 2, 3] : List (Fin 4)).flatMap (fun k =>
         match L.ctx k with
         | none => [0, 0, 0, 0]
         | some c => [1, code (ctxStateCode c.state)] ++ be 2 c.seq.toNat) ++
       be 2 (d.retireOrder.filter (fun r => decide (r.1 = l))).length ++ modes l ++
       [code (gateModeCode g.mode), code (overrideCode g.forced), one g.hold, code (divertCode g.divert)] ++
       be 2 g.queue.length ∧
     panelRecord d l n =
       (match L.ctx n with
        | none => [slotByte n, 1]
        | some c =>
          [slotByte n, 0] ++ be 2 c.seq.toNat ++ [code (ctxStateCode c.state), slotByte c.slot] ++ be 4 c.recipeId.toNat ++
          be 4 c.edge.toNat ++ be 4 c.scanStart.toNat ++
          (match c.firstTag with
           | none => [0, 0, 0]
           | some x => 1 :: be 2 x.toNat) ++
          (match c.reg.state with
           | .pending => [0, 0, 0, 0, 0, 0]
           | .found dx dy => [1, 1] ++ signed dx ++ signed dy ++ [0, 0]
           | .failed x => [2, 0, 0, 0, 1, code (regCauseCode x)]) ++
          [one c.reg.injected] ++ be 2 c.reg.detail.length ++ c.reg.detail.flatMap (fun e => be 2 e.1 ++
            (match e.2 with
             | .found a dx dy => [0, 1] ++ be 2 a ++ [1] ++ signed dx ++ signed dy
             | .notFound a => [1, 1] ++ be 2 a ++ [0, 0, 0]
             | .lost => [2, 0, 0, 0, 0, 0, 0]
             | .notClosed => [3, 0, 0, 0, 0, 0, 0])) ++
          be 2 c.pointer ++ be 2 c.opened ++ be 2 c.pass ++ be 2 c.marginal ++ be 2 c.defect ++
          be 2 (c.causes.registration + c.causes.windowOverflow + c.causes.aborted + c.causes.dataLoss + c.causes.warmup +
            c.causes.overlap) ++
          causes c.causes ++ be 2 c.injected ++ be 2 c.verdictsLost ++ be 2 c.cropsMissed ++
          [code (abortCode c.abort), code (decisionCode c.decision), code (gateActionCode c.gateAction), one c.late] ++
          be 2 (d.windowsInFlight.filter (fun w => decide (w.lane = l ∧ w.seq = c.seq))).length) ∧
     ∀ start count : Nat, windowsRecord d l start count =
       be 2 L.openList.length ++ be 2 (L.openList.filter (fun w => w.finished)).length ++
       be 2 (d.waiting.filter (fun k => decide (k.lane = l))).length ++ be 2 d.waiting.length ++
       be 2 d.closeQueue.length ++ be 2 freeSlots ++ be 2 d.cropQueue.length ++
       be 2 ((L.openList.drop start).take count).length ++
       ((L.openList.drop start).take count).flatMap (fun w =>
         [laneByte w.lane] ++ be 2 w.seq.toNat ++ be 2 w.joint ++ [portByte ⟨w.lane, w.port⟩] ++ be 2 w.firstCol ++
         be 2 w.lastCol ++ be 2 w.firstLine ++ be 2 w.lastLine ++ [w.phases, ((phasesOf w.phases).getLastD .top).code] ++
         be 2 w.rule ++ be 2 (phasesOf w.phases).length ++ (phasesOf w.phases).flatMap (fun p =>
           be 2 (w.sums.get p).n ++ be 2 (w.sums.get p).b ++ be 3 (w.sums.get p).s ++ be 2 (w.sums.get p).r) ++
         [one w.loss, one w.injected] ++
         (match w.crop with
          | none => [0, 0]
          | some i => [1, code i]) ++
         [one w.finished] ++
         (match d.waiting.findIdx? (fun k => decide (k = w.key)) with
          | none => [0, 0, 0]
          | some i => 1 :: be 2 i))) ∧
    (∀ k x i : Nat, (be k x).length = k ∧ (i < k → (be k x)[i]? = some (BitVec.ofNat 8 (x / 256 ^ (k - 1 - i))))) ∧
    (∀ x : Int, -128 ≤ x → x ≤ 127 → ∃ b : Byte, signed x = [b] ∧ b.toInt = x) ∧
    ([LaneId.a, .b].map laneCode = [0, 1] ∧ [LocalPort.p0, .p1].map localPortCode = [0, 1] ∧
      [Phase.top, .ring, .axial].map Phase.code = [1, 2, 3] ∧
      ([⟨.a, .p0⟩, ⟨.a, .p1⟩, ⟨.b, .p0⟩, ⟨.b, .p1⟩] : List PortId).map portByte = [0, 1, 2, 3] ∧
      [SetId.device, .lane .a, .lane .b, .port ⟨.a, .p0⟩, .port ⟨.a, .p1⟩, .port ⟨.b, .p0⟩, .port ⟨.b, .p1⟩].map setByte =
        [0, 1, 2, 3, 4, 5, 6] ∧
      [SlotState.empty, .loading, .validating, .sealed].map slotStateCode = [0, 1, 2, 3] ∧
      [FailTable.header, .fiducial, .rule, .joint].map failTableCode = [0, 1, 2, 3] ∧
      [Check.unwritten, .panelLength, .zoneSize, .zoneFit, .linePitch, .phaseSet, .flashTime, .portSet, .jointCount,
        .fiducialCount, .ruleCount, .spreadTolerance].map (checkCode .header) = (List.range 12).map (· + 1) ∧
      [Check.unwritten, .port, .phase, .boxSize, .boxPlace, .band, .area].map (checkCode .fiducial) =
        (List.range 7).map (· + 1) ∧
      [Check.unwritten, .usedMark, .noPhase, .margins, .band, .fill, .span, .mean].map (checkCode .rule) =
        (List.range 8).map (· + 1) ∧
      [Check.unwritten, .component, .port, .size, .columns, .lines, .order, .ruleIndex, .phases, .ruleAgreement,
        .crop].map (checkCode .joint) = (List.range 11).map (· + 1) ∧
      [Stream.unknown, .dark, .idle, .active, .noise].map streamCode = List.range 5 ∧
      [LastKnown.never, .dark, .idle, .active, .noise].map lastKnownCode = List.range 5 ∧
      [InjectionMode.off, .oneShot, .periodic, .continuous].map injectionModeCode = List.range 4 ∧
      [LaneMode.off, .standby, .warming, .ready, .scanning].map laneModeCode = List.range 5 ∧
      [Illumination.off, .warming, .ready].map illuminationCode = List.range 3 ∧
      [CtxState.waiting, .scanning, .settling, .passed, .decided, .retiring].map ctxStateCode = [1, 2, 3, 4, 5, 6] ∧
      [AbortCause.none, .warmup, .overlap, .motion, .registration].map abortCode = List.range 5 ∧
      [none, some Decision.accept, some .reject, some .review].map decisionCode = List.range 4 ∧
      [Decision.accept, .reject, .review].map divertCode = List.range 3 ∧
      [GateAction.pending, .applied .accept, .applied .reject, .applied .review, .noEntry].map gateActionCode =
        List.range 5 ∧
      [GateMode.follow, .acceptAll, .reviewAll, .rejectAll].map gateModeCode = List.range 4 ∧
      [Override.none, .reviewAll, .rejectAll].map overrideCode = List.range 3 ∧
      [ReportMode.all, .notPass, .defectOnly, .silent].map reportModeCode = List.range 4 ∧
      [ReportDetail.brief, .full].map reportDetailCode = List.range 2 ∧
      [Verdict.pass, .marginal, .defect, .unjudged].map verdictCode = List.range 4 ∧
      [Cause.bridge, .nonWetting, .insufficient, .excess].map causeCode = [1, 2, 3, 4] ∧
      [Level.clear, .marginal, .defect].map levelCode = List.range 3 ∧
      [RegCause.notFound, .spread, .loss, .late].map regCauseCode = [1, 2, 3, 4] ∧
      [Link.down, .training, .up].map linkCode = List.range 3 ∧
      [ReplyCode.done, .refusedState, .refusedBusy, .refusedRange, .refusedReferenced, .refusedForced, .unknownOrder,
        .aborted, .invalid].map replyCodeCode = List.range 9 ∧
      [FrameKind.reply, .notice, .panelReport, .verdictReport, .cropReport].map frameKindCode =
        [0x10, 0x11, 0x12, 0x13, 0x14])

/-! ## Measurement and judgement -/

/-- The measurement engine takes one item: with both FIFOs filled, from the port the last-served mark does not name; with one
filled, from that one; the mark then names the port, the item has left its FIFO, and the port's resolved mark is the item's
place, while the other port stands as it was. With both FIFOs empty nothing changes (R88, R94). Every Accumulating window of
the item's panel and port, with its line in the window's lines and its phase among the phases needed, takes it (R90); with no
panel of the item under registration that is all it does to the open list but for the closes. With the item's panel under
registration the registration unit takes the item first (`registerItem`, RegistrationResult's) and the windows then take it
from the state that leaves (R71, R78, R89). A window closes when the item is its last line in its last phase, whether or not
it took it (R95), becomes Finished, and is offered to the close queue in open-list order: with no window waiting and a place
free it leaves its open list and joins the tail with every field, otherwise it keeps its place, joins the waiting order, and
CloseQueueFull is raised (R96). Freed places of the close queue go to the waiting windows, oldest first, one after the other
(R97). A packet taken by a window with a crop slot is copied into the slot's plane of the phase, at the row of the item's
line less the window's first line (R99, R101). -/
def Obligations.ItemTakeServesPort : Prop :=
  (∀ (l : LaneId) (s : State), s.dev.resetLow = false →
    let L := s.dev.lane l
    (L.ports.p0.fifo = [] → L.ports.p1.fifo = [] → exec (.itemTake l) s = becomes s s.dev) ∧
    (∀ (p q : LocalPort) (x : Item) (rest : List Item), q ≠ p → (L.ports.get p).fifo = x :: rest →
      ((L.ports.get q).fifo = [] ∨ L.lastServed = q) →
      (∃ t : State, exec (.itemTake l) s = .next t ∧
        (t.dev.lane l).lastServed = p ∧ (t.dev.port ⟨l, p⟩).fifo = rest ∧
        (t.dev.lane l).resolved.get p = some { lineTag := x.lineTag, phase := x.phase, seq := x.seq, line := x.line } ∧
        (t.dev.lane l).resolved.get q = L.resolved.get q ∧ t.dev.port ⟨l, q⟩ = s.dev.port ⟨l, q⟩) ∧
      ((∀ r : Registration, L.reg = some r → r.seq ≠ x.seq) →
        let takes (w : Window) : Bool := decide (w.finished = false ∧ w.seq = x.seq ∧ w.port = p ∧ w.firstLine ≤ x.line ∧
          x.line ≤ w.lastLine ∧ phaseIn w.phases x.phase = true)
        let closes (w : Window) : Bool := decide (w.finished = false ∧ w.seq = x.seq ∧ w.port = p ∧ x.line = w.lastLine ∧
          (phasesOf w.phases).getLastD .top = x.phase)
        let fed (w : Window) : Window := if takes w then w.feed (s.dev.ruleOf w) x else w
        let after (w : Window) : Window := if closes w then { fed w with finished := true } else fed w
        let read : Device := withLane s.dev l { L with
          ports := L.ports.set p { L.ports.get p with fifo := rest }, lastServed := p,
          resolved := L.resolved.set p (some { lineTag := x.lineTag, phase := x.phase, seq := x.seq, line := x.line }),
          openList := L.openList.map after }
        exec (.itemTake l) s =
          becomes s (((L.openList.filter closes).map after).foldl Device.offerClose
            ((L.openList.filter takes).foldl (Device.copyCrop x) read))) ∧
      (∀ r : Registration, L.reg = some r → r.seq = x.seq →
        let d : Device := (withLane s.dev l { L with
          ports := L.ports.set p { L.ports.get p with fifo := rest }, lastServed := p }).registerItem l p x
        let M := d.lane l
        let takes (w : Window) : Bool := decide (w.finished = false ∧ w.seq = x.seq ∧ w.port = p ∧ w.firstLine ≤ x.line ∧
          x.line ≤ w.lastLine ∧ phaseIn w.phases x.phase = true)
        let closes (w : Window) : Bool := decide (w.finished = false ∧ w.seq = x.seq ∧ w.port = p ∧ x.line = w.lastLine ∧
          (phasesOf w.phases).getLastD .top = x.phase)
        let fed (w : Window) : Window := if takes w then w.feed (d.ruleOf w) x else w
        let after (w : Window) : Window := if closes w then { fed w with finished := true } else fed w
        let read : Device := withLane d l { M with
          resolved := M.resolved.set p (some { lineTag := x.lineTag, phase := x.phase, seq := x.seq, line := x.line }),
          openList := M.openList.map after }
        M.openList = L.openList ∧ M.resolved = L.resolved ∧ d.waiting = s.dev.waiting ∧
        exec (.itemTake l) s =
          becomes s (((M.openList.filter closes).map after).foldl Device.offerClose
            ((M.openList.filter takes).foldl (Device.copyCrop x) read))))) ∧
  (∀ (d : Device) (w : Window),
    (d.waiting = [] → d.closeQueue.length < 128 →
      d.offerClose w = { withLane d w.lane { d.lane w.lane with
        openList := (d.lane w.lane).openList.filter (fun v => decide (v.key ≠ w.key)) } with
          closeQueue := d.closeQueue ++ [w] }) ∧
    (d.waiting ≠ [] ∨ 128 ≤ d.closeQueue.length →
      d.offerClose w = ({ d with waiting := d.waiting ++ [w.key] } : Device).raiseDevice .closeQueueFull) ∧
    (∀ (k : WindowKey) (rest : List WindowKey), d.waiting = k :: rest → d.closeQueue.length < 128 →
      (d.lane k.lane).openList.find? (fun v => decide (v.key = k)) = some w →
      d.refillClose = ({ withLane d k.lane { d.lane k.lane with
        openList := (d.lane k.lane).openList.filter (fun v => decide (v.key ≠ k)) } with
          closeQueue := d.closeQueue ++ [w], waiting := rest } : Device).refillClose) ∧
    (d.waiting = [] ∨ 128 ≤ d.closeQueue.length → d.refillClose = d)) ∧
  (∀ (d : Device) (w : Window) (x : Item),
    (w.crop = none ∨ x.payload = .lost → Device.copyCrop x d w = d) ∧
    (∀ (i : Nat) (c : CropSlot) (px : List Byte) (injected : Bool), w.crop = some i → x.payload = .packet px injected →
      d.crops[i]? = some c → c.planes.wf = true → w.firstLine ≤ x.line → w.firstCol ≤ w.lastCol →
      w.lastCol < w.firstCol + 64 → w.lastCol < px.length →
      ∃ planes : Memory, Device.copyCrop x d w = { d with crops := d.crops.set i { c with planes := planes } } ∧
        planes.wf = true ∧
        ∀ (p : Phase) (row col : Nat), row < 64 → col < 64 → x.line < w.firstLine + 64 →
          planes.read (phaseBit p * 4096 + row * 64 + col) =
            if p = x.phase ∧ row = x.line - w.firstLine ∧ col ≤ w.lastCol - w.firstCol then px.getD (w.firstCol + col) 0
            else c.planes.read (phaseBit p * 4096 + row * 64 + col)))

/-- Registration. An item of the panel under registration feeds the open accumulators of its port and phase whose box holds its
line: a packet adds the in-band pixels of the box's columns to the area, their columns to the column sum and the line once
for each to the line sum; a loss marker sets the lost mark; every other item changes nothing. An accumulator closes on its
box's last line; the last to close ends the registration with the combined result (R71 to R75). At panel line Z + 64 a
registration still Pending fails with cause Late, accumulators without a result shown as not closed, and at no other line
(R38, R76). A closing accumulator's result is lost, not found, or found with the centroid's offset (R74). The results
combine into the first case of R75 that applies: Loss, NotFound, Spread, NotFound for an offset beyond 64, Found. The end
of a registration frees the unit and writes the result into the panel's record, with each fiducial's outcome and the injected
mark, which an injected row sets and which adds one to Injected (R75, R79); a failed one counts every joint Unjudged with cause
Registration, leaves none to schedule, writes the abort cause Registration where none is written yet, and raises
RegistrationFailed (R78, R84, R131). Nothing else changes. -/
def Obligations.RegistrationResult : Prop :=
  (∀ (e : FiducialEntry) (a : Accumulator) (p : LocalPort) (x : Item),
    let first : Int := (e.line.toNat : Int) - ((e.height.toNat / 2 : Nat) : Int)
    let left := e.column.toNat - e.width.toNat / 2
    let mine : Prop := a.result = none ∧ localPortOf e.port = some p ∧ phaseOfCode e.phase = some x.phase ∧
      first ≤ x.line ∧ (x.line : Int) < first + e.height.toNat
    let close (b : Accumulator) : Accumulator :=
      if (x.line : Int) = first + e.height.toNat - 1 then { b with result := some (b.close e) } else b
    (¬ mine → a.offer e p x = a) ∧
    (mine → x.payload = .lost → a.offer e p x = close { a with lost := true }) ∧
    (∀ (px : List Byte) (injected : Bool), mine → x.payload = .packet px injected → e.width.toNat / 2 ≤ e.column.toNat →
      left + e.width.toNat ≤ px.length →
      let cols := (List.range e.width.toNat).filter (fun i =>
        decide (e.bandLow.toNat ≤ (px.getD (left + i) 0).toNat ∧ (px.getD (left + i) 0).toNat ≤ e.bandHigh.toNat))
      a.offer e p x = close { a with
        area := a.area + cols.length, columnSum := a.columnSum + (cols.map (fun i => left + i)).sum,
        lineSum := a.lineSum + cols.length * x.line, injected := a.injected || injected })) ∧
  (∀ (d : Device) (l : LaneId) (p : LocalPort) (x : Item),
    ((d.lane l).reg = none → d.registerItem l p x = d) ∧
    (∀ (r : Registration) (c : Context), (d.lane l).reg = some r → (d.lane l).ctx r.ctx = some c →
      let u : Registration := { r with
        accumulators := r.accumulators.map (fun a => a.offer ((d.slot c.slot).fiducial a.index) p x) }
      (x.seq ≠ r.seq → d.registerItem l p x = d) ∧
      (x.seq = r.seq → (∃ a ∈ u.accumulators, a.result = none) →
        d.registerItem l p x = withLane d l { d.lane l with reg := some u }) ∧
      (x.seq = r.seq → (∀ a ∈ u.accumulators, a.result ≠ none) →
        d.registerItem l p x = d.endRegistration l u (combine (d.slot c.slot).hdr u.accumulators)))) ∧
  (∀ (d : Device) (l : LaneId) (c : Context) (r : Registration) (pos : Word32), (d.lane l).reg = some r →
    r.ctx = c.num → (d.lane l).ctx c.num = some c → c.reg.state = .pending →
    let h := (d.slot c.slot).hdr
    let line := c.lineOf (d.lane l).motion.tagCounter
    let t := d.issueLine l c pos
    line + 1 ≠ h.panelLength.toNat →
    (line ≠ h.zone.toNat + 64 → (t.lane l).reg = some r ∧ (t.lane l).ctx c.num = some c) ∧
    (line = h.zone.toNat + 64 → (t.lane l).reg = none ∧
      ∃ k : Context, (t.lane l).ctx c.num = some k ∧ k.reg.state = .failed .late ∧
        k.reg.detail.map (fun x => x.1) = r.accumulators.map (fun a => a.index) ∧
        (∀ a ∈ r.accumulators, a.result = none → (a.index, FidOutcome.notClosed) ∈ k.reg.detail))) ∧
  (∀ (e : FiducialEntry) (a : Accumulator),
    (a.lost = true → a.close e = .lost) ∧
    (a.lost = false → (a.area < e.areaMin.toNat ∨ e.areaMax.toNat < a.area) → a.close e = .notFound) ∧
    (a.lost = false → e.areaMin.toNat ≤ a.area → a.area ≤ e.areaMax.toNat →
      a.close e = .found (((a.columnSum / a.area : Nat) : Int) - e.column.toNat)
        (((a.lineSum / a.area : Nat) : Int) - e.line.toNat))) ∧
  (∀ (h : Header) (as : List Accumulator),
    ((∃ a ∈ as, a.result = some .lost) → combine h as = .failed .loss) ∧
    ((∀ a ∈ as, a.result ≠ some .lost) → (∃ a ∈ as, a.result = some .notFound) → combine h as = .failed .notFound) ∧
    (∀ os : List (Int × Int), as.map (fun a => a.result) = os.map (fun o => some (.found o.1 o.2)) →
      let tol := h.spreadTolerance.toNat
      let dx := Int.tdiv (os.map (fun o => o.1)).sum h.fiducialCount.toNat
      let dy := Int.tdiv (os.map (fun o => o.2)).sum h.fiducialCount.toNat
      let wide := ∃ o ∈ os, ∃ p ∈ os, tol < (o.1 - p.1).natAbs ∨ tol < (o.2 - p.2).natAbs
      let beyond := dx < -64 ∨ 64 < dx ∨ dy < -64 ∨ 64 < dy
      (wide → combine h as = .failed .spread) ∧
      (¬ wide → beyond → combine h as = .failed .notFound) ∧
      (¬ wide → ¬ beyond → combine h as = .found dx dy))) ∧
  (∀ (d : Device) (l : LaneId) (r : Registration) (st : RegState) (c : Context), (d.lane l).ctx r.ctx = some c →
    let t := d.endRegistration l r st
    let L := d.lane l
    let joints := (d.slot c.slot).hdr.jointCount.toNat
    let injected := r.accumulators.any (fun a => a.injected)
    let detail : List (Nat × FidOutcome) := r.accumulators.map (fun a => (a.index,
      match a.result with
      | some (.found dx dy) => .found a.area dx dy
      | some .notFound => .notFound a.area
      | some .lost => .lost
      | none => .notClosed))
    let ended (x : Context) : Context := { x with
      reg := { state := st, detail := detail, injected := injected },
      injected := x.injected + (if injected then 1 else 0) }
    let failed (x : Context) : Context := { ended x with
      causes := { x.causes with registration := x.causes.registration + joints }, pointer := joints,
      abort := if x.abort = .none then .registration else x.abort }
    let after (f : Context → Context) : Device :=
      withLane d l { L with reg := none, live := L.live.map (fun x => if x.num = r.ctx then f x else x) }
    ((∀ x : RegCause, st ≠ .failed x) → t = after ended) ∧
    (∀ x : RegCause, st = .failed x → t = (after failed).raiseLane l .registrationFailed) ∧
    (t.lane l).reg = none ∧
    ∃ k : Context, (t.lane l).ctx r.ctx = some k ∧ k.reg.state = st ∧
      ((∀ x : RegCause, st ≠ .failed x) → k.pointer = c.pointer ∧ k.causes = c.causes ∧ t.cond = d.cond) ∧
      (∀ x : RegCause, st = .failed x →
        k.pointer = joints ∧ k.causes = { c.causes with registration := c.causes.registration + joints } ∧
        (t.cond.get (.lane l)).raised = (d.cond.get (.lane l)).raised ||| LaneCond.registrationFailed.bit))

/-- An issued line reaches, in index order from the schedule pointer, every joint whose start line plus dy is at or below it,
up to the first that is not, while the registration is Found, and schedules them one after the other; while it is Pending or
Failed none; each is opened or counted WindowOverflow (R85). A joint that an issued line reaches: with 512 windows open it is
counted WindowOverflow and no crop slot is asked for; otherwise its window joins the open list behind the windows of other
panels and those of its own with a lower last line, or the same and a lower joint index, and before the next (R83), its place
shifted by the panel's offset, its sums zero and its marks clear, with the Free crop slot of lowest number where it wants a
crop and one is Free, and CropsMissed counted where none is (R85 to R87, R99, R100). -/
def Obligations.JointIsScheduled : Prop :=
  (∀ (d : Device) (l : LaneId) (n : Fin 4) (line fuel : Nat) (c : Context), (d.lane l).ctx n = some c →
    let t := Device.openJoints l n line fuel d
    let s := d.slot c.slot
    ((∀ dx dy : Int, c.reg.state ≠ .found dx dy) → t = d) ∧
    (∀ dx dy : Int, c.reg.state = .found dx dy → c.pointer ≤ s.hdr.jointCount.toNat →
      s.hdr.jointCount.toNat ≤ c.pointer + fuel →
      ∃ k : Context, (t.lane l).ctx n = some k ∧ c.pointer ≤ k.pointer ∧ k.pointer ≤ s.hdr.jointCount.toNat ∧
        (∀ i : Nat, c.pointer ≤ i → i < k.pointer → ((s.joint i).y.toNat : Int) + dy ≤ line) ∧
        (k.pointer < s.hdr.jointCount.toNat → line < ((s.joint k.pointer).y.toNat : Int) + dy) ∧
        k.opened + k.causes.windowOverflow + c.pointer = c.opened + c.causes.windowOverflow + k.pointer)) ∧
  (∀ (d : Device) (l : LaneId) (n : Fin 4) (line fuel : Nat) (c : Context) (dx dy : Int), (d.lane l).ctx n = some c →
    c.reg.state = .found dx dy →
    let s := d.slot c.slot
    let e := s.joint c.pointer
    let reached : Prop := c.pointer < s.hdr.jointCount.toNat ∧ (e.y.toNat : Int) + dy ≤ line
    (reached → Device.openJoints l n line (fuel + 1) d = Device.openJoints l n line fuel (d.scheduleJoint l c e dx dy)) ∧
    (¬ reached → Device.openJoints l n line (fuel + 1) d = d)) ∧
  (∀ (d : Device) (l : LaneId) (c : Context) (e : JointEntry) (dx dy : Int), (d.lane l).ctx c.num = some c →
    let t := d.scheduleJoint l c e dx dy
    let col := ((e.x.toNat : Int) + dx).toNat
    let line := ((e.y.toNat : Int) + dy).toNat
    let counted (missed : Nat) : Context :=
      { c with opened := c.opened + 1, pointer := c.pointer + 1, cropsMissed := c.cropsMissed + missed }
    (512 ≤ (d.lane l).openList.length →
      (t.lane l).openList = (d.lane l).openList ∧ t.crops = d.crops ∧
      (t.lane l).ctx c.num = some { c with
        causes := { c.causes with windowOverflow := c.causes.windowOverflow + 1 }, pointer := c.pointer + 1 } ∧
      (t.cond.get (.lane l)).raised = (d.cond.get (.lane l)).raised ||| LaneCond.windowOverflow.bit) ∧
    ((d.lane l).openList.length < 512 →
      ∃ (w : Window) (before after : List Window), (t.lane l).openList = before ++ w :: after ∧
        (d.lane l).openList = before ++ after ∧
        (∀ v ∈ before, v.seq ≠ w.seq ∨ v.lastLine < w.lastLine ∨ (v.lastLine = w.lastLine ∧ v.joint < w.joint)) ∧
        (∀ (v : Window) (rest : List Window), after = v :: rest →
          v.seq = w.seq ∧ (w.lastLine < v.lastLine ∨ (w.lastLine = v.lastLine ∧ w.joint ≤ v.joint))) ∧
        w.lane = l ∧ w.seq = c.seq ∧ w.joint = c.pointer ∧ w.firstCol = col ∧ w.lastCol = col + e.width.toNat - 1 ∧
        w.firstLine = line ∧ w.lastLine = line + e.height.toNat - 1 ∧ w.phases = e.phases ∧ w.rule = e.rule.toNat ∧
        w.port = (if e.port = 1 then .p1 else .p0) ∧
        w.sums = { top := .zero, ring := .zero, axial := .zero } ∧ w.loss = false ∧ w.injected = false ∧
        w.finished = false ∧
        (e.crop ≠ 1 → w.crop = none ∧ t.crops = d.crops ∧ (t.lane l).ctx c.num = some (counted 0)) ∧
        (e.crop = 1 → (∀ x ∈ d.crops, x.state ≠ .free) →
          w.crop = none ∧ t.crops = d.crops ∧ (t.lane l).ctx c.num = some (counted 1)) ∧
        (∀ (i : Nat) (x : CropSlot), e.crop = 1 → d.crops[i]? = some x → x.state = .free →
          (∀ (j : Nat) (y : CropSlot), j < i → d.crops[j]? = some y → y.state ≠ .free) →
          w.crop = some i ∧ (t.lane l).ctx c.num = some (counted 0) ∧
            t.crops = d.crops.set i { state := .capturing, owner := some w.owner, planes := [] })))

/-- A packet taken by a window adds one row to the sums of its phase: N rises by the width, B by the in-band pixels, S by
the levels, and R becomes the greater of R and the longest run of consecutive in-band pixels; `run` is any stretch of
in-band pixels of the row. The other phases stand (R91). A loss marker sets the loss mark and changes no sum (R92). -/
def Obligations.RowSums : Prop :=
  ∀ (r : RuleEntry) (w : Window) (x : Item),
    (∀ (px : List Byte) (injected : Bool), x.payload = .packet px injected → w.firstCol ≤ w.lastCol →
      w.lastCol < px.length →
      let c := ruleCriteria r x.phase
      let band : Byte → Bool := fun b => decide (c.bandLow.toNat ≤ b.toNat ∧ b.toNat ≤ c.bandHigh.toNat)
      let row := (px.drop w.firstCol).take (w.lastCol + 1 - w.firstCol)
      let s := w.sums.get x.phase
      let t := (w.feed r x).sums.get x.phase
      t.n = s.n + (w.lastCol + 1 - w.firstCol) ∧ t.b = s.b + row.countP band ∧ t.s = s.s + (row.map BitVec.toNat).sum ∧
      (∀ before run after : List Byte, row = before ++ run ++ after → (∀ b ∈ run, band b = true) → run.length ≤ t.r) ∧
      (∃ before run after : List Byte, row = before ++ run ++ after ∧ (∀ b ∈ run, band b = true) ∧
        t.r = max s.r run.length) ∧
      (∀ p : Phase, p ≠ x.phase → (w.feed r x).sums.get p = w.sums.get p) ∧
      (w.feed r x).injected = (w.injected || injected)) ∧
    (x.payload = .lost → w.feed r x = { w with loss := true })

/-- The free judgement engine takes the oldest record of the close queue, and the waiting windows refill the place (R97, R107;
`refillClose` is ItemTakeServesPort's). An evaluation whose verdict its lane's mode does not report completes: the verdict is
counted in the window's panel, a crop slot that the window holds becomes Free and leaves the crop queue, the engine is free, and
the panel is decided where that accounts for it (R108, R117, R122, R139; `tryDecide` is DecisionOfCounts's); of a panel still
Scanning, with no crop slot, nothing else changes. A verdict adds one to its panel's count of that verdict, an Unjudged one to DataLoss, and an injected record one to
Injected (R116, R117). All reports every verdict, NotPass all but Pass, DefectOnly Defect, Silent none (R118, Table 6-2). -/
def Obligations.EvaluationsRun : Prop :=
  (∀ (c : Context) (v : Verdict) (injected : Bool),
    let one (b : Bool) : Nat := if b then 1 else 0
    c.countVerdict v injected = { c with
      injected := c.injected + one injected, pass := c.pass + one (v = .pass), marginal := c.marginal + one (v = .marginal),
      defect := c.defect + one (v = .defect),
      causes := { c.causes with dataLoss := c.causes.dataLoss + one (v = .unjudged) } }) ∧
  (∀ (m : ReportMode) (v : Verdict),
    reported m v = true ↔ m = .all ∨ (m = .notPass ∧ v ≠ .pass) ∨ (m = .defectOnly ∧ v = .defect)) ∧
  (∀ (s : State) (w : Window), s.dev.resetLow = false →
    (∀ rest : List Window, s.dev.evaluation = none → s.dev.closeQueue = w :: rest → s.dev.waiting = [] →
      exec .evaluationTake s = becomes s { s.dev with evaluation := some w, closeQueue := rest }) ∧
    (∀ rest : List Window, s.dev.evaluation = none → s.dev.closeQueue = w :: rest →
      exec .evaluationTake s =
        becomes s ({ s.dev with evaluation := some w, closeQueue := rest } : Device).refillClose) ∧
    (∀ c : Context,
      let L := s.dev.lane w.lane
      let v := (judge ((s.dev.slot c.slot).rule w.rule) w).verdict
      let counted : Device := { withLane s.dev w.lane { L with live := L.live.map (fun x =>
        if x.num = c.num then x.countVerdict v w.injected else x) } with evaluation := none }
      s.dev.evaluation = some w → L.ctxOfSeq w.seq = some c → reported L.reportMode v = false →
      (w.crop = none → exec .evaluationComplete s = becomes s (counted.tryDecide w.lane c.num)) ∧
      (∀ i : Nat, w.crop = some i →
        exec .evaluationComplete s = becomes s (({ counted with
          crops := s.dev.crops.modify i (fun x => { x with state := .free, owner := none }),
          cropQueue := s.dev.cropQueue.filter (fun j => decide (j ≠ i)) } : Device).tryDecide w.lane c.num))) ∧
    (∀ c : Context,
      let L := s.dev.lane w.lane
      let v := (judge ((s.dev.slot c.slot).rule w.rule) w).verdict
      s.dev.evaluation = some w → L.ctxOfSeq w.seq = some c → (∀ x ∈ L.live, x.num = c.num → x = c) →
      c.state = .scanning → reported L.reportMode v = false → w.crop = none →
      exec .evaluationComplete s =
        becomes s { withLane s.dev w.lane { L with live := L.live.map (fun x =>
          if x.num = c.num then x.countVerdict v w.injected else x) } with evaluation := none }))

/-- At the completion of an evaluation whose verdict the lane's mode reports the verdict is counted in its panel, the engine
is free, and the panel is decided where that accounts for it (R108, R117, R139). With fewer than 1,024 reports queued the
report joins the verdict queue at its tail with the verdict, the window's and the panel's fields and the lane's detail, its
crop mark set exactly when the verdict is Marginal or Defect and the window holds a crop slot; the slot becomes Held and
joins the crop queue for a Marginal or a Defect and becomes Free for another verdict; with 1,024 queued the report is
dropped, the crop slot becomes Free, the panel's VerdictsLost rises by one beside its verdict's count (said of a panel still
Scanning), and VerdictLoss is raised in the device set and counted as a fault on the lane (R118 to R120, R122). The next
state is given whole; in it VerdictLoss is raised before the fault, an order that R120 does not give and that is the model's
choice (log 35); `tryDecide` is DecisionOfCounts's and `fault` FaultAnswered's. A verdict report's payload holds the fields
of Table 11-4 in their order (R188; a Full report of an Unjudged verdict by log 33). -/
def Obligations.VerdictReported : Prop :=
  ∀ (s : State) (w : Window) (c : Context), s.dev.resetLow = false →
    let L := s.dev.lane w.lane
    let j := judge ((s.dev.slot c.slot).rule w.rule) w
    let kept : Bool := decide (j.verdict = .marginal ∨ j.verdict = .defect)
    let r : VerdictReport :=
      { lane := w.lane, seq := w.seq, recipeId := c.recipeId, joint := w.joint,
        component := ((s.dev.slot c.slot).joint w.joint).component, rule := w.rule, port := w.port, firstCol := w.firstCol,
        firstLine := w.firstLine, judged := j, injected := w.injected, loss := w.loss,
        crop := decide (kept ∧ w.crop ≠ none), detail := L.reportDetail }
    let counted (lost : Nat) : Device := { withLane s.dev w.lane { L with live := L.live.map (fun x =>
      if x.num = c.num then { x.countVerdict j.verdict w.injected with verdictsLost := x.verdictsLost + lost } else x) } with
        evaluation := none }
    let queued : Device := { counted 0 with trunk := { s.dev.trunk with verdicts := s.dev.trunk.verdicts ++ [r] } }
    let dropped : Device := ((counted 1).raiseDevice .verdictLoss).fault w.lane .verdictLoss
    let freed (d : Device) (i : Nat) : Device := { d with
      crops := d.crops.modify i (fun x => { x with state := .free, owner := none }),
      cropQueue := d.cropQueue.filter (fun k => decide (k ≠ i)) }
    let held (d : Device) (i : Nat) : Device := { d with
      crops := d.crops.modify i (fun x => { x with state := .held }), cropQueue := d.cropQueue ++ [i] }
    let byte (x : Nat) : Byte := BitVec.ofNat 8 x
    let bit (b : Bool) (x : Nat) : Nat := if b then x else 0
    (∀ x : VerdictReport, verdictReportPayload x =
      [laneByte x.lane] ++ be 2 x.seq.toNat ++ be 4 x.recipeId.toNat ++ be 2 x.joint ++ be 2 x.component.toNat ++
      [byte x.rule, portByte ⟨x.lane, x.port⟩] ++ be 2 x.firstCol ++ be 2 x.firstLine ++
      [byte (verdictCode x.judged.verdict),
       if x.judged.verdict = .unjudged then 5
       else
         match x.judged.primary with
         | none => 0
         | some k => byte (causeCode k.1),
       match x.judged.primary with
       | none => 0
       | some k => k.2.code,
       byte (levelCode x.judged.causes.bridge + 4 * levelCode x.judged.causes.nonWetting +
         16 * levelCode x.judged.causes.insufficient + 64 * levelCode x.judged.causes.excess),
       byte (bit x.injected 1 + bit x.loss 2 + bit x.crop 4 + bit (decide (x.detail = .full)) 8)] ++
      (match x.detail with
       | .brief => []
       | .full => byte x.judged.features.length :: x.judged.features.flatMap (fun f =>
           [f.phase.code, byte f.fill, byte f.mean, byte f.span]))) ∧
    (s.dev.evaluation = some w → L.ctxOfSeq w.seq = some c → reported L.reportMode j.verdict = true →
    (s.dev.trunk.verdicts.length < 1024 →
      (w.crop = none → exec .evaluationComplete s = becomes s (queued.tryDecide w.lane c.num)) ∧
      (∀ i : Nat, w.crop = some i → exec .evaluationComplete s =
        becomes s ((if kept then held queued i else freed queued i).tryDecide w.lane c.num))) ∧
    (1024 ≤ s.dev.trunk.verdicts.length →
      (w.crop = none → exec .evaluationComplete s = becomes s (dropped.tryDecide w.lane c.num)) ∧
      (∀ i : Nat, w.crop = some i → exec .evaluationComplete s =
        becomes s ((freed dropped i).tryDecide w.lane c.num))) ∧
    ∃ t : State, exec .evaluationComplete s = .next t ∧ t.dev.evaluation = none ∧
      (s.dev.trunk.verdicts.length < 1024 →
        (∃ r : VerdictReport, t.dev.trunk.verdicts = s.dev.trunk.verdicts ++ [r] ∧
          r.lane = w.lane ∧ r.seq = w.seq ∧ r.joint = w.joint ∧ r.judged = j ∧ r.detail = L.reportDetail ∧
          r.recipeId = c.recipeId ∧ r.component = ((s.dev.slot c.slot).joint w.joint).component ∧ r.rule = w.rule ∧
          r.port = w.port ∧ r.firstCol = w.firstCol ∧ r.firstLine = w.firstLine ∧ r.injected = w.injected ∧
          r.loss = w.loss ∧ (r.crop = true ↔ kept ∧ w.crop ≠ none)) ∧
        (∀ (i : Nat) (x : CropSlot), w.crop = some i → s.dev.crops[i]? = some x →
          (kept → t.dev.crops[i]? = some { x with state := .held } ∧ t.dev.cropQueue = s.dev.cropQueue ++ [i]) ∧
          (¬ kept → t.dev.crops[i]? = some { x with state := .free, owner := none }))) ∧
      (1024 ≤ s.dev.trunk.verdicts.length →
        t.dev.trunk.verdicts = s.dev.trunk.verdicts ∧
        (c.state = .scanning → L.ctx c.num = some c →
          (t.dev.lane w.lane).ctx c.num =
            some { c.countVerdict j.verdict w.injected with verdictsLost := c.verdictsLost + 1 }) ∧
        (t.dev.cond.get .device).raised &&& DeviceCond.verdictLoss.bit ≠ 0 ∧
        (t.dev.lane w.lane).gate.counts.verdictLoss = min 255 (L.gate.counts.verdictLoss + 1) ∧
        (∀ (i : Nat) (x : CropSlot), w.crop = some i → s.dev.crops[i]? = some x →
          t.dev.crops[i]? = some { x with state := .free, owner := none })))

/-- The four tests of a used phase, each result given by its limits and margins (R111, R112, R113). -/
def Obligations.SolderTests : Prop :=
  ∀ (r : RuleEntry) (c : Criteria) (f : Features),
    let fill : Int := f.fill
    let mean : Int := f.mean
    let span : Int := f.span
    let fillMin : Int := c.fillMin.toNat
    let fillMax : Int := c.fillMax.toNat
    let fillMargin : Int := r.fillMargin.toNat
    let limit : Int := c.spanLimit.toNat
    let spanMargin : Int := r.spanMargin.toNat
    let meanLow : Int := c.meanLow.toNat
    let meanHigh : Int := c.meanHigh.toNat
    let meanMargin : Int := r.meanMargin.toNat
    (testInsufficient r c f = .defect ↔ fill < fillMin) ∧
    (testInsufficient r c f = .marginal ↔ fillMin ≤ fill ∧ fill < fillMin + fillMargin) ∧
    (testExcess r c f = .defect ↔ fillMax < fill) ∧
    (testExcess r c f = .marginal ↔ fillMax - fillMargin < fill ∧ fill ≤ fillMax) ∧
    (testBridge r c f = .defect ↔ 0 < limit ∧ limit ≤ span) ∧
    (testBridge r c f = .marginal ↔ 0 < limit ∧ limit - spanMargin ≤ span ∧ span < limit) ∧
    (testNonWetting r c f = .defect ↔ mean < meanLow ∨ meanHigh < mean) ∧
    (testNonWetting r c f = .marginal ↔
      ¬ (mean < meanLow ∨ meanHigh < mean) ∧
        ((meanLow ≤ mean ∧ mean < meanLow + meanMargin) ∨ (meanHigh - meanMargin < mean ∧ mean ≤ meanHigh)))

/-- The verdict of a record. With its loss mark set it is not tested: Unjudged, with no features, causes or primary cause
(R109). Otherwise each used phase has its features, fill 100 B / N, mean S / N, each rounded down, and span R (R110); the
verdict is Defect exactly when a test in a used phase gives defect, Marginal exactly when none gives defect and one gives
marginal, Pass otherwise; and a cause has level defect exactly when its test gives defect in a used phase, marginal exactly
when it gives marginal in one and defect in none, and is not present otherwise (R114). The primary cause of a Defect or a
Marginal is the first of Bridge, NonWetting, Insufficient, Excess present at that level, with the first used phase whose test
gives it; a Pass has none (R115). -/
def Obligations.VerdictOfTests : Prop :=
  ∀ (r : RuleEntry) (w : Window),
    let j := judge r w
    let gives (k : Cause) (v : Level) : Prop := ∃ p : Phase, p ∈ usedPhases r ∧ testOf r k (featuresOf w p) = v
    let level : Cause → Level := fun k =>
      match k with
      | .bridge => j.causes.bridge
      | .nonWetting => j.causes.nonWetting
      | .insufficient => j.causes.insufficient
      | .excess => j.causes.excess
    (w.loss = true →
      j = { verdict := .unjudged, causes := { bridge := .clear, nonWetting := .clear, insufficient := .clear, excess := .clear },
            primary := none, features := [] }) ∧
    (w.loss = false →
      (j.verdict = .defect ↔ ∃ k, gives k .defect) ∧
      (j.verdict = .marginal ↔ (¬ ∃ k, gives k .defect) ∧ ∃ k, gives k .marginal) ∧
      (j.verdict = .pass ↔ (¬ ∃ k, gives k .defect) ∧ ¬ ∃ k, gives k .marginal) ∧
      (∀ k : Cause, (level k = .defect ↔ gives k .defect) ∧
        (level k = .marginal ↔ ¬ gives k .defect ∧ gives k .marginal)) ∧
      j.features = (usedPhases r).map (fun p =>
        { phase := p, fill := (w.sums.get p).b * 100 / (w.sums.get p).n, mean := (w.sums.get p).s / (w.sums.get p).n,
          span := (w.sums.get p).r }) ∧
      (j.verdict = .pass → j.primary = none) ∧
      (∀ v : Level, (v = .defect ∧ j.verdict = .defect) ∨ (v = .marginal ∧ j.verdict = .marginal) →
        ∃ (k : Cause) (p : Phase) (before after : List Cause) (first rest : List Phase), j.primary = some (k, p) ∧
          [Cause.bridge, .nonWetting, .insufficient, .excess] = before ++ k :: after ∧ level k = v ∧
          (∀ x ∈ before, level x ≠ v) ∧ usedPhases r = first ++ p :: rest ∧ testOf r k (featuresOf w p) = v ∧
          ∀ q ∈ first, testOf r k (featuresOf w q) ≠ v))

/-- The decision of a Settling or Passed context that is fully accounted for, by its counts and its recipe's marginal limit:
Reject with a Defect; else Review with an Unjudged, an Injected or more Marginal than the limit; else Accept; a Reject
raises PanelRejected, late or not. A Settling context becomes Decided; a Passed one retires, at once or behind the others.
One not fully accounted for, and one in another state, stays as it is (R139, R140, R142). -/
def Obligations.DecisionOfCounts : Prop :=
  ∀ (d : Device) (l : LaneId) (n : Fin 4) (c : Context), (d.lane l).ctx n = some c →
    let limit := (d.slot c.slot).hdr.marginalLimit.toNat
    let dec : Decision :=
      if 1 ≤ c.defect then .reject
      else if 1 ≤ c.unjudged ∨ 1 ≤ c.injected ∨ limit < c.marginal then .review else .accept
    let accounted := c.pass + c.marginal + c.defect + c.unjudged = (d.slot c.slot).hdr.jointCount.toNat
    let t := d.tryDecide l n
    (accounted → c.state = .settling ∨ c.state = .passed →
      (dec = .reject → (t.cond.get (.lane l)).raised = (d.cond.get (.lane l)).raised ||| LaneCond.panelRejected.bit) ∧
      (dec ≠ .reject → t.cond = d.cond)) ∧
    (accounted → c.state = .settling →
      (t.lane l).ctx n = some { c with decision := some dec, state := .decided }) ∧
    (accounted → c.state = .passed → (d.retireOrder ≠ [] ∨ 8 ≤ d.trunk.panelReports.length) →
      (t.lane l).ctx n = some { c with decision := some dec, state := .retiring } ∧
      t.retireOrder = d.retireOrder ++ [(l, n)]) ∧
    (accounted → c.state = .passed → d.retireOrder = [] → d.trunk.panelReports.length < 8 →
      (t.lane l).ctx n = none ∧
      ∃ r : PanelReport, t.trunk.panelReports = d.trunk.panelReports ++ [r] ∧ r.lane = l ∧
        r.ctx = { c with decision := some dec }) ∧
    (¬ accounted ∨ (c.state ≠ .settling ∧ c.state ≠ .passed) → t = d)

/-! ## The gate unit -/

/-- Set Gate Mode on a lane not forced replaces the mode; on a forced lane it is refused with RefusedForced and raises
WriteRejected. Set Fault Response replaces one entry. Release Force clears override, hold and kinds seen. Nothing else
changes (R154, R155, R159). -/
def Obligations.GateOrdersAnswered : Prop :=
  ∀ (tag : Byte) (l : LaneId) (s : State), Taken s →
    let L := s.dev.lane l
    let forced := L.gate.forced ≠ .none ∨ L.gate.hold = true
    (∀ (mode : Byte) (m : GateMode), mode.toNat = gateModeCode m →
      (¬ forced → exec (.setGateMode tag (laneByte l) mode) s =
        answers s (withLane s.dev l { L with gate := { L.gate with mode := m } }) tag 0x60 .done []) ∧
      (forced → exec (.setGateMode tag (laneByte l) mode) s =
        answers s (s.dev.raiseDevice .writeRejected) tag 0x60 .refusedForced [])) ∧
    (∀ (kind override hold : Byte) (k : FaultKind) (o : Override) (h : Bool), faultKindOf kind = some k →
      override.toNat = overrideCode o → hold.toNat = boolCode h →
      exec (.setFaultResponse tag (laneByte l) kind override hold) s =
        answers s (withLane s.dev l { L with gate := { L.gate with
          table := L.gate.table.set k { override := o, hold := h } } }) tag 0x61 .done []) ∧
    exec (.releaseForce tag (laneByte l)) s =
      answers s (withLane s.dev l { L with gate := { L.gate with
        forced := .none, hold := false, seen := Gate.atReset.seen } }) tag 0x62 .done []

/-- The effective code at a gate arrival is the first case that applies: forced, gate mode, fixed Review, the decision of a
Decided context, Review (R151). The arrival removes the oldest entry and sets the divert code to that code, which DIVERT_0 and
DIVERT_1 show at once as Table 8-1 gives it, HOLD standing (R150, R153); a Decided context linked to it has the code written
and retires or joins the retire order; a Settling one becomes Passed, late, with LateDecision; one Waiting or Scanning has
the code written, is late with LateDecision, and keeps its state (R141, R150, R152). -/
def Obligations.GateArrivalSetsCode : Prop :=
  (∀ (L : Lane) (e : GateEntry),
    (L.gate.forced = .reviewAll → L.effectiveCode e = .review) ∧
    (L.gate.forced = .rejectAll → L.effectiveCode e = .reject) ∧
    (L.gate.forced = .none → L.gate.mode = .acceptAll → L.effectiveCode e = .accept) ∧
    (L.gate.forced = .none → L.gate.mode = .reviewAll → L.effectiveCode e = .review) ∧
    (L.gate.forced = .none → L.gate.mode = .rejectAll → L.effectiveCode e = .reject) ∧
    (L.gate.forced = .none → L.gate.mode = .follow → e.kind = .fixedReview → L.effectiveCode e = .review) ∧
    (∀ (n : Fin 4) (c : Context), L.gate.forced = .none → L.gate.mode = .follow → e.kind = .linked n →
      L.ctx n = some c →
      (∀ x : Decision, c.state = .decided → c.decision = some x → L.effectiveCode e = x) ∧
      (c.state ≠ .decided → L.effectiveCode e = .review))) ∧
  (∀ (d : Device) (l : LaneId) (e : GateEntry) (rest : List GateEntry), (d.lane l).gate.queue = e :: rest →
    let code := (d.lane l).effectiveCode e
    let t := d.gateArrival l
    (t.lane l).gate = { (d.lane l).gate with queue := rest, divert := code } ∧
    (t.lane l).gate.divert0 = decide (code = .accept) ∧ (t.lane l).gate.divert1 = decide (code = .reject) ∧
    (t.lane l).gate.holdOn = (d.lane l).gate.hold ∧
    (∀ (n : Fin 4) (c : Context), e.kind = .linked n → (d.lane l).ctx n = some c →
      (c.state = .settling →
        (t.lane l).ctx n = some { c with gateAction := .applied code, late := true, state := .passed } ∧
        (t.cond.get (.lane l)).raised = (d.cond.get (.lane l)).raised ||| LaneCond.lateDecision.bit) ∧
      (c.state = .waiting ∨ c.state = .scanning →
        (t.lane l).ctx n = some { c with gateAction := .applied code, late := true } ∧
        (t.cond.get (.lane l)).raised = (d.cond.get (.lane l)).raised ||| LaneCond.lateDecision.bit ∧
        (t.lane l).mode = (d.lane l).mode ∧ t.retireOrder = d.retireOrder ∧ t.trunk = d.trunk) ∧
      (c.state = .decided → (d.retireOrder ≠ [] ∨ 8 ≤ d.trunk.panelReports.length) →
        (t.lane l).ctx n = some { c with gateAction := .applied code, state := .retiring } ∧
        t.retireOrder = d.retireOrder ++ [(l, n)]) ∧
      (c.state = .decided → d.retireOrder = [] → d.trunk.panelReports.length < 8 →
        (t.lane l).ctx n = none ∧
        ∃ r : PanelReport, t.trunk.panelReports = d.trunk.panelReports ++ [r] ∧ r.lane = l ∧
          r.ctx = { c with gateAction := .applied code } ∧
          r.jointCount = (d.slot c.slot).hdr.jointCount.toNat)))

/-- A fault raised on a lane: counted up to 255; on a lane that is Off nothing else at the gate; on another its kind is
seen, the forced override becomes the more severe of the two, the hold is set if either sets it, and Forced is raised when
either changed. MotionFault, PanelOverrun and WarmupLate also raise the lane condition of their name, on a lane that is Off too,
and the other kinds raise none in the lane's set; the conditions of the other sets stand (R177). The divert code and the other
lane stand (R156, R158). -/
def Obligations.FaultAnswered : Prop :=
  ∀ (d : Device) (l m : LaneId) (k : FaultKind), m ≠ l →
    let g := (d.lane l).gate
    let h := ((d.fault l k).lane l).gate
    let changed := h.forced ≠ g.forced ∨ h.hold ≠ g.hold
    h.counts = g.counts.set k (min 255 (g.counts.get k + 1)) ∧ h.divert = g.divert ∧ h.queue = g.queue ∧
    h.mode = g.mode ∧ h.table = g.table ∧ (d.fault l k).lane m = d.lane m ∧
    ((d.lane l).mode = .off → h.forced = g.forced ∧ h.hold = g.hold ∧ h.seen = g.seen) ∧
    ((d.lane l).mode ≠ .off →
      overrideCode h.forced = max (overrideCode g.forced) (overrideCode (g.table.get k).override) ∧
      h.hold = (g.hold || (g.table.get k).hold) ∧ h.seen = g.seen.set k true) ∧
    (changed → ((d.fault l k).cond.get (.lane l)).raised &&& LaneCond.forced.bit ≠ 0) ∧
    (¬ changed → (((d.fault l k).cond.get (.lane l)).raised &&& LaneCond.forced.bit =
      (d.cond.get (.lane l)).raised &&& LaneCond.forced.bit)) ∧
    (let old := (d.cond.get (.lane l)).raised
     let named : Word16 :=
       match k with
       | .motionFault => LaneCond.motionFault.bit
       | .panelOverrun => LaneCond.panelOverrun.bit
       | .warmupLate => LaneCond.warmupLate.bit
       | .cameraLoss | .trunkStall | .verdictLoss => 0
     (changed → ((d.fault l k).cond.get (.lane l)).raised = old ||| LaneCond.forced.bit ||| named) ∧
     (¬ changed → ((d.fault l k).cond.get (.lane l)).raised = old ||| named) ∧
     ∀ i : SetId, i ≠ .lane l → ((d.fault l k).cond.get i).raised = (d.cond.get i).raised)

/-- Of the commands other than Release Force, Disable Lane, a reset and those that can carry them (order frames, words of the
trunk link, the sending of a reply), none lowers a forced override or releases a hold; and of these none but a forward count,
among whose effects are the gate arrivals, changes a divert code (R148). -/
def Obligations.ForceStands : Prop :=
  ∀ (c : Instr) (s t : State) (l : LaneId), carriesOrders c = false →
    (∀ tag lane, c ≠ .releaseForce tag lane) → (∀ tag lane, c ≠ .disableLane tag lane) → exec c s = .next t →
    overrideCode (s.dev.lane l).gate.forced ≤ overrideCode (t.dev.lane l).gate.forced ∧
    ((s.dev.lane l).gate.hold = true → (t.dev.lane l).gate.hold = true) ∧
    ((∀ m, c ≠ .encoderForwardCount m) → (t.dev.lane l).gate.divert = (s.dev.lane l).gate.divert)

/-! ## The trunk link -/

/-- The link state: TRK_SD inactive takes it Down with the sync run zero, and from Up without the inbound frame, the credit
and the frame in transmission; TRK_SD active takes Down to Training; in Training the eighth Sync in a row takes it Up and
any other word zeroes the run; in Down no word has an effect. Nothing else changes (R162, R163). -/
def Obligations.LinkStateMoves : Prop :=
  ∀ s : State, s.dev.resetLow = false →
    let t := s.dev.trunk
    exec .trkSdInactive s =
      becomes s { s.dev with
        trkSd := false,
        trunk := { t with
          link := .down, syncRun := 0,
          rx := if t.link = .up then none else t.rx, credit := if t.link = .up then 0 else t.credit,
          frame := if t.link = .up then none else t.frame } } ∧
    (t.link = .down → exec .trkSdActive s =
      becomes s { s.dev with trkSd := true, trunk := { t with link := .training, syncRun := 0 } }) ∧
    (t.link ≠ .down → exec .trkSdActive s = becomes s { s.dev with trkSd := true }) ∧
    (t.link = .training →
      (t.syncRun < 7 → exec (.trainingWord .sync) s =
        becomes s { s.dev with trunk := { t with syncRun := t.syncRun + 1 } }) ∧
      (t.syncRun = 7 → exec (.trainingWord .sync) s =
        becomes s { s.dev with trunk := { t with syncRun := 8, link := .up } }) ∧
      (∀ w : LinkWord, w ≠ .sync → exec (.trainingWord w) s =
        becomes s { s.dev with trunk := { t with syncRun := 0 } })) ∧
    (t.link = .down → ∀ w : LinkWord, exec (.trainingWord w) s = becomes s s.dev)

/-- A Credit frame on a link in Up adds its grant to the credit count, limited to 255 (R165). A damaged frame is discarded with
FrameError; the Delimiter that breaks one opens a frame, and after any other damage none is being assembled (R164). A whole
frame that comes while one is being assembled breaks that one first, with FrameError, and is then taken; an order longer than
512 bytes is discarded with FrameError too (R164, R185). On a link in Training no frame has an effect but that its words, none
of them Sync, leave the sync run at zero; where a Sync breaks the frame the run then counts that Sync; on a link in Down no
frame has an effect (R162; a row of a frame stands for all its words, log 5; the stall timer follows a notice that the first
FrameError queues before the frame is taken, R171). -/
def Obligations.CreditAndDamagedFrames : Prop :=
  ∀ (s : State) (grant tag code : Byte) (params : List Byte) (x : FrameDamage), s.dev.resetLow = false →
    let t := s.dev.trunk
    let opened : Option (List Byte) := if x = .brokenByDelimiter then some [] else none
    let broken : Device := (({ s.dev with trunk := { t with rx := none } } : Device).raiseDevice .frameError).settleStall
    let trained (run : Nat) : Device := { s.dev with trunk := { t with syncRun := run } }
    (t.link = .up →
      exec (.frameError x) s =
        becomes s (({ s.dev with trunk := { t with rx := opened } } : Device).raiseDevice .frameError)) ∧
    (t.link = .up → t.rx = none →
      exec (.creditFrame grant) s =
        becomes s { s.dev with trunk := { t with credit := min 255 (t.credit + grant.toNat) } } ∧
      (510 < params.length → exec (.orderFrame tag code params) s = becomes s (s.dev.raiseDevice .frameError))) ∧
    (t.link = .up → t.rx ≠ none →
      exec (.creditFrame grant) s =
        becomes s { broken with trunk := { broken.trunk with credit := min 255 (t.credit + grant.toNat) } } ∧
      (params.length ≤ 510 → exec (.orderFrame tag code params) s = becomes s (broken.orderArrives tag code params)) ∧
      (510 < params.length → exec (.orderFrame tag code params) s = becomes s (broken.raiseDevice .frameError))) ∧
    (t.link = .training →
      exec (.creditFrame grant) s = becomes s (trained 0) ∧ exec (.orderFrame tag code params) s = becomes s (trained 0) ∧
      (x ≠ .brokenBySync → exec (.frameError x) s = becomes s (trained 0)) ∧
      exec (.frameError .brokenBySync) s = becomes s (trained 1)) ∧
    (t.link = .down →
      exec (.creditFrame grant) s = becomes s s.dev ∧ exec (.frameError x) s = becomes s s.dev ∧
        exec (.orderFrame tag code params) s = becomes s s.dev)

/-- An Order frame on a link in Up: taken by the order's owner in the same event when no order waits and the reply queue has
room; otherwise it joins the inbound order queue, or with 16 orders queued is discarded with OrderOverrun. An unlisted
code taken is answered UnknownOrder (R166, R167; the row UNKNOWN_ORDER is the order at the decoder, log 4). -/
def Obligations.OrdersReachTheDecoder : Prop :=
  ∀ (s : State) (tag code : Byte) (params : List Byte), s.dev.resetLow = false →
    let t := s.dev.trunk
    let o := parseOrder code params
    t.link = .up → t.rx = none → params.length ≤ 510 →
    (t.inbound = [] → s.dev.replyRoom = true →
      exec (.orderFrame tag code params) s = becomes s (takeOrder tag o s.dev) ∧
      (listedCode code = false →
        exec (.orderFrame tag code params) s = answers s s.dev tag code .unknownOrder [] ∧
        exec (.unknownOrder tag code) s = answers s s.dev tag code .unknownOrder [])) ∧
    (t.inbound ≠ [] ∨ s.dev.replyRoom = false →
      (t.inbound.length < 16 → exec (.orderFrame tag code params) s =
        becomes s { s.dev with trunk := { t with inbound := t.inbound ++ [{ tag := tag, order := o }] } }) ∧
      (16 ≤ t.inbound.length →
        exec (.orderFrame tag code params) s = becomes s (s.dev.raiseDevice .orderOverrun)))

/-- Every word received in Up goes to frame assembly (R162). Between frames a Delimiter opens a frame and a Sync or a data byte
has no effect; within one a Sync or a Delimiter discards it with FrameError, the Delimiter opening the next; a data byte is
taken: a first byte that is no inbound kind, or a third that completes a length the kind may not have, discards the frame with
FrameError; the last byte of the check ends it, a frame whose check agrees going to the credit count or the order decoder and
one whose check does not being discarded with FrameError (R164 to R166, R184, R185). So a frame sent word by word is taken as a
whole: the words of a Credit frame add its grant, and the words of an Order frame with a payload of 2 to 512 bytes bring its
order to the decoder. -/
def Obligations.FramesWordByWord : Prop :=
  (∀ (s : State) (w : LinkWord), s.dev.resetLow = false → s.dev.trunk.link = .up →
    exec (.trainingWord w) s = becomes s (s.dev.rxWord w)) ∧
  (∀ d : Device,
    let rx (x : Option (List Byte)) : Device := { d with trunk := { d.trunk with rx := x } }
    let discarded (x : Option (List Byte)) : Device := (rx x).raiseDevice .frameError
    (d.trunk.rx = none → d.rxWord .sync = d ∧ d.rxWord .delimiter = rx (some []) ∧ ∀ b : Byte, d.rxWord (.data b) = d) ∧
    (∀ newest : List Byte, d.trunk.rx = some newest →
      d.rxWord .sync = discarded none ∧ d.rxWord .delimiter = discarded (some []) ∧
      ∀ b : Byte,
        let got := newest.reverse ++ [b]
        let kind := got.headD 0
        let stated := (got.getD 1 0).toNat * 256 + (got.getD 2 0).toNat
        let listed : Prop := (kind = 2 ∧ stated = 1) ∨ (kind = 1 ∧ 2 ≤ stated ∧ stated ≤ 512)
        let goesOn := rx (some (b :: newest))
        let agrees : Prop := got.drop (stated + 3) = be 2 (crc (got.take (stated + 3))).toNat
        (got.length = 1 →
          (kind = 1 ∨ kind = 2 → d.rxWord (.data b) = goesOn) ∧
          (kind ≠ 1 → kind ≠ 2 → d.rxWord (.data b) = discarded none)) ∧
        (got.length = 2 → d.rxWord (.data b) = goesOn) ∧
        (3 ≤ got.length → kind = 1 ∨ kind = 2 →
          (¬ listed → d.rxWord (.data b) = discarded none) ∧
          (listed → got.length ≠ stated + 5 → d.rxWord (.data b) = goesOn) ∧
          (listed → got.length = stated + 5 →
            (¬ agrees → d.rxWord (.data b) = discarded none) ∧
            (agrees → kind = 2 → d.rxWord (.data b) = (rx none).grantCredit (got.getD 3 0)) ∧
            (agrees → kind = 1 →
              d.rxWord (.data b) =
                (rx none).orderArrives (got.getD 3 0) (got.getD 4 0) ((got.drop 5).take (stated - 2))))))) ∧
  ∀ d : Device,
    (∀ grant : Byte, d.grantCredit grant =
      { d with trunk := { d.trunk with credit := min 255 (d.trunk.credit + grant.toNat) } }) ∧
    (d.trunk.rx = none →
      (∀ grant : Byte, (frameWords 2 [grant]).foldl Device.rxWord d = d.grantCredit grant) ∧
      (∀ (tag code : Byte) (params : List Byte), params.length ≤ 510 →
        (frameWords 1 (tag :: code :: params)).foldl Device.rxWord d = d.orderArrives tag code params))

/-- A frame begins, with the link Up, credit above zero and none in transmission, from the first queue in the order of R169
that holds an item: one credit spent, the item gone from its queue, its contents fixed, and its words, Delimiter, kind code,
length, payload and check, on TRK_TX (R184, R185). Otherwise none begins, with every queue empty too; and a frame ends at its
completion, after which TRK_TX carries Sync (section 11.1). A reply sent lets the decoder take its next order, with the stall
timer as the spent credit leaves it: the oldest waiting order leaves its queue and goes to its owner when the reply queue has
room. A panel report sent lets the oldest contexts of the retire order retire while the panel report queue holds fewer than 8:
each becomes free and its report joins that queue. With none waiting neither does anything more (R142, R143, R167, R169,
R170, R171). The payloads hold their fields in the order of R188: a reply its order's tag and code, its outcome and its record;
a notice its set's number, conditions and mask; a panel report the fields of Table 11-5; a crop report its slot's number, its
owner's fields, and the pixels of the three planes. -/
def Obligations.FramesBeginAndEnd : Prop :=
  ∀ s : State, s.dev.resetLow = false →
    let d := s.dev
    let t := d.trunk
    let sent (kind : FrameKind) (payload : List Byte) : Trunk :=
      { t with credit := t.credit - 1,
               frame := some { kind := kind, payload := payload, words := frameWords (frameKindCode kind) payload } }
    exec .frameComplete s = becomes s { d with trunk := { t with frame := none } } ∧
    (t.link ≠ .up ∨ t.credit = 0 ∨ t.frame ≠ none → exec .frameBegin s = becomes s d) ∧
    (t.link = .up → 0 < t.credit → t.frame = none →
      (∀ (r : Reply) (rest : List Reply), t.replies = r :: rest →
        let e : Device := { d with trunk := { sent .reply (replyPayload r) with replies := rest } }
        exec .frameBegin s = becomes s e.settleStall.decodeNext ∧
        (t.inbound = [] → exec .frameBegin s = becomes s e) ∧
        (∀ (o : QueuedOrder) (more : List QueuedOrder), t.inbound = o :: more →
          (rest.length + d.validation.toList.length < 16 →
            e.settleStall.decodeNext = takeOrder o.tag o.order
              { e.settleStall with trunk := { e.settleStall.trunk with inbound := more } }) ∧
          (16 ≤ rest.length + d.validation.toList.length → exec .frameBegin s = becomes s e))) ∧
      (∀ (i : SetId) (rest : List SetId), t.replies = [] → d.cond.noticeQueue = i :: rest →
        exec .frameBegin s =
          becomes s { d with
            trunk := sent .notice (noticePayload d.cond i),
            cond := { d.cond.set i { d.cond.get i with noticePending := false } with noticeQueue := rest } }) ∧
      (∀ (r : PanelReport) (rest : List PanelReport), t.replies = [] → d.cond.noticeQueue = [] →
        t.panelReports = r :: rest →
        let e : Device := { d with trunk := { sent .panelReport (panelReportPayload r) with panelReports := rest } }
        exec .frameBegin s = becomes s (Device.retireFrom d.retireOrder e) ∧
          (d.retireOrder = [] → Device.retireFrom d.retireOrder e = e) ∧
          (8 ≤ rest.length → Device.retireFrom d.retireOrder e = e) ∧
          (∀ (l : LaneId) (n : Fin 4) (more : List (LaneId × Fin 4)) (c : Context), d.retireOrder = (l, n) :: more →
            rest.length = 7 → (d.lane l).ctx n = some c →
            Device.retireFrom d.retireOrder e =
              { withLane e l { e.lane l with live := (e.lane l).live.filter (fun x => decide (x.num ≠ n)) } with
                trunk := { e.trunk with panelReports :=
                  rest ++ [{ lane := l, ctx := c, jointCount := (d.slot c.slot).hdr.jointCount.toNat }] },
                retireOrder := more })) ∧
      (∀ (r : VerdictReport) (rest : List VerdictReport), t.replies = [] → d.cond.noticeQueue = [] →
        t.panelReports = [] → t.verdicts = r :: rest →
        exec .frameBegin s =
          becomes s { d with trunk := { sent .verdictReport (verdictReportPayload r) with verdicts := rest } }) ∧
      (∀ (i : Nat) (rest : List Nat) (x : CropSlot), t.replies = [] → d.cond.noticeQueue = [] → t.panelReports = [] →
        t.verdicts = [] → d.cropQueue = i :: rest → i ∉ rest → d.crops[i]? = some x →
        exec .frameBegin s =
          becomes s { d with
            trunk := sent .cropReport (cropReportPayload i x),
            crops := d.crops.set i { x with state := .free, owner := none },
            cropQueue := rest }) ∧
      (t.replies = [] → d.cond.noticeQueue = [] → t.panelReports = [] → t.verdicts = [] → d.cropQueue = [] →
        exec .frameBegin s = becomes s d)) ∧
    (∀ u : State, exec .frameComplete s = .next u → u.dev.trkTx = [.sync]) ∧
    (∀ f : Frame, t.frame = some f → d.trkTx = f.words) ∧
    (let byte (x : Nat) : Byte := BitVec.ofNat 8 x
     let bit (b : Bool) (x : Nat) : Nat := if b then x else 0
     (∀ r : Reply, replyPayload r = [r.tag, r.code, byte (replyCodeCode r.outcome)] ++ r.body) ∧
     (∀ (u : CondUnit) (i : SetId),
       noticePayload u i = [setByte i] ++ be 2 (u.view i).toNat ++ be 2 (u.get i).mask.toNat) ∧
     (∀ r : PanelReport,
       let c := r.ctx
       panelReportPayload r =
         [laneByte r.lane, slotByte c.num] ++ be 2 c.seq.toNat ++ [slotByte c.slot] ++ be 4 c.recipeId.toNat ++
         be 4 c.edge.toNat ++ be 4 c.scanStart.toNat ++ be 2 (c.firstTag.getD 0).toNat ++
         (match c.reg.state with
          | .pending => [0, 0, 0, 0]
          | .found dx dy => [1] ++ signed dx ++ signed dy ++ [0]
          | .failed x => [2, 0, 0, byte (regCauseCode x)]) ++
         [byte c.reg.detail.length] ++ c.reg.detail.flatMap (fun e => byte e.1 ::
           (match e.2 with
            | .found a dx dy => [0] ++ be 2 a ++ signed dx ++ signed dy
            | .notFound a => [1] ++ be 2 a ++ [0, 0]
            | .lost => [2, 0, 0, 0, 0]
            | .notClosed => [3, 0, 0, 0, 0])) ++
         be 2 r.jointCount ++ be 2 c.opened ++ be 2 c.pass ++ be 2 c.marginal ++ be 2 c.defect ++
         be 2 (c.causes.registration + c.causes.windowOverflow + c.causes.aborted + c.causes.dataLoss + c.causes.warmup +
           c.causes.overlap) ++
         be 2 c.injected ++ be 2 c.causes.registration ++ be 2 c.causes.windowOverflow ++ be 2 c.causes.aborted ++
         be 2 c.causes.dataLoss ++ be 2 c.causes.warmup ++ be 2 c.causes.overlap ++ be 2 c.verdictsLost ++
         be 2 c.cropsMissed ++
         [byte (abortCode c.abort), byte (decisionCode c.decision), byte (gateActionCode c.gateAction),
          byte (bit c.late 1 + bit c.firstTag.isSome 2 + bit c.reg.injected 4)]) ∧
     (∀ (i : Nat) (x : CropSlot) (o : CropOwner), x.owner = some o →
       cropReportPayload i x =
         [byte i, laneByte o.lane] ++ be 2 o.seq.toNat ++ be 2 o.joint ++ be 2 o.firstCol ++ be 2 o.firstLine ++
         [byte o.width, byte o.height, o.phases] ++ (List.range 12288).map (fun a => x.planes.read a)))

/-- The stall timer: its expiry raises TrunkStall in the device set and counts the fault on both lanes, whose gates are then
as the fault leaves them (`fault`, FaultAnswered's), and the timer runs on from the stall limit. Configure Device replaces
the limit, and a running timer is loaded afresh from it; a limit of 0 is refused with RefusedRange (R171, R173). After any
change, judged at the end of an event (the model's choice, log 38), the timer runs exactly while credit is zero and an
outbound queue holds an item, from the stall limit when the condition has just begun; nothing else is touched (R171; the row
makes a running timer expire whatever is left of it, log 8). -/
def Obligations.StallTimerRuns : Prop :=
  (∀ (s : State) (tag : Byte) (limit : Word16),
    let t := s.dev.trunk
    (s.dev.resetLow = false → t.stallLeft.isSome = true → s.dev.stallRuns = true →
      ∃ u : State, exec .stallTimerExpiry s = .next u ∧
        (u.dev.cond.get .device).raised &&& DeviceCond.trunkStall.bit ≠ 0 ∧
        (∀ l : LaneId, (u.dev.lane l).gate.counts.trunkStall =
          min 255 ((s.dev.lane l).gate.counts.trunkStall + 1) ∧
          (u.dev.lane l).gate = ((s.dev.fault l .trunkStall).lane l).gate) ∧
        u.dev.trunk = { t with stallLeft := some (t.stallLimit.toNat * 1000) }) ∧
    (Taken s →
      exec (.configureDevice tag limit) s =
        if limit = 0 then answers s s.dev tag 0x72 .refusedRange []
        else answers s { s.dev with trunk := { t with
          stallLimit := limit, stallLeft := t.stallLeft.map (fun _ => limit.toNat * 1000) } } tag 0x72 .done [])) ∧
  ∀ d : Device,
    let waits := d.trunk.credit = 0 ∧ (d.trunk.replies ≠ [] ∨ d.cond.noticeQueue ≠ [] ∨ d.trunk.panelReports ≠ [] ∨
      d.trunk.verdicts ≠ [] ∨ d.cropQueue ≠ [])
    (waits → d.settleStall = { d with trunk := { d.trunk with
      stallLeft := some (d.trunk.stallLeft.getD (d.trunk.stallLimit.toNat * 1000)) } }) ∧
    (¬ waits → d.settleStall = { d with trunk := { d.trunk with stallLeft := none } })

/-! ## Conditions -/

/-- Read Conditions: the record, the set's conditions with its summaries and its mask, in a Done reply, the conditions set,
summaries excluded, as the set's snapshot, and nothing else (R180; the record's layout by log 36). Set Mask: the list becomes
the set's mask with a Done reply and no condition changes its state (R178). A set outside the seven, or a listed condition
the set does not have, is refused with RefusedRange and nothing changes. A summary stands set exactly while a condition of
the set below, its own summaries included, is set and unmasked: Port0 and Port1 in the lane's set, LaneA and LaneB in the
device set (R178). Every change of the condition unit, a raising or a new mask among them, queues the notice of each set that
had no condition set and unmasked before it and has one after it, unless its notice is pending already, the ports' sets
before the lanes' and the lanes' before the device set, and marks it pending; no other notice is queued, and no condition,
mask or snapshot changes by it (R177, R179). -/
def Obligations.ConditionReadsAndMasks : Prop :=
  (∀ (tag : Byte) (i : SetId) (b : Byte) (list : Word16) (s : State), Taken s →
    exec (.readConditions tag (setByte i)) s =
      answers s { s.dev with cond := s.dev.cond.set i { s.dev.cond.get i with snapshot := some (s.dev.cond.get i).raised } }
        tag 0x78 .done (conditionsRecord s.dev.cond i) ∧
    conditionsRecord s.dev.cond i = be 2 (s.dev.cond.view i).toNat ++ be 2 (s.dev.cond.get i).mask.toNat ∧
    (6 < b.toNat →
      exec (.readConditions tag b) s = answers s s.dev tag 0x78 .refusedRange [] ∧
      exec (.setMask tag b list) s = answers s s.dev tag 0x7A .refusedRange []) ∧
    (list &&& ~~~(ownBits i ||| summaryBits i) ≠ 0 →
      exec (.setMask tag (setByte i) list) s = answers s s.dev tag 0x7A .refusedRange []) ∧
    (list &&& ~~~(ownBits i ||| summaryBits i) = 0 →
      exec (.setMask tag (setByte i) list) s =
        answers s { s.dev with cond := s.dev.cond.settle (s.dev.cond.set i { s.dev.cond.get i with mask := list }) }
          tag 0x7A .done [])) ∧
  (∀ (d : Device) (i : SetId) (list : Word16),
    d.raise i list =
      { d with cond := d.cond.settle (d.cond.set i { d.cond.get i with raised := (d.cond.get i).raised ||| list }) }) ∧
  (∀ (u : CondUnit) (l : LaneId) (p : PortId),
    let low (i : SetId) (bit : Word16) : Word16 := if u.view i &&& (u.get i).mask ≠ 0 then bit else 0
    u.view (.port p) = (u.get (.port p)).raised ∧
    u.view (.lane l) =
      (u.get (.lane l)).raised ||| low (.port ⟨l, .p0⟩) 0x1000 ||| low (.port ⟨l, .p1⟩) 0x2000 ∧
    u.view .device = (u.get .device).raised ||| low (.lane .a) 0x100 ||| low (.lane .b) 0x200) ∧
  (∀ (old new : CondUnit) (i : SetId),
    let passes (j : SetId) : Prop := old.view j &&& (old.get j).mask = 0 ∧ new.view j &&& (new.get j).mask ≠ 0
    let t := old.settle new
    (t.get i).raised = (new.get i).raised ∧ (t.get i).mask = (new.get i).mask ∧
    (t.get i).snapshot = (new.get i).snapshot ∧
    ((t.get i).noticePending = true ↔ (new.get i).noticePending = true ∨ passes i) ∧
    (∃ queued : List SetId, t.noticeQueue = new.noticeQueue ++ queued ∧
      (i ∈ queued ↔ (new.get i).noticePending = false ∧ passes i) ∧
      queued.Sublist [.port ⟨.a, .p0⟩, .port ⟨.a, .p1⟩, .port ⟨.b, .p0⟩, .port ⟨.b, .p1⟩, .lane .a, .lane .b, .device]))

/-- Clear Conditions listing conditions of the set only: each listed condition of the snapshot is cleared, but for those
the set's owner raises again; the snapshot becomes absent; ClearInhibited is raised in the device set exactly when a listed
condition was set and not in the snapshot. The next state is given whole: the order is judged once it is over, a set that it
takes from nothing to report to something queueing its notice (R179, R182; `settle` is ConditionReadsAndMasks's). A set outside the seven, a summary or a condition the set does not have is
refused with RefusedRange (R181, R182). -/
def Obligations.ClearConditionsAnswered : Prop :=
  ∀ (tag : Byte) (i : SetId) (list : Word16) (s : State), Taken s →
    let c := s.dev.cond.get i
    let snap := c.snapshot.getD 0
    let inhibited : Word16 := if list &&& c.raised &&& ~~~snap ≠ 0 then DeviceCond.clearInhibited.bit else 0
    (∀ b : Byte, 6 < b.toNat → exec (.clearConditions tag b list) s = answers s s.dev tag 0x79 .refusedRange []) ∧
    (list &&& ~~~(ownBits i) ≠ 0 →
      exec (.clearConditions tag (setByte i) list) s = answers s s.dev tag 0x79 .refusedRange []) ∧
    (list &&& ~~~(ownBits i) = 0 →
      (let again : Word16 :=
         match i with
         | .port p => (if (s.dev.port p).noiseMonitor = 0 then PortCond.noiseThreshold.bit else 0) |||
             (if (s.dev.port p).checkMonitor = 0 then PortCond.checkThreshold.bit else 0)
         | .device | .lane _ => 0
       let cleared := s.dev.cond.set i { c with raised := (c.raised &&& ~~~(list &&& snap)) ||| again, snapshot := none }
       let device := cleared.get .device
       let new := cleared.set .device { device with raised := device.raised ||| inhibited }
       exec (.clearConditions tag (setByte i) list) s =
         answers s { s.dev with cond := s.dev.cond.settle new } tag 0x79 .done []) ∧
      ∃ t : State, exec (.clearConditions tag (setByte i) list) s = .next t ∧
        (t.dev.cond.get i).raised =
          ((c.raised &&& ~~~(list &&& snap)) ||| s.dev.standingOf i ||| (if i = .device then inhibited else 0)) ∧
        (i ≠ .device → (t.dev.cond.get .device).raised = (s.dev.cond.get .device).raised ||| inhibited) ∧
        (t.dev.cond.get i).snapshot = none ∧ (t.dev.cond.get i).mask = c.mask ∧
        t.dev.trunk.replies =
          s.dev.trunk.replies ++ [{ tag := tag, code := 0x79, outcome := .done, body := [] }] ∧
        t.dev.lanes = s.dev.lanes ∧ t.dev.slots = s.dev.slots)

/-- Every step keeps this: each set stands in the notice queue at most once, and exactly while its notice pending mark is
set (R179). -/
def Obligations.NoticesStayAgreeing : Prop := KeptByStep NoticesAgree

/-! ## Properties every step keeps -/

/-- Every step keeps this: the reply queue with its held place holds at most 16, the inbound order queue at most 16, the
credit count stays within 255, and an order waits only while the reply queue has no room (R165 to R167); and it keeps
this: while the reset pin is low the link is Down, the sync run zero and the credit count zero (R161). -/
def Obligations.TrunkStaysWithin : Prop := KeptByStep TrunkWithin ∧ KeptByStep HeldInReset

/-- Every step keeps this: the close queue holds at most 128 windows, and whenever it has a free place the waiting order is
empty (R97, R106); and it keeps this: the verdict queue holds at most 1,024 reports, the panel report queue at most 8, and
a context waits in the retire order only while that queue is full (R106, R142). -/
def Obligations.QueuesStayWithin : Prop := KeptByStep CloseQueueWithin ∧ KeptByStep ReportsWithin

/-- The state after reset has every property that the statements of this file say a step keeps. -/
def Obligations.ResetHasEveryProperty : Prop :=
  let d := State.reset.dev
  JointsAccounted d ∧ CropsAgree d ∧ NumbersFresh d ∧ ReferencedSealed d ∧ PixelsCanonical d ∧ PortsWithin d ∧
    LanesWithin d ∧ LanesOrdered d ∧ NoticesAgree d ∧ TrunkWithin d ∧ CloseQueueWithin d ∧ ReportsWithin d ∧ HeldInReset d
end

