-- ==== Sys2Proof/Laws/State.lean ====
section
/-! SUPPORT. One lemma per field and update of the state: what each of the plain updates leaves as it was. -/

namespace Sys2Proof.Machine

/-! ## Containers -/

@[simp] theorem PerLane.get_set_same {α : Type} (x : PerLane α) (l : LaneId) (v : α) : (x.set l v).get l = v := by
  cases l <;> rfl
theorem PerLane.get_set_ne {α : Type} (x : PerLane α) (l m : LaneId) (v : α) (h : m ≠ l) : (x.set l v).get m = x.get m := by
  cases l <;> cases m <;> first | rfl | exact absurd rfl h
theorem PerLane.get_set {α : Type} (x : PerLane α) (l m : LaneId) (v : α) :
    (x.set l v).get m = if m = l then v else x.get m := by
  cases l <;> cases m <;> rfl
@[simp] theorem PerLane.set_get {α : Type} (x : PerLane α) (l : LaneId) : x.set l (x.get l) = x := by
  cases l <;> rfl
@[simp] theorem PerLane.set_set {α : Type} (x : PerLane α) (l : LaneId) (v w : α) : (x.set l v).set l w = x.set l w := by
  cases l <;> rfl
@[simp] theorem PerPort.get_set_same {α : Type} (x : PerPort α) (p : LocalPort) (v : α) : (x.set p v).get p = v := by
  cases p <;> rfl
theorem PerPort.get_set {α : Type} (x : PerPort α) (p q : LocalPort) (v : α) :
    (x.set p v).get q = if q = p then v else x.get q := by
  cases p <;> cases q <;> rfl
@[simp] theorem PerPort.set_get {α : Type} (x : PerPort α) (p : LocalPort) : x.set p (x.get p) = x := by
  cases p <;> rfl
@[simp] theorem PerPort.set_set {α : Type} (x : PerPort α) (p : LocalPort) (v w : α) : (x.set p v).set p w = x.set p w := by
  cases p <;> rfl
theorem PerPhase.get_set {α : Type} (x : PerPhase α) (p q : Phase) (v : α) :
    (x.set p v).get q = if q = p then v else x.get q := by
  cases p <;> cases q <;> rfl
theorem PerFault.get_set {α : Type} (x : PerFault α) (j k : FaultKind) (v : α) :
    (x.set j v).get k = if k = j then v else x.get k := by
  cases j <;> cases k <;> rfl
@[simp] theorem Quad.get_set_same {α : Type} (x : Quad α) (i : Fin 4) (v : α) : (x.set i v).get i = v := by
  match i with
  | 0 | 1 | 2 | 3 => rfl
theorem Quad.get_set {α : Type} (x : Quad α) (i j : Fin 4) (v : α) :
    (x.set i v).get j = if j = i then v else x.get j := by
  match i, j with
  | 0, 0 | 0, 1 | 0, 2 | 0, 3 | 1, 0 | 1, 1 | 1, 2 | 1, 3 | 2, 0 | 2, 1 | 2, 2 | 2, 3 | 3, 0 | 3, 1 | 3, 2 | 3, 3 => rfl

theorem LaneId.cases_eq (l : LaneId) : l = .a ∨ l = .b := by cases l <;> simp

/-! ## The device: what a change of lanes, slots, trunk or conditions leaves -/

@[simp] theorem Device.setLane_resetLow (d : Device) (l : LaneId) (L : Lane) : (d.setLane l L).resetLow = d.resetLow := rfl
@[simp] theorem Device.setLane_trkSd (d : Device) (l : LaneId) (L : Lane) : (d.setLane l L).trkSd = d.trkSd := rfl
@[simp] theorem Device.setLane_slots (d : Device) (l : LaneId) (L : Lane) : (d.setLane l L).slots = d.slots := rfl
@[simp] theorem Device.setLane_validation (d : Device) (l : LaneId) (L : Lane) : (d.setLane l L).validation = d.validation := rfl
@[simp] theorem Device.setLane_crops (d : Device) (l : LaneId) (L : Lane) : (d.setLane l L).crops = d.crops := rfl
@[simp] theorem Device.setLane_cropQueue (d : Device) (l : LaneId) (L : Lane) : (d.setLane l L).cropQueue = d.cropQueue := rfl
@[simp] theorem Device.setLane_closeQueue (d : Device) (l : LaneId) (L : Lane) : (d.setLane l L).closeQueue = d.closeQueue := rfl
@[simp] theorem Device.setLane_waiting (d : Device) (l : LaneId) (L : Lane) : (d.setLane l L).waiting = d.waiting := rfl
@[simp] theorem Device.setLane_evaluation (d : Device) (l : LaneId) (L : Lane) : (d.setLane l L).evaluation = d.evaluation := rfl
@[simp] theorem Device.setLane_retireOrder (d : Device) (l : LaneId) (L : Lane) : (d.setLane l L).retireOrder = d.retireOrder := rfl
@[simp] theorem Device.setLane_cond (d : Device) (l : LaneId) (L : Lane) : (d.setLane l L).cond = d.cond := rfl
@[simp] theorem Device.setLane_trunk (d : Device) (l : LaneId) (L : Lane) : (d.setLane l L).trunk = d.trunk := rfl
@[simp] theorem Device.setLane_freeIndex (d : Device) (l : LaneId) (L : Lane) : (d.setLane l L).freeIndex = d.freeIndex := rfl
@[simp] theorem Device.modLane_resetLow (d : Device) (l : LaneId) (f : Lane → Lane) : (d.modLane l f).resetLow = d.resetLow := rfl
@[simp] theorem Device.modLane_trkSd (d : Device) (l : LaneId) (f : Lane → Lane) : (d.modLane l f).trkSd = d.trkSd := rfl
@[simp] theorem Device.modLane_slots (d : Device) (l : LaneId) (f : Lane → Lane) : (d.modLane l f).slots = d.slots := rfl
@[simp] theorem Device.modLane_validation (d : Device) (l : LaneId) (f : Lane → Lane) : (d.modLane l f).validation = d.validation := rfl
@[simp] theorem Device.modLane_crops (d : Device) (l : LaneId) (f : Lane → Lane) : (d.modLane l f).crops = d.crops := rfl
@[simp] theorem Device.modLane_cropQueue (d : Device) (l : LaneId) (f : Lane → Lane) : (d.modLane l f).cropQueue = d.cropQueue := rfl
@[simp] theorem Device.modLane_closeQueue (d : Device) (l : LaneId) (f : Lane → Lane) : (d.modLane l f).closeQueue = d.closeQueue := rfl
@[simp] theorem Device.modLane_waiting (d : Device) (l : LaneId) (f : Lane → Lane) : (d.modLane l f).waiting = d.waiting := rfl
@[simp] theorem Device.modLane_evaluation (d : Device) (l : LaneId) (f : Lane → Lane) : (d.modLane l f).evaluation = d.evaluation := rfl
@[simp] theorem Device.modLane_retireOrder (d : Device) (l : LaneId) (f : Lane → Lane) : (d.modLane l f).retireOrder = d.retireOrder := rfl
@[simp] theorem Device.modLane_cond (d : Device) (l : LaneId) (f : Lane → Lane) : (d.modLane l f).cond = d.cond := rfl
@[simp] theorem Device.modLane_trunk (d : Device) (l : LaneId) (f : Lane → Lane) : (d.modLane l f).trunk = d.trunk := rfl
@[simp] theorem Device.modLane_freeIndex (d : Device) (l : LaneId) (f : Lane → Lane) : (d.modLane l f).freeIndex = d.freeIndex := rfl
@[simp] theorem Device.setPort_resetLow (d : Device) (p : PortId) (x : Port) : (d.setPort p x).resetLow = d.resetLow := rfl
@[simp] theorem Device.setPort_trkSd (d : Device) (p : PortId) (x : Port) : (d.setPort p x).trkSd = d.trkSd := rfl
@[simp] theorem Device.setPort_slots (d : Device) (p : PortId) (x : Port) : (d.setPort p x).slots = d.slots := rfl
@[simp] theorem Device.setPort_validation (d : Device) (p : PortId) (x : Port) : (d.setPort p x).validation = d.validation := rfl
@[simp] theorem Device.setPort_crops (d : Device) (p : PortId) (x : Port) : (d.setPort p x).crops = d.crops := rfl
@[simp] theorem Device.setPort_cropQueue (d : Device) (p : PortId) (x : Port) : (d.setPort p x).cropQueue = d.cropQueue := rfl
@[simp] theorem Device.setPort_closeQueue (d : Device) (p : PortId) (x : Port) : (d.setPort p x).closeQueue = d.closeQueue := rfl
@[simp] theorem Device.setPort_waiting (d : Device) (p : PortId) (x : Port) : (d.setPort p x).waiting = d.waiting := rfl
@[simp] theorem Device.setPort_evaluation (d : Device) (p : PortId) (x : Port) : (d.setPort p x).evaluation = d.evaluation := rfl
@[simp] theorem Device.setPort_retireOrder (d : Device) (p : PortId) (x : Port) : (d.setPort p x).retireOrder = d.retireOrder := rfl
@[simp] theorem Device.setPort_cond (d : Device) (p : PortId) (x : Port) : (d.setPort p x).cond = d.cond := rfl
@[simp] theorem Device.setPort_trunk (d : Device) (p : PortId) (x : Port) : (d.setPort p x).trunk = d.trunk := rfl
@[simp] theorem Device.setPort_freeIndex (d : Device) (p : PortId) (x : Port) : (d.setPort p x).freeIndex = d.freeIndex := rfl
@[simp] theorem Device.modCtx_resetLow (d : Device) (l : LaneId) (n : Fin 4) (f : Context → Context) : (d.modCtx l n f).resetLow = d.resetLow := rfl
@[simp] theorem Device.modCtx_trkSd (d : Device) (l : LaneId) (n : Fin 4) (f : Context → Context) : (d.modCtx l n f).trkSd = d.trkSd := rfl
@[simp] theorem Device.modCtx_slots (d : Device) (l : LaneId) (n : Fin 4) (f : Context → Context) : (d.modCtx l n f).slots = d.slots := rfl
@[simp] theorem Device.modCtx_validation (d : Device) (l : LaneId) (n : Fin 4) (f : Context → Context) : (d.modCtx l n f).validation = d.validation := rfl
@[simp] theorem Device.modCtx_crops (d : Device) (l : LaneId) (n : Fin 4) (f : Context → Context) : (d.modCtx l n f).crops = d.crops := rfl
@[simp] theorem Device.modCtx_cropQueue (d : Device) (l : LaneId) (n : Fin 4) (f : Context → Context) : (d.modCtx l n f).cropQueue = d.cropQueue := rfl
@[simp] theorem Device.modCtx_closeQueue (d : Device) (l : LaneId) (n : Fin 4) (f : Context → Context) : (d.modCtx l n f).closeQueue = d.closeQueue := rfl
@[simp] theorem Device.modCtx_waiting (d : Device) (l : LaneId) (n : Fin 4) (f : Context → Context) : (d.modCtx l n f).waiting = d.waiting := rfl
@[simp] theorem Device.modCtx_evaluation (d : Device) (l : LaneId) (n : Fin 4) (f : Context → Context) : (d.modCtx l n f).evaluation = d.evaluation := rfl
@[simp] theorem Device.modCtx_retireOrder (d : Device) (l : LaneId) (n : Fin 4) (f : Context → Context) : (d.modCtx l n f).retireOrder = d.retireOrder := rfl
@[simp] theorem Device.modCtx_cond (d : Device) (l : LaneId) (n : Fin 4) (f : Context → Context) : (d.modCtx l n f).cond = d.cond := rfl
@[simp] theorem Device.modCtx_trunk (d : Device) (l : LaneId) (n : Fin 4) (f : Context → Context) : (d.modCtx l n f).trunk = d.trunk := rfl
@[simp] theorem Device.modCtx_freeIndex (d : Device) (l : LaneId) (n : Fin 4) (f : Context → Context) : (d.modCtx l n f).freeIndex = d.freeIndex := rfl
@[simp] theorem Device.setSlot_resetLow (d : Device) (i : Fin 4) (x : Slot) : (d.setSlot i x).resetLow = d.resetLow := rfl
@[simp] theorem Device.setSlot_trkSd (d : Device) (i : Fin 4) (x : Slot) : (d.setSlot i x).trkSd = d.trkSd := rfl
@[simp] theorem Device.setSlot_validation (d : Device) (i : Fin 4) (x : Slot) : (d.setSlot i x).validation = d.validation := rfl
@[simp] theorem Device.setSlot_lanes (d : Device) (i : Fin 4) (x : Slot) : (d.setSlot i x).lanes = d.lanes := rfl
@[simp] theorem Device.setSlot_crops (d : Device) (i : Fin 4) (x : Slot) : (d.setSlot i x).crops = d.crops := rfl
@[simp] theorem Device.setSlot_cropQueue (d : Device) (i : Fin 4) (x : Slot) : (d.setSlot i x).cropQueue = d.cropQueue := rfl
@[simp] theorem Device.setSlot_closeQueue (d : Device) (i : Fin 4) (x : Slot) : (d.setSlot i x).closeQueue = d.closeQueue := rfl
@[simp] theorem Device.setSlot_waiting (d : Device) (i : Fin 4) (x : Slot) : (d.setSlot i x).waiting = d.waiting := rfl
@[simp] theorem Device.setSlot_evaluation (d : Device) (i : Fin 4) (x : Slot) : (d.setSlot i x).evaluation = d.evaluation := rfl
@[simp] theorem Device.setSlot_retireOrder (d : Device) (i : Fin 4) (x : Slot) : (d.setSlot i x).retireOrder = d.retireOrder := rfl
@[simp] theorem Device.setSlot_cond (d : Device) (i : Fin 4) (x : Slot) : (d.setSlot i x).cond = d.cond := rfl
@[simp] theorem Device.setSlot_trunk (d : Device) (i : Fin 4) (x : Slot) : (d.setSlot i x).trunk = d.trunk := rfl
@[simp] theorem Device.setSlot_freeIndex (d : Device) (i : Fin 4) (x : Slot) : (d.setSlot i x).freeIndex = d.freeIndex := rfl
@[simp] theorem Device.modTrunk_resetLow (d : Device) (f : Trunk → Trunk) : (d.modTrunk f).resetLow = d.resetLow := rfl
@[simp] theorem Device.modTrunk_trkSd (d : Device) (f : Trunk → Trunk) : (d.modTrunk f).trkSd = d.trkSd := rfl
@[simp] theorem Device.modTrunk_slots (d : Device) (f : Trunk → Trunk) : (d.modTrunk f).slots = d.slots := rfl
@[simp] theorem Device.modTrunk_validation (d : Device) (f : Trunk → Trunk) : (d.modTrunk f).validation = d.validation := rfl
@[simp] theorem Device.modTrunk_lanes (d : Device) (f : Trunk → Trunk) : (d.modTrunk f).lanes = d.lanes := rfl
@[simp] theorem Device.modTrunk_crops (d : Device) (f : Trunk → Trunk) : (d.modTrunk f).crops = d.crops := rfl
@[simp] theorem Device.modTrunk_cropQueue (d : Device) (f : Trunk → Trunk) : (d.modTrunk f).cropQueue = d.cropQueue := rfl
@[simp] theorem Device.modTrunk_closeQueue (d : Device) (f : Trunk → Trunk) : (d.modTrunk f).closeQueue = d.closeQueue := rfl
@[simp] theorem Device.modTrunk_waiting (d : Device) (f : Trunk → Trunk) : (d.modTrunk f).waiting = d.waiting := rfl
@[simp] theorem Device.modTrunk_evaluation (d : Device) (f : Trunk → Trunk) : (d.modTrunk f).evaluation = d.evaluation := rfl
@[simp] theorem Device.modTrunk_retireOrder (d : Device) (f : Trunk → Trunk) : (d.modTrunk f).retireOrder = d.retireOrder := rfl
@[simp] theorem Device.modTrunk_cond (d : Device) (f : Trunk → Trunk) : (d.modTrunk f).cond = d.cond := rfl
@[simp] theorem Device.modTrunk_freeIndex (d : Device) (f : Trunk → Trunk) : (d.modTrunk f).freeIndex = d.freeIndex := rfl
@[simp] theorem Device.updateConds_resetLow (d : Device) (f : CondUnit → CondUnit) : (d.updateConds f).resetLow = d.resetLow := rfl
@[simp] theorem Device.updateConds_trkSd (d : Device) (f : CondUnit → CondUnit) : (d.updateConds f).trkSd = d.trkSd := rfl
@[simp] theorem Device.updateConds_slots (d : Device) (f : CondUnit → CondUnit) : (d.updateConds f).slots = d.slots := rfl
@[simp] theorem Device.updateConds_validation (d : Device) (f : CondUnit → CondUnit) : (d.updateConds f).validation = d.validation := rfl
@[simp] theorem Device.updateConds_lanes (d : Device) (f : CondUnit → CondUnit) : (d.updateConds f).lanes = d.lanes := rfl
@[simp] theorem Device.updateConds_crops (d : Device) (f : CondUnit → CondUnit) : (d.updateConds f).crops = d.crops := rfl
@[simp] theorem Device.updateConds_cropQueue (d : Device) (f : CondUnit → CondUnit) : (d.updateConds f).cropQueue = d.cropQueue := rfl
@[simp] theorem Device.updateConds_closeQueue (d : Device) (f : CondUnit → CondUnit) : (d.updateConds f).closeQueue = d.closeQueue := rfl
@[simp] theorem Device.updateConds_waiting (d : Device) (f : CondUnit → CondUnit) : (d.updateConds f).waiting = d.waiting := rfl
@[simp] theorem Device.updateConds_evaluation (d : Device) (f : CondUnit → CondUnit) : (d.updateConds f).evaluation = d.evaluation := rfl
@[simp] theorem Device.updateConds_retireOrder (d : Device) (f : CondUnit → CondUnit) : (d.updateConds f).retireOrder = d.retireOrder := rfl
@[simp] theorem Device.updateConds_trunk (d : Device) (f : CondUnit → CondUnit) : (d.updateConds f).trunk = d.trunk := rfl
@[simp] theorem Device.updateConds_freeIndex (d : Device) (f : CondUnit → CondUnit) : (d.updateConds f).freeIndex = d.freeIndex := rfl
@[simp] theorem Device.modCrop_resetLow (d : Device) (i : Nat) (f : CropSlot → CropSlot) : (d.modCrop i f).resetLow = d.resetLow := rfl
@[simp] theorem Device.modCrop_trkSd (d : Device) (i : Nat) (f : CropSlot → CropSlot) : (d.modCrop i f).trkSd = d.trkSd := rfl
@[simp] theorem Device.modCrop_slots (d : Device) (i : Nat) (f : CropSlot → CropSlot) : (d.modCrop i f).slots = d.slots := rfl
@[simp] theorem Device.modCrop_validation (d : Device) (i : Nat) (f : CropSlot → CropSlot) : (d.modCrop i f).validation = d.validation := rfl
@[simp] theorem Device.modCrop_lanes (d : Device) (i : Nat) (f : CropSlot → CropSlot) : (d.modCrop i f).lanes = d.lanes := rfl
@[simp] theorem Device.modCrop_cropQueue (d : Device) (i : Nat) (f : CropSlot → CropSlot) : (d.modCrop i f).cropQueue = d.cropQueue := rfl
@[simp] theorem Device.modCrop_closeQueue (d : Device) (i : Nat) (f : CropSlot → CropSlot) : (d.modCrop i f).closeQueue = d.closeQueue := rfl
@[simp] theorem Device.modCrop_waiting (d : Device) (i : Nat) (f : CropSlot → CropSlot) : (d.modCrop i f).waiting = d.waiting := rfl
@[simp] theorem Device.modCrop_evaluation (d : Device) (i : Nat) (f : CropSlot → CropSlot) : (d.modCrop i f).evaluation = d.evaluation := rfl
@[simp] theorem Device.modCrop_retireOrder (d : Device) (i : Nat) (f : CropSlot → CropSlot) : (d.modCrop i f).retireOrder = d.retireOrder := rfl
@[simp] theorem Device.modCrop_cond (d : Device) (i : Nat) (f : CropSlot → CropSlot) : (d.modCrop i f).cond = d.cond := rfl
@[simp] theorem Device.modCrop_trunk (d : Device) (i : Nat) (f : CropSlot → CropSlot) : (d.modCrop i f).trunk = d.trunk := rfl
@[simp] theorem Device.modCrop_freeIndex (d : Device) (i : Nat) (f : CropSlot → CropSlot) : (d.modCrop i f).freeIndex = d.freeIndex := rfl

@[simp] theorem Device.lane_setLane (d : Device) (l : LaneId) (L : Lane) : (d.setLane l L).lane l = L :=
  PerLane.get_set_same d.lanes l L
theorem Device.lane_setLane_of (d : Device) (l m : LaneId) (L : Lane) :
    (d.setLane l L).lane m = if m = l then L else d.lane m := PerLane.get_set d.lanes l m L
@[simp] theorem Device.lane_modLane (d : Device) (l : LaneId) (f : Lane → Lane) : (d.modLane l f).lane l = f (d.lane l) :=
  PerLane.get_set_same d.lanes l _
theorem Device.lane_modLane_of (d : Device) (l m : LaneId) (f : Lane → Lane) :
    (d.modLane l f).lane m = if m = l then f (d.lane l) else d.lane m := PerLane.get_set d.lanes l m _
@[simp] theorem Device.modTrunk_trunk (d : Device) (f : Trunk → Trunk) : (d.modTrunk f).trunk = f d.trunk := rfl
@[simp] theorem Device.modTrunk_lane (d : Device) (f : Trunk → Trunk) (l : LaneId) : (d.modTrunk f).lane l = d.lane l := rfl
@[simp] theorem Device.updateConds_lane (d : Device) (f : CondUnit → CondUnit) (l : LaneId) :
    (d.updateConds f).lane l = d.lane l := rfl
@[simp] theorem Device.setSlot_lane (d : Device) (i : Fin 4) (x : Slot) (l : LaneId) : (d.setSlot i x).lane l = d.lane l := rfl

/-! ## A lane: what a change of one context leaves -/

@[simp] theorem Lane.modCtx_mode (L : Lane) (n : Fin 4) (f : Context → Context) : (L.modCtx n f).mode = L.mode := rfl
@[simp] theorem Lane.modCtx_settings (L : Lane) (n : Fin 4) (f : Context → Context) : (L.modCtx n f).settings = L.settings := rfl
@[simp] theorem Lane.modCtx_motion (L : Lane) (n : Fin 4) (f : Context → Context) : (L.modCtx n f).motion = L.motion := rfl
@[simp] theorem Lane.modCtx_strobe (L : Lane) (n : Fin 4) (f : Context → Context) : (L.modCtx n f).strobe = L.strobe := rfl
@[simp] theorem Lane.modCtx_light (L : Lane) (n : Fin 4) (f : Context → Context) : (L.modCtx n f).light = L.light := rfl
@[simp] theorem Lane.modCtx_warmupLeft (L : Lane) (n : Fin 4) (f : Context → Context) : (L.modCtx n f).warmupLeft = L.warmupLeft := rfl
@[simp] theorem Lane.modCtx_idleLeft (L : Lane) (n : Fin 4) (f : Context → Context) : (L.modCtx n f).idleLeft = L.idleLeft := rfl
@[simp] theorem Lane.modCtx_ports (L : Lane) (n : Fin 4) (f : Context → Context) : (L.modCtx n f).ports = L.ports := rfl
@[simp] theorem Lane.modCtx_reg (L : Lane) (n : Fin 4) (f : Context → Context) : (L.modCtx n f).reg = L.reg := rfl
@[simp] theorem Lane.modCtx_openList (L : Lane) (n : Fin 4) (f : Context → Context) : (L.modCtx n f).openList = L.openList := rfl
@[simp] theorem Lane.modCtx_resolved (L : Lane) (n : Fin 4) (f : Context → Context) : (L.modCtx n f).resolved = L.resolved := rfl
@[simp] theorem Lane.modCtx_lastServed (L : Lane) (n : Fin 4) (f : Context → Context) : (L.modCtx n f).lastServed = L.lastServed := rfl
@[simp] theorem Lane.modCtx_nextSeq (L : Lane) (n : Fin 4) (f : Context → Context) : (L.modCtx n f).nextSeq = L.nextSeq := rfl
@[simp] theorem Lane.modCtx_active (L : Lane) (n : Fin 4) (f : Context → Context) : (L.modCtx n f).active = L.active := rfl
@[simp] theorem Lane.modCtx_pendingRecipe (L : Lane) (n : Fin 4) (f : Context → Context) : (L.modCtx n f).pendingRecipe = L.pendingRecipe := rfl
@[simp] theorem Lane.modCtx_reportMode (L : Lane) (n : Fin 4) (f : Context → Context) : (L.modCtx n f).reportMode = L.reportMode := rfl
@[simp] theorem Lane.modCtx_reportDetail (L : Lane) (n : Fin 4) (f : Context → Context) : (L.modCtx n f).reportDetail = L.reportDetail := rfl
@[simp] theorem Lane.modCtx_gate (L : Lane) (n : Fin 4) (f : Context → Context) : (L.modCtx n f).gate = L.gate := rfl

end Sys2Proof.Machine
end

