-- ==== Sys2Proof/Laws/Buffers.lean ====
section
/-! SUPPORT. The pixel buffers and the recipe tables: every operation keeps the one canonical form, and what is read after
a write. -/

namespace Sys2Proof.Machine

/-! ## Pixel buffers -/

theorem Memory.wfFrom_weaken {lo hi : Nat} (h : lo ≤ hi) : ∀ {m : Memory}, Memory.wfFrom hi m = true → Memory.wfFrom lo m = true
  | [], _ => rfl
  | (k, v) :: r, hm => by
    simp only [Memory.wfFrom, Bool.and_eq_true, decide_eq_true_eq] at hm ⊢
    exact ⟨⟨by omega, hm.1.2⟩, hm.2⟩

/-- An address below every listed one reads 0. -/
theorem Memory.read_below : ∀ {m : Memory} {lo a : Nat}, Memory.wfFrom lo m = true → a < lo → Memory.read m a = 0
  | [], _, _, _, _ => rfl
  | (k, v) :: r, lo, a, hm, ha => by
    simp only [Memory.wfFrom, Bool.and_eq_true, decide_eq_true_eq] at hm
    have hk : k ≠ a := by omega
    simp only [Memory.read, hk, if_false]
    exact Memory.read_below hm.2 (by omega)

/-- Writing one pixel keeps the canonical form. -/
theorem Memory.write_wfFrom : ∀ {m : Memory} {lo a : Nat} (b : Byte), Memory.wfFrom lo m = true → lo ≤ a →
    Memory.wfFrom lo (Memory.write m a b) = true
  | [], lo, a, b, _, ha => by
    by_cases hb : b = 0#8 <;> simp [Memory.write, Memory.wfFrom, hb, ha]
  | (k, v) :: r, lo, a, b, hm, ha => by
    have hm' := hm
    simp only [Memory.wfFrom, Bool.and_eq_true, decide_eq_true_eq] at hm
    unfold Memory.write
    by_cases h1 : a < k
    · by_cases hb : b = 0#8
      · simpa [h1, hb] using hm'
      · rw [if_pos h1, if_neg (show ¬ b = 0 from hb)]
        simp only [Memory.wfFrom, Bool.and_eq_true, decide_eq_true_eq]
        exact ⟨⟨ha, hb⟩, ⟨by omega, hm.1.2⟩, hm.2⟩
    · by_cases h2 : a = k
      · subst h2
        by_cases hb : b = 0#8
        · simp only [Nat.lt_irrefl, hb, if_true, if_false]
          exact Memory.wfFrom_weaken (by omega) hm.2
        · rw [if_neg (Nat.lt_irrefl _), if_pos rfl, if_neg (show ¬ b = 0 from hb)]
          simp only [Memory.wfFrom, Bool.and_eq_true, decide_eq_true_eq]
          exact ⟨⟨ha, hb⟩, hm.2⟩
      · simp only [h1, h2, if_false, Memory.wfFrom, Bool.and_eq_true, decide_eq_true_eq]
        exact ⟨hm.1, Memory.write_wfFrom b hm.2 (by omega)⟩

/-- Writing one pixel keeps the canonical form. -/
theorem Memory.write_wf {m : Memory} (a : Nat) (b : Byte) (h : m.wf = true) : (Memory.write m a b).wf = true :=
  Memory.write_wfFrom b h (Nat.zero_le a)

/-- Writing pixels keeps the canonical form. -/
theorem Memory.writeList_wf : ∀ {m : Memory} (a : Nat) (bs : List Byte), m.wf = true → (m.writeList a bs).wf = true
  | _, _, [], h => h
  | _, a, b :: bs, h => Memory.writeList_wf (a + 1) bs (Memory.write_wf a b h)

/-- What is read after one pixel is written. -/
theorem Memory.read_write_from : ∀ {m : Memory} {lo : Nat} (a c : Nat) (b : Byte), Memory.wfFrom lo m = true →
    Memory.read (Memory.write m a b) c = if c = a then b else Memory.read m c
  | [], _, a, c, b, _ => by
    by_cases hb : b = 0#8 <;> by_cases hc : c = a
    · simp [Memory.write, Memory.read, hb]
    · simp [Memory.write, Memory.read, hb, hc]
    · simp [Memory.write, Memory.read, hb, hc]
    · simp [Memory.write, Memory.read, hb, hc, Ne.symm hc]
  | (k, v) :: r, lo, a, c, b, hm => by
    simp only [Memory.wfFrom, Bool.and_eq_true, decide_eq_true_eq] at hm
    have rest := Memory.read_write_from a c b hm.2
    have low : ∀ x, x ≤ k → Memory.read r x = 0 := fun x hx => Memory.read_below hm.2 (by omega)
    unfold Memory.write
    by_cases h1 : a < k
    · by_cases hb : b = 0#8
      · by_cases hc : c = a
        · have : k ≠ a := by omega
          simp [h1, hb, hc, Memory.read, this, low a (by omega)]
        · simp [h1, hb, hc]
      · by_cases hc : c = a
        · simp [h1, hb, hc, Memory.read]
        · simp [h1, hb, hc, Memory.read, Ne.symm hc]
    · by_cases h2 : a = k
      · subst h2
        by_cases hb : b = 0#8 <;> by_cases hc : c = a
        · simp [hb, hc, low a (Nat.le_refl a)]
        · simp [hb, hc, Memory.read, Ne.symm hc]
        · simp [hb, hc, Memory.read]
        · simp [hb, hc, Memory.read, Ne.symm hc]
      · by_cases hk : k = c
        · have : c ≠ a := by omega
          subst hk
          simp [h1, h2, Memory.read, this]
        · simp [h1, h2, Memory.read, hk, rest]

/-- What is read after one pixel is written. -/
theorem Memory.read_write {m : Memory} (a c : Nat) (b : Byte) (h : m.wf = true) :
    Memory.read (Memory.write m a b) c = if c = a then b else Memory.read m c := Memory.read_write_from a c b h

/-! ## Recipe tables -/

theorem Table.wfFrom_weaken {α : Type} {lo hi : Nat} (h : lo ≤ hi) :
    ∀ {t : Table α}, Table.wfFrom hi t = true → Table.wfFrom lo t = true
  | [], _ => rfl
  | (k, v) :: r, ht => by
    simp only [Table.wfFrom, Bool.and_eq_true, decide_eq_true_eq] at ht ⊢
    exact ⟨by omega, ht.2⟩

/-- Writing an entry keeps the indexes strictly rising. -/
theorem Table.put_wfFrom {α : Type} : ∀ {t : Table α} {lo i : Nat} (e : α), Table.wfFrom lo t = true → lo ≤ i →
    Table.wfFrom lo (Table.put t i e) = true
  | [], lo, i, e, _, hi => by simp [Table.put, Table.wfFrom, hi]
  | (k, v) :: r, lo, i, e, ht, hi => by
    simp only [Table.wfFrom, Bool.and_eq_true, decide_eq_true_eq] at ht
    unfold Table.put
    by_cases h1 : i < k
    · simp only [h1, if_true, Table.wfFrom, Bool.and_eq_true, decide_eq_true_eq]
      exact ⟨hi, by omega, ht.2⟩
    · by_cases h2 : i = k
      · subst h2
        simp only [Nat.lt_irrefl, if_true, if_false, Table.wfFrom, Bool.and_eq_true, decide_eq_true_eq]
        exact ⟨hi, ht.2⟩
      · simp only [h1, h2, if_false, Table.wfFrom, Bool.and_eq_true, decide_eq_true_eq]
        exact ⟨ht.1, Table.put_wfFrom e ht.2 (by omega)⟩

/-- Writing entries keeps the indexes strictly rising. -/
theorem Table.putList_wf {α : Type} : ∀ {t : Table α} (i : Nat) (es : List α), Table.wfFrom 0 t = true →
    Table.wfFrom 0 (Table.putList t i es) = true
  | _, _, [], h => h
  | _, i, e :: es, h => Table.putList_wf (i + 1) es (Table.put_wfFrom e h (Nat.zero_le i))

theorem Table.find_below {α : Type} : ∀ {t : Table α} {lo i : Nat}, Table.wfFrom lo t = true → i < lo → Table.find t i = none
  | [], _, _, _, _ => rfl
  | (k, v) :: r, lo, i, ht, hi => by
    simp only [Table.wfFrom, Bool.and_eq_true, decide_eq_true_eq] at ht
    have hk : k ≠ i := by omega
    simp only [Table.find, hk, if_false]
    exact Table.find_below ht.2 (by omega)

/-- What is found after an entry is written (R8). -/
theorem Table.find_put {α : Type} : ∀ {t : Table α} (i j : Nat) (e : α),
    Table.find (Table.put t i e) j = if j = i then some e else Table.find t j
  | [], i, j, e => by
    by_cases h : j = i
    · simp [Table.put, Table.find, h]
    · simp [Table.put, Table.find, h, Ne.symm h]
  | (k, v) :: r, i, j, e => by
    have rest := Table.find_put (t := r) i j e
    unfold Table.put
    by_cases h1 : i < k
    · by_cases h : j = i
      · simp [h1, h, Table.find]
      · simp [h1, h, Table.find, Ne.symm h]
    · by_cases h2 : i = k
      · subst h2
        by_cases h : j = i
        · simp [h, Table.find]
        · simp [h, Table.find, Ne.symm h]
      · by_cases hk : k = j
        · have : j ≠ i := by omega
          subst hk
          simp [h1, h2, Table.find, this]
        · simp [h1, h2, Table.find, hk, rest]

end Sys2Proof.Machine
end

