-- ==== Sys2Proof/Laws/Ops.lean ====
section
/-! SUPPORT. What each shared operation of the part leaves as it was, field by field, and the one lemma on what it does. -/

namespace Sys2Proof.Machine

/-! ## Replies and the stall timer -/

@[simp] theorem Device.reply_resetLow (d : Device) (tag code : Byte) (oc : ReplyCode) (body : List Byte) : (d.reply tag code oc body).resetLow = d.resetLow := rfl
@[simp] theorem Device.reply_trkSd (d : Device) (tag code : Byte) (oc : ReplyCode) (body : List Byte) : (d.reply tag code oc body).trkSd = d.trkSd := rfl
@[simp] theorem Device.reply_slots (d : Device) (tag code : Byte) (oc : ReplyCode) (body : List Byte) : (d.reply tag code oc body).slots = d.slots := rfl
@[simp] theorem Device.reply_validation (d : Device) (tag code : Byte) (oc : ReplyCode) (body : List Byte) : (d.reply tag code oc body).validation = d.validation := rfl
@[simp] theorem Device.reply_lanes (d : Device) (tag code : Byte) (oc : ReplyCode) (body : List Byte) : (d.reply tag code oc body).lanes = d.lanes := rfl
@[simp] theorem Device.reply_crops (d : Device) (tag code : Byte) (oc : ReplyCode) (body : List Byte) : (d.reply tag code oc body).crops = d.crops := rfl
@[simp] theorem Device.reply_cropQueue (d : Device) (tag code : Byte) (oc : ReplyCode) (body : List Byte) : (d.reply tag code oc body).cropQueue = d.cropQueue := rfl
@[simp] theorem Device.reply_closeQueue (d : Device) (tag code : Byte) (oc : ReplyCode) (body : List Byte) : (d.reply tag code oc body).closeQueue = d.closeQueue := rfl
@[simp] theorem Device.reply_waiting (d : Device) (tag code : Byte) (oc : ReplyCode) (body : List Byte) : (d.reply tag code oc body).waiting = d.waiting := rfl
@[simp] theorem Device.reply_evaluation (d : Device) (tag code : Byte) (oc : ReplyCode) (body : List Byte) : (d.reply tag code oc body).evaluation = d.evaluation := rfl
@[simp] theorem Device.reply_retireOrder (d : Device) (tag code : Byte) (oc : ReplyCode) (body : List Byte) : (d.reply tag code oc body).retireOrder = d.retireOrder := rfl
@[simp] theorem Device.reply_cond (d : Device) (tag code : Byte) (oc : ReplyCode) (body : List Byte) : (d.reply tag code oc body).cond = d.cond := rfl
@[simp] theorem Device.reply_freeIndex (d : Device) (tag code : Byte) (oc : ReplyCode) (body : List Byte) : (d.reply tag code oc body).freeIndex = d.freeIndex := rfl
@[simp] theorem Device.reply_trunk_link (d : Device) (tag code : Byte) (oc : ReplyCode) (body : List Byte) : (d.reply tag code oc body).trunk.link = d.trunk.link := rfl
@[simp] theorem Device.reply_trunk_syncRun (d : Device) (tag code : Byte) (oc : ReplyCode) (body : List Byte) : (d.reply tag code oc body).trunk.syncRun = d.trunk.syncRun := rfl
@[simp] theorem Device.reply_trunk_rx (d : Device) (tag code : Byte) (oc : ReplyCode) (body : List Byte) : (d.reply tag code oc body).trunk.rx = d.trunk.rx := rfl
@[simp] theorem Device.reply_trunk_credit (d : Device) (tag code : Byte) (oc : ReplyCode) (body : List Byte) : (d.reply tag code oc body).trunk.credit = d.trunk.credit := rfl
@[simp] theorem Device.reply_trunk_inbound (d : Device) (tag code : Byte) (oc : ReplyCode) (body : List Byte) : (d.reply tag code oc body).trunk.inbound = d.trunk.inbound := rfl
@[simp] theorem Device.reply_trunk_panelReports (d : Device) (tag code : Byte) (oc : ReplyCode) (body : List Byte) : (d.reply tag code oc body).trunk.panelReports = d.trunk.panelReports := rfl
@[simp] theorem Device.reply_trunk_verdicts (d : Device) (tag code : Byte) (oc : ReplyCode) (body : List Byte) : (d.reply tag code oc body).trunk.verdicts = d.trunk.verdicts := rfl
@[simp] theorem Device.reply_trunk_frame (d : Device) (tag code : Byte) (oc : ReplyCode) (body : List Byte) : (d.reply tag code oc body).trunk.frame = d.trunk.frame := rfl
@[simp] theorem Device.reply_trunk_stallLimit (d : Device) (tag code : Byte) (oc : ReplyCode) (body : List Byte) : (d.reply tag code oc body).trunk.stallLimit = d.trunk.stallLimit := rfl
@[simp] theorem Device.reply_trunk_stallLeft (d : Device) (tag code : Byte) (oc : ReplyCode) (body : List Byte) : (d.reply tag code oc body).trunk.stallLeft = d.trunk.stallLeft := rfl
@[simp] theorem Device.reply_replies (d : Device) (tag code : Byte) (oc : ReplyCode) (body : List Byte) :
    (d.reply tag code oc body).trunk.replies =
      d.trunk.replies ++ [{ tag := tag, code := code, outcome := oc, body := body }] := rfl
@[simp] theorem Device.reply_lane (d : Device) (tag code : Byte) (oc : ReplyCode) (body : List Byte) (l : LaneId) :
    (d.reply tag code oc body).lane l = d.lane l := rfl
@[simp] theorem Device.settleStall_resetLow (d : Device)  : d.settleStall.resetLow = d.resetLow := by unfold Device.settleStall; (repeat' split) <;> rfl
@[simp] theorem Device.settleStall_trkSd (d : Device)  : d.settleStall.trkSd = d.trkSd := by unfold Device.settleStall; (repeat' split) <;> rfl
@[simp] theorem Device.settleStall_slots (d : Device)  : d.settleStall.slots = d.slots := by unfold Device.settleStall; (repeat' split) <;> rfl
@[simp] theorem Device.settleStall_validation (d : Device)  : d.settleStall.validation = d.validation := by unfold Device.settleStall; (repeat' split) <;> rfl
@[simp] theorem Device.settleStall_lanes (d : Device)  : d.settleStall.lanes = d.lanes := by unfold Device.settleStall; (repeat' split) <;> rfl
@[simp] theorem Device.settleStall_crops (d : Device)  : d.settleStall.crops = d.crops := by unfold Device.settleStall; (repeat' split) <;> rfl
@[simp] theorem Device.settleStall_cropQueue (d : Device)  : d.settleStall.cropQueue = d.cropQueue := by unfold Device.settleStall; (repeat' split) <;> rfl
@[simp] theorem Device.settleStall_closeQueue (d : Device)  : d.settleStall.closeQueue = d.closeQueue := by unfold Device.settleStall; (repeat' split) <;> rfl
@[simp] theorem Device.settleStall_waiting (d : Device)  : d.settleStall.waiting = d.waiting := by unfold Device.settleStall; (repeat' split) <;> rfl
@[simp] theorem Device.settleStall_evaluation (d : Device)  : d.settleStall.evaluation = d.evaluation := by unfold Device.settleStall; (repeat' split) <;> rfl
@[simp] theorem Device.settleStall_retireOrder (d : Device)  : d.settleStall.retireOrder = d.retireOrder := by unfold Device.settleStall; (repeat' split) <;> rfl
@[simp] theorem Device.settleStall_cond (d : Device)  : d.settleStall.cond = d.cond := by unfold Device.settleStall; (repeat' split) <;> rfl
@[simp] theorem Device.settleStall_freeIndex (d : Device)  : d.settleStall.freeIndex = d.freeIndex := by unfold Device.settleStall; (repeat' split) <;> rfl
@[simp] theorem Device.settleStall_trunk_link (d : Device)  : d.settleStall.trunk.link = d.trunk.link := by unfold Device.settleStall; (repeat' split) <;> rfl
@[simp] theorem Device.settleStall_trunk_syncRun (d : Device)  : d.settleStall.trunk.syncRun = d.trunk.syncRun := by unfold Device.settleStall; (repeat' split) <;> rfl
@[simp] theorem Device.settleStall_trunk_rx (d : Device)  : d.settleStall.trunk.rx = d.trunk.rx := by unfold Device.settleStall; (repeat' split) <;> rfl
@[simp] theorem Device.settleStall_trunk_credit (d : Device)  : d.settleStall.trunk.credit = d.trunk.credit := by unfold Device.settleStall; (repeat' split) <;> rfl
@[simp] theorem Device.settleStall_trunk_inbound (d : Device)  : d.settleStall.trunk.inbound = d.trunk.inbound := by unfold Device.settleStall; (repeat' split) <;> rfl
@[simp] theorem Device.settleStall_trunk_replies (d : Device)  : d.settleStall.trunk.replies = d.trunk.replies := by unfold Device.settleStall; (repeat' split) <;> rfl
@[simp] theorem Device.settleStall_trunk_panelReports (d : Device)  : d.settleStall.trunk.panelReports = d.trunk.panelReports := by unfold Device.settleStall; (repeat' split) <;> rfl
@[simp] theorem Device.settleStall_trunk_verdicts (d : Device)  : d.settleStall.trunk.verdicts = d.trunk.verdicts := by unfold Device.settleStall; (repeat' split) <;> rfl
@[simp] theorem Device.settleStall_trunk_frame (d : Device)  : d.settleStall.trunk.frame = d.trunk.frame := by unfold Device.settleStall; (repeat' split) <;> rfl
@[simp] theorem Device.settleStall_trunk_stallLimit (d : Device)  : d.settleStall.trunk.stallLimit = d.trunk.stallLimit := by unfold Device.settleStall; (repeat' split) <;> rfl
@[simp] theorem Device.settleStall_lane (d : Device) (l : LaneId) : d.settleStall.lane l = d.lane l := by
  simp [Device.lane]

/-- The stall timer runs exactly while its condition holds, and starts from the stall limit (R171). -/
theorem Device.settleStall_stallLeft (d : Device) :
    d.settleStall.trunk.stallLeft =
      if d.stallRuns then some (d.trunk.stallLeft.getD d.trunk.stallLoad) else none := by
  unfold Device.settleStall
  split
  · cases h : d.trunk.stallLeft <;> simp [h]
  · rfl

/-! ## Conditions and faults -/

@[simp] theorem Device.raise_resetLow (d : Device) (i : SetId) (x : Word16) : (d.raise i x).resetLow = d.resetLow := rfl
@[simp] theorem Device.raise_trkSd (d : Device) (i : SetId) (x : Word16) : (d.raise i x).trkSd = d.trkSd := rfl
@[simp] theorem Device.raise_slots (d : Device) (i : SetId) (x : Word16) : (d.raise i x).slots = d.slots := rfl
@[simp] theorem Device.raise_validation (d : Device) (i : SetId) (x : Word16) : (d.raise i x).validation = d.validation := rfl
@[simp] theorem Device.raise_lanes (d : Device) (i : SetId) (x : Word16) : (d.raise i x).lanes = d.lanes := rfl
@[simp] theorem Device.raise_crops (d : Device) (i : SetId) (x : Word16) : (d.raise i x).crops = d.crops := rfl
@[simp] theorem Device.raise_cropQueue (d : Device) (i : SetId) (x : Word16) : (d.raise i x).cropQueue = d.cropQueue := rfl
@[simp] theorem Device.raise_closeQueue (d : Device) (i : SetId) (x : Word16) : (d.raise i x).closeQueue = d.closeQueue := rfl
@[simp] theorem Device.raise_waiting (d : Device) (i : SetId) (x : Word16) : (d.raise i x).waiting = d.waiting := rfl
@[simp] theorem Device.raise_evaluation (d : Device) (i : SetId) (x : Word16) : (d.raise i x).evaluation = d.evaluation := rfl
@[simp] theorem Device.raise_retireOrder (d : Device) (i : SetId) (x : Word16) : (d.raise i x).retireOrder = d.retireOrder := rfl
@[simp] theorem Device.raise_trunk (d : Device) (i : SetId) (x : Word16) : (d.raise i x).trunk = d.trunk := rfl
@[simp] theorem Device.raise_freeIndex (d : Device) (i : SetId) (x : Word16) : (d.raise i x).freeIndex = d.freeIndex := rfl
@[simp] theorem Device.raiseDevice_resetLow (d : Device) (c : DeviceCond) : (d.raiseDevice c).resetLow = d.resetLow := rfl
@[simp] theorem Device.raiseDevice_trkSd (d : Device) (c : DeviceCond) : (d.raiseDevice c).trkSd = d.trkSd := rfl
@[simp] theorem Device.raiseDevice_slots (d : Device) (c : DeviceCond) : (d.raiseDevice c).slots = d.slots := rfl
@[simp] theorem Device.raiseDevice_validation (d : Device) (c : DeviceCond) : (d.raiseDevice c).validation = d.validation := rfl
@[simp] theorem Device.raiseDevice_lanes (d : Device) (c : DeviceCond) : (d.raiseDevice c).lanes = d.lanes := rfl
@[simp] theorem Device.raiseDevice_crops (d : Device) (c : DeviceCond) : (d.raiseDevice c).crops = d.crops := rfl
@[simp] theorem Device.raiseDevice_cropQueue (d : Device) (c : DeviceCond) : (d.raiseDevice c).cropQueue = d.cropQueue := rfl
@[simp] theorem Device.raiseDevice_closeQueue (d : Device) (c : DeviceCond) : (d.raiseDevice c).closeQueue = d.closeQueue := rfl
@[simp] theorem Device.raiseDevice_waiting (d : Device) (c : DeviceCond) : (d.raiseDevice c).waiting = d.waiting := rfl
@[simp] theorem Device.raiseDevice_evaluation (d : Device) (c : DeviceCond) : (d.raiseDevice c).evaluation = d.evaluation := rfl
@[simp] theorem Device.raiseDevice_retireOrder (d : Device) (c : DeviceCond) : (d.raiseDevice c).retireOrder = d.retireOrder := rfl
@[simp] theorem Device.raiseDevice_trunk (d : Device) (c : DeviceCond) : (d.raiseDevice c).trunk = d.trunk := rfl
@[simp] theorem Device.raiseDevice_freeIndex (d : Device) (c : DeviceCond) : (d.raiseDevice c).freeIndex = d.freeIndex := rfl
@[simp] theorem Device.raiseLane_resetLow (d : Device) (l : LaneId) (c : LaneCond) : (d.raiseLane l c).resetLow = d.resetLow := rfl
@[simp] theorem Device.raiseLane_trkSd (d : Device) (l : LaneId) (c : LaneCond) : (d.raiseLane l c).trkSd = d.trkSd := rfl
@[simp] theorem Device.raiseLane_slots (d : Device) (l : LaneId) (c : LaneCond) : (d.raiseLane l c).slots = d.slots := rfl
@[simp] theorem Device.raiseLane_validation (d : Device) (l : LaneId) (c : LaneCond) : (d.raiseLane l c).validation = d.validation := rfl
@[simp] theorem Device.raiseLane_lanes (d : Device) (l : LaneId) (c : LaneCond) : (d.raiseLane l c).lanes = d.lanes := rfl
@[simp] theorem Device.raiseLane_crops (d : Device) (l : LaneId) (c : LaneCond) : (d.raiseLane l c).crops = d.crops := rfl
@[simp] theorem Device.raiseLane_cropQueue (d : Device) (l : LaneId) (c : LaneCond) : (d.raiseLane l c).cropQueue = d.cropQueue := rfl
@[simp] theorem Device.raiseLane_closeQueue (d : Device) (l : LaneId) (c : LaneCond) : (d.raiseLane l c).closeQueue = d.closeQueue := rfl
@[simp] theorem Device.raiseLane_waiting (d : Device) (l : LaneId) (c : LaneCond) : (d.raiseLane l c).waiting = d.waiting := rfl
@[simp] theorem Device.raiseLane_evaluation (d : Device) (l : LaneId) (c : LaneCond) : (d.raiseLane l c).evaluation = d.evaluation := rfl
@[simp] theorem Device.raiseLane_retireOrder (d : Device) (l : LaneId) (c : LaneCond) : (d.raiseLane l c).retireOrder = d.retireOrder := rfl
@[simp] theorem Device.raiseLane_trunk (d : Device) (l : LaneId) (c : LaneCond) : (d.raiseLane l c).trunk = d.trunk := rfl
@[simp] theorem Device.raiseLane_freeIndex (d : Device) (l : LaneId) (c : LaneCond) : (d.raiseLane l c).freeIndex = d.freeIndex := rfl
@[simp] theorem Device.raise_lane (d : Device) (i : SetId) (x : Word16) (l : LaneId) : (d.raise i x).lane l = d.lane l := rfl
@[simp] theorem Device.raiseDevice_lane (d : Device) (c : DeviceCond) (l : LaneId) : (d.raiseDevice c).lane l = d.lane l := rfl
@[simp] theorem Device.raiseLane_lane (d : Device) (m : LaneId) (c : LaneCond) (l : LaneId) :
    (d.raiseLane m c).lane l = d.lane l := rfl

theorem CondUnit.get_set (u : CondUnit) (i j : SetId) (c : CondSet) :
    (u.set i c).get j = if j = i then c else u.get j := by
  rcases i with _ | l | ⟨l, p⟩ <;> rcases j with _ | m | ⟨m, q⟩ <;>
    (try cases l) <;> (try cases p) <;> (try cases m) <;> (try cases q) <;> rfl

@[simp] theorem CondUnit.set_get (u : CondUnit) (i : SetId) : u.set i (u.get i) = u := by
  rcases i with _ | l | ⟨l, p⟩ <;> (try cases l) <;> (try cases p) <;> rfl

@[simp] theorem CondUnit.set_noticeQueue (u : CondUnit) (i : SetId) (c : CondSet) :
    (u.set i c).noticeQueue = u.noticeQueue := by cases i <;> rfl

theorem CondUnit.get_queueNotice_raised (u : CondUnit) (i j : SetId) :
    ((u.queueNotice i).get j).raised = (u.get j).raised := by
  unfold CondUnit.queueNotice
  split
  · rfl
  · show ((u.set i { u.get i with noticePending := true }).get j).raised = (u.get j).raised
    rw [CondUnit.get_set]; split <;> simp_all

theorem CondUnit.get_queueNotice_mask (u : CondUnit) (i j : SetId) :
    ((u.queueNotice i).get j).mask = (u.get j).mask := by
  unfold CondUnit.queueNotice
  split
  · rfl
  · show ((u.set i { u.get i with noticePending := true }).get j).mask = (u.get j).mask
    rw [CondUnit.get_set]; split <;> simp_all

theorem CondUnit.get_queueNotice_snapshot (u : CondUnit) (i j : SetId) :
    ((u.queueNotice i).get j).snapshot = (u.get j).snapshot := by
  unfold CondUnit.queueNotice
  split
  · rfl
  · show ((u.set i { u.get i with noticePending := true }).get j).snapshot = (u.get j).snapshot
    rw [CondUnit.get_set]; split <;> simp_all

theorem CondUnit.foldl_queueNotice_raised (is : List SetId) (u : CondUnit) (j : SetId) :
    ((is.foldl CondUnit.queueNotice u).get j).raised = (u.get j).raised := by
  induction is generalizing u with
  | nil => rfl
  | cons i is ih => rw [List.foldl_cons, ih, CondUnit.get_queueNotice_raised]

theorem CondUnit.foldl_queueNotice_mask (is : List SetId) (u : CondUnit) (j : SetId) :
    ((is.foldl CondUnit.queueNotice u).get j).mask = (u.get j).mask := by
  induction is generalizing u with
  | nil => rfl
  | cons i is ih => rw [List.foldl_cons, ih, CondUnit.get_queueNotice_mask]

theorem CondUnit.foldl_queueNotice_snapshot (is : List SetId) (u : CondUnit) (j : SetId) :
    ((is.foldl CondUnit.queueNotice u).get j).snapshot = (u.get j).snapshot := by
  induction is generalizing u with
  | nil => rfl
  | cons i is ih => rw [List.foldl_cons, ih, CondUnit.get_queueNotice_snapshot]

/-- Queuing notices changes no condition, no mask and no snapshot (R179). -/
theorem CondUnit.settle_raised (old new : CondUnit) (j : SetId) : ((old.settle new).get j).raised = (new.get j).raised :=
  CondUnit.foldl_queueNotice_raised _ _ _
theorem CondUnit.settle_mask (old new : CondUnit) (j : SetId) : ((old.settle new).get j).mask = (new.get j).mask :=
  CondUnit.foldl_queueNotice_mask _ _ _
theorem CondUnit.settle_snapshot (old new : CondUnit) (j : SetId) :
    ((old.settle new).get j).snapshot = (new.get j).snapshot :=
  CondUnit.foldl_queueNotice_snapshot _ _ _

/-- A change that leaves the unit as it was queues nothing. -/
theorem CondUnit.settle_self (u : CondUnit) : u.settle u = u := by
  have h : (setsUpward.filter (fun i => !u.reporting i && u.reporting i)) = [] :=
    List.filter_eq_nil_iff.mpr (fun i _ => by cases u.reporting i <;> simp)
  unfold CondUnit.settle
  rw [h]; rfl

/-- Raising adds the conditions of the list to their set and touches no other set's conditions (R177). -/
theorem Device.raise_raised (d : Device) (i j : SetId) (x : Word16) :
    ((d.raise i x).cond.get j).raised = if j = i then (d.cond.get j).raised ||| x else (d.cond.get j).raised := by
  show ((d.cond.settle (d.cond.mod i _)).get j).raised = _
  rw [CondUnit.settle_raised, CondUnit.mod, CondUnit.get_set]
  split <;> simp_all

/-- Raising nothing changes nothing. -/
theorem Device.raise_zero (d : Device) (i : SetId) : d.raise i 0 = d := by
  have h : d.cond.mod i (fun c => { c with raised := c.raised ||| 0 }) = d.cond := by
    rw [show (fun c : CondSet => { c with raised := c.raised ||| 0 }) = id from by funext c; simp]
    exact CondUnit.set_get _ _
  show { d with cond := d.cond.settle (d.cond.mod i (fun c => { c with raised := c.raised ||| 0 })) } = d
  rw [h, CondUnit.settle_self]

@[simp] theorem Device.fault_resetLow (d : Device) (l : LaneId) (k : FaultKind) : (d.fault l k).resetLow = d.resetLow := by unfold Device.fault; dsimp only; (repeat' split) <;> simp
@[simp] theorem Device.fault_trkSd (d : Device) (l : LaneId) (k : FaultKind) : (d.fault l k).trkSd = d.trkSd := by unfold Device.fault; dsimp only; (repeat' split) <;> simp
@[simp] theorem Device.fault_slots (d : Device) (l : LaneId) (k : FaultKind) : (d.fault l k).slots = d.slots := by unfold Device.fault; dsimp only; (repeat' split) <;> simp
@[simp] theorem Device.fault_validation (d : Device) (l : LaneId) (k : FaultKind) : (d.fault l k).validation = d.validation := by unfold Device.fault; dsimp only; (repeat' split) <;> simp
@[simp] theorem Device.fault_crops (d : Device) (l : LaneId) (k : FaultKind) : (d.fault l k).crops = d.crops := by unfold Device.fault; dsimp only; (repeat' split) <;> simp
@[simp] theorem Device.fault_cropQueue (d : Device) (l : LaneId) (k : FaultKind) : (d.fault l k).cropQueue = d.cropQueue := by unfold Device.fault; dsimp only; (repeat' split) <;> simp
@[simp] theorem Device.fault_closeQueue (d : Device) (l : LaneId) (k : FaultKind) : (d.fault l k).closeQueue = d.closeQueue := by unfold Device.fault; dsimp only; (repeat' split) <;> simp
@[simp] theorem Device.fault_waiting (d : Device) (l : LaneId) (k : FaultKind) : (d.fault l k).waiting = d.waiting := by unfold Device.fault; dsimp only; (repeat' split) <;> simp
@[simp] theorem Device.fault_evaluation (d : Device) (l : LaneId) (k : FaultKind) : (d.fault l k).evaluation = d.evaluation := by unfold Device.fault; dsimp only; (repeat' split) <;> simp
@[simp] theorem Device.fault_retireOrder (d : Device) (l : LaneId) (k : FaultKind) : (d.fault l k).retireOrder = d.retireOrder := by unfold Device.fault; dsimp only; (repeat' split) <;> simp
@[simp] theorem Device.fault_trunk (d : Device) (l : LaneId) (k : FaultKind) : (d.fault l k).trunk = d.trunk := by unfold Device.fault; dsimp only; (repeat' split) <;> simp
@[simp] theorem Device.fault_freeIndex (d : Device) (l : LaneId) (k : FaultKind) : (d.fault l k).freeIndex = d.freeIndex := by unfold Device.fault; dsimp only; (repeat' split) <;> simp

theorem Device.raiseLane_ite_lane (d : Device) (P : Prop) [Decidable P] (l m : LaneId) (c : LaneCond) :
    (if P then d.raiseLane l c else d).lane m = d.lane m := by
  split <;> rfl

/-- What a fault does to its lane and leaves of the other: the gate unit alone changes (R156, R158). -/
theorem Device.fault_lane (d : Device) (l m : LaneId) (k : FaultKind) :
    (d.fault l k).lane m =
      if m = l then
        { d.lane l with gate := if (d.lane l).mode = .off then (d.lane l).gate.count k else ((d.lane l).gate.count k).answer k }
      else d.lane m := by
  unfold Device.fault
  cases k <;>
    simp only [FaultKind.laneCond, Device.raiseLane_lane, Device.raiseLane_ite_lane, Device.lane_setLane_of]

/-! ## Contexts, retirement, decision -/

@[simp] theorem Device.settleCtx_resetLow (d : Device) (l : LaneId) (n : Fin 4) : (d.settleCtx l n).resetLow = d.resetLow := rfl
@[simp] theorem Device.settleCtx_trkSd (d : Device) (l : LaneId) (n : Fin 4) : (d.settleCtx l n).trkSd = d.trkSd := rfl
@[simp] theorem Device.settleCtx_slots (d : Device) (l : LaneId) (n : Fin 4) : (d.settleCtx l n).slots = d.slots := rfl
@[simp] theorem Device.settleCtx_validation (d : Device) (l : LaneId) (n : Fin 4) : (d.settleCtx l n).validation = d.validation := rfl
@[simp] theorem Device.settleCtx_crops (d : Device) (l : LaneId) (n : Fin 4) : (d.settleCtx l n).crops = d.crops := rfl
@[simp] theorem Device.settleCtx_cropQueue (d : Device) (l : LaneId) (n : Fin 4) : (d.settleCtx l n).cropQueue = d.cropQueue := rfl
@[simp] theorem Device.settleCtx_closeQueue (d : Device) (l : LaneId) (n : Fin 4) : (d.settleCtx l n).closeQueue = d.closeQueue := rfl
@[simp] theorem Device.settleCtx_waiting (d : Device) (l : LaneId) (n : Fin 4) : (d.settleCtx l n).waiting = d.waiting := rfl
@[simp] theorem Device.settleCtx_evaluation (d : Device) (l : LaneId) (n : Fin 4) : (d.settleCtx l n).evaluation = d.evaluation := rfl
@[simp] theorem Device.settleCtx_retireOrder (d : Device) (l : LaneId) (n : Fin 4) : (d.settleCtx l n).retireOrder = d.retireOrder := rfl
@[simp] theorem Device.settleCtx_cond (d : Device) (l : LaneId) (n : Fin 4) : (d.settleCtx l n).cond = d.cond := rfl
@[simp] theorem Device.settleCtx_trunk (d : Device) (l : LaneId) (n : Fin 4) : (d.settleCtx l n).trunk = d.trunk := rfl
@[simp] theorem Device.settleCtx_freeIndex (d : Device) (l : LaneId) (n : Fin 4) : (d.settleCtx l n).freeIndex = d.freeIndex := rfl
@[simp] theorem Device.retireNow_resetLow (d : Device) (l : LaneId) (n : Fin 4) : (d.retireNow l n).resetLow = d.resetLow := by unfold Device.retireNow; split <;> rfl
@[simp] theorem Device.retireNow_trkSd (d : Device) (l : LaneId) (n : Fin 4) : (d.retireNow l n).trkSd = d.trkSd := by unfold Device.retireNow; split <;> rfl
@[simp] theorem Device.retireNow_slots (d : Device) (l : LaneId) (n : Fin 4) : (d.retireNow l n).slots = d.slots := by unfold Device.retireNow; split <;> rfl
@[simp] theorem Device.retireNow_validation (d : Device) (l : LaneId) (n : Fin 4) : (d.retireNow l n).validation = d.validation := by unfold Device.retireNow; split <;> rfl
@[simp] theorem Device.retireNow_crops (d : Device) (l : LaneId) (n : Fin 4) : (d.retireNow l n).crops = d.crops := by unfold Device.retireNow; split <;> rfl
@[simp] theorem Device.retireNow_cropQueue (d : Device) (l : LaneId) (n : Fin 4) : (d.retireNow l n).cropQueue = d.cropQueue := by unfold Device.retireNow; split <;> rfl
@[simp] theorem Device.retireNow_closeQueue (d : Device) (l : LaneId) (n : Fin 4) : (d.retireNow l n).closeQueue = d.closeQueue := by unfold Device.retireNow; split <;> rfl
@[simp] theorem Device.retireNow_waiting (d : Device) (l : LaneId) (n : Fin 4) : (d.retireNow l n).waiting = d.waiting := by unfold Device.retireNow; split <;> rfl
@[simp] theorem Device.retireNow_evaluation (d : Device) (l : LaneId) (n : Fin 4) : (d.retireNow l n).evaluation = d.evaluation := by unfold Device.retireNow; split <;> rfl
@[simp] theorem Device.retireNow_retireOrder (d : Device) (l : LaneId) (n : Fin 4) : (d.retireNow l n).retireOrder = d.retireOrder := by unfold Device.retireNow; split <;> rfl
@[simp] theorem Device.retireNow_cond (d : Device) (l : LaneId) (n : Fin 4) : (d.retireNow l n).cond = d.cond := by unfold Device.retireNow; split <;> rfl
@[simp] theorem Device.retireNow_freeIndex (d : Device) (l : LaneId) (n : Fin 4) : (d.retireNow l n).freeIndex = d.freeIndex := by unfold Device.retireNow; split <;> rfl
@[simp] theorem Device.retireNow_trunk_link (d : Device) (l : LaneId) (n : Fin 4) : (d.retireNow l n).trunk.link = d.trunk.link := by unfold Device.retireNow; split <;> rfl
@[simp] theorem Device.retireNow_trunk_syncRun (d : Device) (l : LaneId) (n : Fin 4) : (d.retireNow l n).trunk.syncRun = d.trunk.syncRun := by unfold Device.retireNow; split <;> rfl
@[simp] theorem Device.retireNow_trunk_rx (d : Device) (l : LaneId) (n : Fin 4) : (d.retireNow l n).trunk.rx = d.trunk.rx := by unfold Device.retireNow; split <;> rfl
@[simp] theorem Device.retireNow_trunk_credit (d : Device) (l : LaneId) (n : Fin 4) : (d.retireNow l n).trunk.credit = d.trunk.credit := by unfold Device.retireNow; split <;> rfl
@[simp] theorem Device.retireNow_trunk_inbound (d : Device) (l : LaneId) (n : Fin 4) : (d.retireNow l n).trunk.inbound = d.trunk.inbound := by unfold Device.retireNow; split <;> rfl
@[simp] theorem Device.retireNow_trunk_replies (d : Device) (l : LaneId) (n : Fin 4) : (d.retireNow l n).trunk.replies = d.trunk.replies := by unfold Device.retireNow; split <;> rfl
@[simp] theorem Device.retireNow_trunk_verdicts (d : Device) (l : LaneId) (n : Fin 4) : (d.retireNow l n).trunk.verdicts = d.trunk.verdicts := by unfold Device.retireNow; split <;> rfl
@[simp] theorem Device.retireNow_trunk_frame (d : Device) (l : LaneId) (n : Fin 4) : (d.retireNow l n).trunk.frame = d.trunk.frame := by unfold Device.retireNow; split <;> rfl
@[simp] theorem Device.retireNow_trunk_stallLimit (d : Device) (l : LaneId) (n : Fin 4) : (d.retireNow l n).trunk.stallLimit = d.trunk.stallLimit := by unfold Device.retireNow; split <;> rfl
@[simp] theorem Device.retireNow_trunk_stallLeft (d : Device) (l : LaneId) (n : Fin 4) : (d.retireNow l n).trunk.stallLeft = d.trunk.stallLeft := by unfold Device.retireNow; split <;> rfl
@[simp] theorem Device.retire_resetLow (d : Device) (l : LaneId) (n : Fin 4) : (d.retire l n).resetLow = d.resetLow := by unfold Device.retire; dsimp only; split <;> simp
@[simp] theorem Device.retire_trkSd (d : Device) (l : LaneId) (n : Fin 4) : (d.retire l n).trkSd = d.trkSd := by unfold Device.retire; dsimp only; split <;> simp
@[simp] theorem Device.retire_slots (d : Device) (l : LaneId) (n : Fin 4) : (d.retire l n).slots = d.slots := by unfold Device.retire; dsimp only; split <;> simp
@[simp] theorem Device.retire_validation (d : Device) (l : LaneId) (n : Fin 4) : (d.retire l n).validation = d.validation := by unfold Device.retire; dsimp only; split <;> simp
@[simp] theorem Device.retire_crops (d : Device) (l : LaneId) (n : Fin 4) : (d.retire l n).crops = d.crops := by unfold Device.retire; dsimp only; split <;> simp
@[simp] theorem Device.retire_cropQueue (d : Device) (l : LaneId) (n : Fin 4) : (d.retire l n).cropQueue = d.cropQueue := by unfold Device.retire; dsimp only; split <;> simp
@[simp] theorem Device.retire_closeQueue (d : Device) (l : LaneId) (n : Fin 4) : (d.retire l n).closeQueue = d.closeQueue := by unfold Device.retire; dsimp only; split <;> simp
@[simp] theorem Device.retire_waiting (d : Device) (l : LaneId) (n : Fin 4) : (d.retire l n).waiting = d.waiting := by unfold Device.retire; dsimp only; split <;> simp
@[simp] theorem Device.retire_evaluation (d : Device) (l : LaneId) (n : Fin 4) : (d.retire l n).evaluation = d.evaluation := by unfold Device.retire; dsimp only; split <;> simp
@[simp] theorem Device.retire_cond (d : Device) (l : LaneId) (n : Fin 4) : (d.retire l n).cond = d.cond := by unfold Device.retire; dsimp only; split <;> simp
@[simp] theorem Device.retire_freeIndex (d : Device) (l : LaneId) (n : Fin 4) : (d.retire l n).freeIndex = d.freeIndex := by unfold Device.retire; dsimp only; split <;> simp
@[simp] theorem Device.retire_trunk_link (d : Device) (l : LaneId) (n : Fin 4) : (d.retire l n).trunk.link = d.trunk.link := by unfold Device.retire; dsimp only; split <;> simp
@[simp] theorem Device.retire_trunk_syncRun (d : Device) (l : LaneId) (n : Fin 4) : (d.retire l n).trunk.syncRun = d.trunk.syncRun := by unfold Device.retire; dsimp only; split <;> simp
@[simp] theorem Device.retire_trunk_rx (d : Device) (l : LaneId) (n : Fin 4) : (d.retire l n).trunk.rx = d.trunk.rx := by unfold Device.retire; dsimp only; split <;> simp
@[simp] theorem Device.retire_trunk_credit (d : Device) (l : LaneId) (n : Fin 4) : (d.retire l n).trunk.credit = d.trunk.credit := by unfold Device.retire; dsimp only; split <;> simp
@[simp] theorem Device.retire_trunk_inbound (d : Device) (l : LaneId) (n : Fin 4) : (d.retire l n).trunk.inbound = d.trunk.inbound := by unfold Device.retire; dsimp only; split <;> simp
@[simp] theorem Device.retire_trunk_replies (d : Device) (l : LaneId) (n : Fin 4) : (d.retire l n).trunk.replies = d.trunk.replies := by unfold Device.retire; dsimp only; split <;> simp
@[simp] theorem Device.retire_trunk_verdicts (d : Device) (l : LaneId) (n : Fin 4) : (d.retire l n).trunk.verdicts = d.trunk.verdicts := by unfold Device.retire; dsimp only; split <;> simp
@[simp] theorem Device.retire_trunk_frame (d : Device) (l : LaneId) (n : Fin 4) : (d.retire l n).trunk.frame = d.trunk.frame := by unfold Device.retire; dsimp only; split <;> simp
@[simp] theorem Device.retire_trunk_stallLimit (d : Device) (l : LaneId) (n : Fin 4) : (d.retire l n).trunk.stallLimit = d.trunk.stallLimit := by unfold Device.retire; dsimp only; split <;> simp
@[simp] theorem Device.retire_trunk_stallLeft (d : Device) (l : LaneId) (n : Fin 4) : (d.retire l n).trunk.stallLeft = d.trunk.stallLeft := by unfold Device.retire; dsimp only; split <;> simp
@[simp] theorem Device.tryDecide_resetLow (d : Device) (l : LaneId) (n : Fin 4) : (d.tryDecide l n).resetLow = d.resetLow := by unfold Device.tryDecide; dsimp only; (repeat' split) <;> simp
@[simp] theorem Device.tryDecide_trkSd (d : Device) (l : LaneId) (n : Fin 4) : (d.tryDecide l n).trkSd = d.trkSd := by unfold Device.tryDecide; dsimp only; (repeat' split) <;> simp
@[simp] theorem Device.tryDecide_slots (d : Device) (l : LaneId) (n : Fin 4) : (d.tryDecide l n).slots = d.slots := by unfold Device.tryDecide; dsimp only; (repeat' split) <;> simp
@[simp] theorem Device.tryDecide_validation (d : Device) (l : LaneId) (n : Fin 4) : (d.tryDecide l n).validation = d.validation := by unfold Device.tryDecide; dsimp only; (repeat' split) <;> simp
@[simp] theorem Device.tryDecide_crops (d : Device) (l : LaneId) (n : Fin 4) : (d.tryDecide l n).crops = d.crops := by unfold Device.tryDecide; dsimp only; (repeat' split) <;> simp
@[simp] theorem Device.tryDecide_cropQueue (d : Device) (l : LaneId) (n : Fin 4) : (d.tryDecide l n).cropQueue = d.cropQueue := by unfold Device.tryDecide; dsimp only; (repeat' split) <;> simp
@[simp] theorem Device.tryDecide_closeQueue (d : Device) (l : LaneId) (n : Fin 4) : (d.tryDecide l n).closeQueue = d.closeQueue := by unfold Device.tryDecide; dsimp only; (repeat' split) <;> simp
@[simp] theorem Device.tryDecide_waiting (d : Device) (l : LaneId) (n : Fin 4) : (d.tryDecide l n).waiting = d.waiting := by unfold Device.tryDecide; dsimp only; (repeat' split) <;> simp
@[simp] theorem Device.tryDecide_evaluation (d : Device) (l : LaneId) (n : Fin 4) : (d.tryDecide l n).evaluation = d.evaluation := by unfold Device.tryDecide; dsimp only; (repeat' split) <;> simp
@[simp] theorem Device.tryDecide_freeIndex (d : Device) (l : LaneId) (n : Fin 4) : (d.tryDecide l n).freeIndex = d.freeIndex := by unfold Device.tryDecide; dsimp only; (repeat' split) <;> simp
@[simp] theorem Device.tryDecide_trunk_link (d : Device) (l : LaneId) (n : Fin 4) : (d.tryDecide l n).trunk.link = d.trunk.link := by unfold Device.tryDecide; dsimp only; (repeat' split) <;> simp
@[simp] theorem Device.tryDecide_trunk_syncRun (d : Device) (l : LaneId) (n : Fin 4) : (d.tryDecide l n).trunk.syncRun = d.trunk.syncRun := by unfold Device.tryDecide; dsimp only; (repeat' split) <;> simp
@[simp] theorem Device.tryDecide_trunk_rx (d : Device) (l : LaneId) (n : Fin 4) : (d.tryDecide l n).trunk.rx = d.trunk.rx := by unfold Device.tryDecide; dsimp only; (repeat' split) <;> simp
@[simp] theorem Device.tryDecide_trunk_credit (d : Device) (l : LaneId) (n : Fin 4) : (d.tryDecide l n).trunk.credit = d.trunk.credit := by unfold Device.tryDecide; dsimp only; (repeat' split) <;> simp
@[simp] theorem Device.tryDecide_trunk_inbound (d : Device) (l : LaneId) (n : Fin 4) : (d.tryDecide l n).trunk.inbound = d.trunk.inbound := by unfold Device.tryDecide; dsimp only; (repeat' split) <;> simp
@[simp] theorem Device.tryDecide_trunk_replies (d : Device) (l : LaneId) (n : Fin 4) : (d.tryDecide l n).trunk.replies = d.trunk.replies := by unfold Device.tryDecide; dsimp only; (repeat' split) <;> simp
@[simp] theorem Device.tryDecide_trunk_verdicts (d : Device) (l : LaneId) (n : Fin 4) : (d.tryDecide l n).trunk.verdicts = d.trunk.verdicts := by unfold Device.tryDecide; dsimp only; (repeat' split) <;> simp
@[simp] theorem Device.tryDecide_trunk_frame (d : Device) (l : LaneId) (n : Fin 4) : (d.tryDecide l n).trunk.frame = d.trunk.frame := by unfold Device.tryDecide; dsimp only; (repeat' split) <;> simp
@[simp] theorem Device.tryDecide_trunk_stallLimit (d : Device) (l : LaneId) (n : Fin 4) : (d.tryDecide l n).trunk.stallLimit = d.trunk.stallLimit := by unfold Device.tryDecide; dsimp only; (repeat' split) <;> simp
@[simp] theorem Device.tryDecide_trunk_stallLeft (d : Device) (l : LaneId) (n : Fin 4) : (d.tryDecide l n).trunk.stallLeft = d.trunk.stallLeft := by unfold Device.tryDecide; dsimp only; (repeat' split) <;> simp
@[simp] theorem Device.passGateEntry_resetLow (d : Device) (l : LaneId) (e : GateEntry) : (d.passGateEntry l e).resetLow = d.resetLow := by unfold Device.passGateEntry; dsimp only; (repeat' split) <;> simp
@[simp] theorem Device.passGateEntry_trkSd (d : Device) (l : LaneId) (e : GateEntry) : (d.passGateEntry l e).trkSd = d.trkSd := by unfold Device.passGateEntry; dsimp only; (repeat' split) <;> simp
@[simp] theorem Device.passGateEntry_slots (d : Device) (l : LaneId) (e : GateEntry) : (d.passGateEntry l e).slots = d.slots := by unfold Device.passGateEntry; dsimp only; (repeat' split) <;> simp
@[simp] theorem Device.passGateEntry_validation (d : Device) (l : LaneId) (e : GateEntry) : (d.passGateEntry l e).validation = d.validation := by unfold Device.passGateEntry; dsimp only; (repeat' split) <;> simp
@[simp] theorem Device.passGateEntry_crops (d : Device) (l : LaneId) (e : GateEntry) : (d.passGateEntry l e).crops = d.crops := by unfold Device.passGateEntry; dsimp only; (repeat' split) <;> simp
@[simp] theorem Device.passGateEntry_cropQueue (d : Device) (l : LaneId) (e : GateEntry) : (d.passGateEntry l e).cropQueue = d.cropQueue := by unfold Device.passGateEntry; dsimp only; (repeat' split) <;> simp
@[simp] theorem Device.passGateEntry_closeQueue (d : Device) (l : LaneId) (e : GateEntry) : (d.passGateEntry l e).closeQueue = d.closeQueue := by unfold Device.passGateEntry; dsimp only; (repeat' split) <;> simp
@[simp] theorem Device.passGateEntry_waiting (d : Device) (l : LaneId) (e : GateEntry) : (d.passGateEntry l e).waiting = d.waiting := by unfold Device.passGateEntry; dsimp only; (repeat' split) <;> simp
@[simp] theorem Device.passGateEntry_evaluation (d : Device) (l : LaneId) (e : GateEntry) : (d.passGateEntry l e).evaluation = d.evaluation := by unfold Device.passGateEntry; dsimp only; (repeat' split) <;> simp
@[simp] theorem Device.passGateEntry_retireOrder (d : Device) (l : LaneId) (e : GateEntry) : (d.passGateEntry l e).retireOrder = d.retireOrder := by unfold Device.passGateEntry; dsimp only; (repeat' split) <;> simp
@[simp] theorem Device.passGateEntry_trunk (d : Device) (l : LaneId) (e : GateEntry) : (d.passGateEntry l e).trunk = d.trunk := by unfold Device.passGateEntry; dsimp only; (repeat' split) <;> simp
@[simp] theorem Device.passGateEntry_freeIndex (d : Device) (l : LaneId) (e : GateEntry) : (d.passGateEntry l e).freeIndex = d.freeIndex := by unfold Device.passGateEntry; dsimp only; (repeat' split) <;> simp
@[simp] theorem Device.gateArrival_resetLow (d : Device) (l : LaneId) : (d.gateArrival l).resetLow = d.resetLow := by unfold Device.gateArrival Device.gateAct; dsimp only; (repeat' split) <;> simp
@[simp] theorem Device.gateArrival_trkSd (d : Device) (l : LaneId) : (d.gateArrival l).trkSd = d.trkSd := by unfold Device.gateArrival Device.gateAct; dsimp only; (repeat' split) <;> simp
@[simp] theorem Device.gateArrival_slots (d : Device) (l : LaneId) : (d.gateArrival l).slots = d.slots := by unfold Device.gateArrival Device.gateAct; dsimp only; (repeat' split) <;> simp
@[simp] theorem Device.gateArrival_validation (d : Device) (l : LaneId) : (d.gateArrival l).validation = d.validation := by unfold Device.gateArrival Device.gateAct; dsimp only; (repeat' split) <;> simp
@[simp] theorem Device.gateArrival_crops (d : Device) (l : LaneId) : (d.gateArrival l).crops = d.crops := by unfold Device.gateArrival Device.gateAct; dsimp only; (repeat' split) <;> simp
@[simp] theorem Device.gateArrival_cropQueue (d : Device) (l : LaneId) : (d.gateArrival l).cropQueue = d.cropQueue := by unfold Device.gateArrival Device.gateAct; dsimp only; (repeat' split) <;> simp
@[simp] theorem Device.gateArrival_closeQueue (d : Device) (l : LaneId) : (d.gateArrival l).closeQueue = d.closeQueue := by unfold Device.gateArrival Device.gateAct; dsimp only; (repeat' split) <;> simp
@[simp] theorem Device.gateArrival_waiting (d : Device) (l : LaneId) : (d.gateArrival l).waiting = d.waiting := by unfold Device.gateArrival Device.gateAct; dsimp only; (repeat' split) <;> simp
@[simp] theorem Device.gateArrival_evaluation (d : Device) (l : LaneId) : (d.gateArrival l).evaluation = d.evaluation := by unfold Device.gateArrival Device.gateAct; dsimp only; (repeat' split) <;> simp
@[simp] theorem Device.gateArrival_freeIndex (d : Device) (l : LaneId) : (d.gateArrival l).freeIndex = d.freeIndex := by unfold Device.gateArrival Device.gateAct; dsimp only; (repeat' split) <;> simp
@[simp] theorem Device.gateArrival_trunk_link (d : Device) (l : LaneId) : (d.gateArrival l).trunk.link = d.trunk.link := by unfold Device.gateArrival Device.gateAct; dsimp only; (repeat' split) <;> simp
@[simp] theorem Device.gateArrival_trunk_syncRun (d : Device) (l : LaneId) : (d.gateArrival l).trunk.syncRun = d.trunk.syncRun := by unfold Device.gateArrival Device.gateAct; dsimp only; (repeat' split) <;> simp
@[simp] theorem Device.gateArrival_trunk_rx (d : Device) (l : LaneId) : (d.gateArrival l).trunk.rx = d.trunk.rx := by unfold Device.gateArrival Device.gateAct; dsimp only; (repeat' split) <;> simp
@[simp] theorem Device.gateArrival_trunk_credit (d : Device) (l : LaneId) : (d.gateArrival l).trunk.credit = d.trunk.credit := by unfold Device.gateArrival Device.gateAct; dsimp only; (repeat' split) <;> simp
@[simp] theorem Device.gateArrival_trunk_inbound (d : Device) (l : LaneId) : (d.gateArrival l).trunk.inbound = d.trunk.inbound := by unfold Device.gateArrival Device.gateAct; dsimp only; (repeat' split) <;> simp
@[simp] theorem Device.gateArrival_trunk_replies (d : Device) (l : LaneId) : (d.gateArrival l).trunk.replies = d.trunk.replies := by unfold Device.gateArrival Device.gateAct; dsimp only; (repeat' split) <;> simp
@[simp] theorem Device.gateArrival_trunk_verdicts (d : Device) (l : LaneId) : (d.gateArrival l).trunk.verdicts = d.trunk.verdicts := by unfold Device.gateArrival Device.gateAct; dsimp only; (repeat' split) <;> simp
@[simp] theorem Device.gateArrival_trunk_frame (d : Device) (l : LaneId) : (d.gateArrival l).trunk.frame = d.trunk.frame := by unfold Device.gateArrival Device.gateAct; dsimp only; (repeat' split) <;> simp
@[simp] theorem Device.gateArrival_trunk_stallLimit (d : Device) (l : LaneId) : (d.gateArrival l).trunk.stallLimit = d.trunk.stallLimit := by unfold Device.gateArrival Device.gateAct; dsimp only; (repeat' split) <;> simp
@[simp] theorem Device.gateArrival_trunk_stallLeft (d : Device) (l : LaneId) : (d.gateArrival l).trunk.stallLeft = d.trunk.stallLeft := by unfold Device.gateArrival Device.gateAct; dsimp only; (repeat' split) <;> simp

/-! ## Registration -/

@[simp] theorem Device.endRegistration_resetLow (d : Device) (l : LaneId) (r : Registration) (st : RegState) : (d.endRegistration l r st).resetLow = d.resetLow := by unfold Device.endRegistration; dsimp only; (repeat' split) <;> simp
@[simp] theorem Device.endRegistration_trkSd (d : Device) (l : LaneId) (r : Registration) (st : RegState) : (d.endRegistration l r st).trkSd = d.trkSd := by unfold Device.endRegistration; dsimp only; (repeat' split) <;> simp
@[simp] theorem Device.endRegistration_slots (d : Device) (l : LaneId) (r : Registration) (st : RegState) : (d.endRegistration l r st).slots = d.slots := by unfold Device.endRegistration; dsimp only; (repeat' split) <;> simp
@[simp] theorem Device.endRegistration_validation (d : Device) (l : LaneId) (r : Registration) (st : RegState) : (d.endRegistration l r st).validation = d.validation := by unfold Device.endRegistration; dsimp only; (repeat' split) <;> simp
@[simp] theorem Device.endRegistration_crops (d : Device) (l : LaneId) (r : Registration) (st : RegState) : (d.endRegistration l r st).crops = d.crops := by unfold Device.endRegistration; dsimp only; (repeat' split) <;> simp
@[simp] theorem Device.endRegistration_cropQueue (d : Device) (l : LaneId) (r : Registration) (st : RegState) : (d.endRegistration l r st).cropQueue = d.cropQueue := by unfold Device.endRegistration; dsimp only; (repeat' split) <;> simp
@[simp] theorem Device.endRegistration_closeQueue (d : Device) (l : LaneId) (r : Registration) (st : RegState) : (d.endRegistration l r st).closeQueue = d.closeQueue := by unfold Device.endRegistration; dsimp only; (repeat' split) <;> simp
@[simp] theorem Device.endRegistration_waiting (d : Device) (l : LaneId) (r : Registration) (st : RegState) : (d.endRegistration l r st).waiting = d.waiting := by unfold Device.endRegistration; dsimp only; (repeat' split) <;> simp
@[simp] theorem Device.endRegistration_evaluation (d : Device) (l : LaneId) (r : Registration) (st : RegState) : (d.endRegistration l r st).evaluation = d.evaluation := by unfold Device.endRegistration; dsimp only; (repeat' split) <;> simp
@[simp] theorem Device.endRegistration_retireOrder (d : Device) (l : LaneId) (r : Registration) (st : RegState) : (d.endRegistration l r st).retireOrder = d.retireOrder := by unfold Device.endRegistration; dsimp only; (repeat' split) <;> simp
@[simp] theorem Device.endRegistration_trunk (d : Device) (l : LaneId) (r : Registration) (st : RegState) : (d.endRegistration l r st).trunk = d.trunk := by unfold Device.endRegistration; dsimp only; (repeat' split) <;> simp
@[simp] theorem Device.endRegistration_freeIndex (d : Device) (l : LaneId) (r : Registration) (st : RegState) : (d.endRegistration l r st).freeIndex = d.freeIndex := by unfold Device.endRegistration; dsimp only; (repeat' split) <;> simp
@[simp] theorem Device.registrationDeadline_resetLow (d : Device) (l : LaneId) : (d.registrationDeadline l).resetLow = d.resetLow := by unfold Device.registrationDeadline; split <;> simp
@[simp] theorem Device.registrationDeadline_trkSd (d : Device) (l : LaneId) : (d.registrationDeadline l).trkSd = d.trkSd := by unfold Device.registrationDeadline; split <;> simp
@[simp] theorem Device.registrationDeadline_slots (d : Device) (l : LaneId) : (d.registrationDeadline l).slots = d.slots := by unfold Device.registrationDeadline; split <;> simp
@[simp] theorem Device.registrationDeadline_validation (d : Device) (l : LaneId) : (d.registrationDeadline l).validation = d.validation := by unfold Device.registrationDeadline; split <;> simp
@[simp] theorem Device.registrationDeadline_crops (d : Device) (l : LaneId) : (d.registrationDeadline l).crops = d.crops := by unfold Device.registrationDeadline; split <;> simp
@[simp] theorem Device.registrationDeadline_cropQueue (d : Device) (l : LaneId) : (d.registrationDeadline l).cropQueue = d.cropQueue := by unfold Device.registrationDeadline; split <;> simp
@[simp] theorem Device.registrationDeadline_closeQueue (d : Device) (l : LaneId) : (d.registrationDeadline l).closeQueue = d.closeQueue := by unfold Device.registrationDeadline; split <;> simp
@[simp] theorem Device.registrationDeadline_waiting (d : Device) (l : LaneId) : (d.registrationDeadline l).waiting = d.waiting := by unfold Device.registrationDeadline; split <;> simp
@[simp] theorem Device.registrationDeadline_evaluation (d : Device) (l : LaneId) : (d.registrationDeadline l).evaluation = d.evaluation := by unfold Device.registrationDeadline; split <;> simp
@[simp] theorem Device.registrationDeadline_retireOrder (d : Device) (l : LaneId) : (d.registrationDeadline l).retireOrder = d.retireOrder := by unfold Device.registrationDeadline; split <;> simp
@[simp] theorem Device.registrationDeadline_trunk (d : Device) (l : LaneId) : (d.registrationDeadline l).trunk = d.trunk := by unfold Device.registrationDeadline; split <;> simp
@[simp] theorem Device.registrationDeadline_freeIndex (d : Device) (l : LaneId) : (d.registrationDeadline l).freeIndex = d.freeIndex := by unfold Device.registrationDeadline; split <;> simp
@[simp] theorem Device.registerItem_resetLow (d : Device) (l : LaneId) (p : LocalPort) (x : Item) : (d.registerItem l p x).resetLow = d.resetLow := by unfold Device.registerItem; dsimp only; (repeat' split) <;> simp
@[simp] theorem Device.registerItem_trkSd (d : Device) (l : LaneId) (p : LocalPort) (x : Item) : (d.registerItem l p x).trkSd = d.trkSd := by unfold Device.registerItem; dsimp only; (repeat' split) <;> simp
@[simp] theorem Device.registerItem_slots (d : Device) (l : LaneId) (p : LocalPort) (x : Item) : (d.registerItem l p x).slots = d.slots := by unfold Device.registerItem; dsimp only; (repeat' split) <;> simp
@[simp] theorem Device.registerItem_validation (d : Device) (l : LaneId) (p : LocalPort) (x : Item) : (d.registerItem l p x).validation = d.validation := by unfold Device.registerItem; dsimp only; (repeat' split) <;> simp
@[simp] theorem Device.registerItem_crops (d : Device) (l : LaneId) (p : LocalPort) (x : Item) : (d.registerItem l p x).crops = d.crops := by unfold Device.registerItem; dsimp only; (repeat' split) <;> simp
@[simp] theorem Device.registerItem_cropQueue (d : Device) (l : LaneId) (p : LocalPort) (x : Item) : (d.registerItem l p x).cropQueue = d.cropQueue := by unfold Device.registerItem; dsimp only; (repeat' split) <;> simp
@[simp] theorem Device.registerItem_closeQueue (d : Device) (l : LaneId) (p : LocalPort) (x : Item) : (d.registerItem l p x).closeQueue = d.closeQueue := by unfold Device.registerItem; dsimp only; (repeat' split) <;> simp
@[simp] theorem Device.registerItem_waiting (d : Device) (l : LaneId) (p : LocalPort) (x : Item) : (d.registerItem l p x).waiting = d.waiting := by unfold Device.registerItem; dsimp only; (repeat' split) <;> simp
@[simp] theorem Device.registerItem_evaluation (d : Device) (l : LaneId) (p : LocalPort) (x : Item) : (d.registerItem l p x).evaluation = d.evaluation := by unfold Device.registerItem; dsimp only; (repeat' split) <;> simp
@[simp] theorem Device.registerItem_retireOrder (d : Device) (l : LaneId) (p : LocalPort) (x : Item) : (d.registerItem l p x).retireOrder = d.retireOrder := by unfold Device.registerItem; dsimp only; (repeat' split) <;> simp
@[simp] theorem Device.registerItem_trunk (d : Device) (l : LaneId) (p : LocalPort) (x : Item) : (d.registerItem l p x).trunk = d.trunk := by unfold Device.registerItem; dsimp only; (repeat' split) <;> simp
@[simp] theorem Device.registerItem_freeIndex (d : Device) (l : LaneId) (p : LocalPort) (x : Item) : (d.registerItem l p x).freeIndex = d.freeIndex := by unfold Device.registerItem; dsimp only; (repeat' split) <;> simp

/-! ## Crop slots, windows, the close queue -/

@[simp] theorem Device.freeCrop_resetLow (d : Device) (i : Nat) : (d.freeCrop i).resetLow = d.resetLow := rfl
@[simp] theorem Device.freeCrop_trkSd (d : Device) (i : Nat) : (d.freeCrop i).trkSd = d.trkSd := rfl
@[simp] theorem Device.freeCrop_slots (d : Device) (i : Nat) : (d.freeCrop i).slots = d.slots := rfl
@[simp] theorem Device.freeCrop_validation (d : Device) (i : Nat) : (d.freeCrop i).validation = d.validation := rfl
@[simp] theorem Device.freeCrop_lanes (d : Device) (i : Nat) : (d.freeCrop i).lanes = d.lanes := rfl
@[simp] theorem Device.freeCrop_closeQueue (d : Device) (i : Nat) : (d.freeCrop i).closeQueue = d.closeQueue := rfl
@[simp] theorem Device.freeCrop_waiting (d : Device) (i : Nat) : (d.freeCrop i).waiting = d.waiting := rfl
@[simp] theorem Device.freeCrop_evaluation (d : Device) (i : Nat) : (d.freeCrop i).evaluation = d.evaluation := rfl
@[simp] theorem Device.freeCrop_retireOrder (d : Device) (i : Nat) : (d.freeCrop i).retireOrder = d.retireOrder := rfl
@[simp] theorem Device.freeCrop_cond (d : Device) (i : Nat) : (d.freeCrop i).cond = d.cond := rfl
@[simp] theorem Device.freeCrop_trunk (d : Device) (i : Nat) : (d.freeCrop i).trunk = d.trunk := rfl
@[simp] theorem Device.freeCrop_freeIndex (d : Device) (i : Nat) : (d.freeCrop i).freeIndex = d.freeIndex := rfl
@[simp] theorem Device.freeCropOf_resetLow (d : Device) (w : Window) : (d.freeCropOf w).resetLow = d.resetLow := by unfold Device.freeCropOf; split <;> simp
@[simp] theorem Device.freeCropOf_trkSd (d : Device) (w : Window) : (d.freeCropOf w).trkSd = d.trkSd := by unfold Device.freeCropOf; split <;> simp
@[simp] theorem Device.freeCropOf_slots (d : Device) (w : Window) : (d.freeCropOf w).slots = d.slots := by unfold Device.freeCropOf; split <;> simp
@[simp] theorem Device.freeCropOf_validation (d : Device) (w : Window) : (d.freeCropOf w).validation = d.validation := by unfold Device.freeCropOf; split <;> simp
@[simp] theorem Device.freeCropOf_lanes (d : Device) (w : Window) : (d.freeCropOf w).lanes = d.lanes := by unfold Device.freeCropOf; split <;> simp
@[simp] theorem Device.freeCropOf_closeQueue (d : Device) (w : Window) : (d.freeCropOf w).closeQueue = d.closeQueue := by unfold Device.freeCropOf; split <;> simp
@[simp] theorem Device.freeCropOf_waiting (d : Device) (w : Window) : (d.freeCropOf w).waiting = d.waiting := by unfold Device.freeCropOf; split <;> simp
@[simp] theorem Device.freeCropOf_evaluation (d : Device) (w : Window) : (d.freeCropOf w).evaluation = d.evaluation := by unfold Device.freeCropOf; split <;> simp
@[simp] theorem Device.freeCropOf_retireOrder (d : Device) (w : Window) : (d.freeCropOf w).retireOrder = d.retireOrder := by unfold Device.freeCropOf; split <;> simp
@[simp] theorem Device.freeCropOf_cond (d : Device) (w : Window) : (d.freeCropOf w).cond = d.cond := by unfold Device.freeCropOf; split <;> simp
@[simp] theorem Device.freeCropOf_trunk (d : Device) (w : Window) : (d.freeCropOf w).trunk = d.trunk := by unfold Device.freeCropOf; split <;> simp
@[simp] theorem Device.freeCropOf_freeIndex (d : Device) (w : Window) : (d.freeCropOf w).freeIndex = d.freeIndex := by unfold Device.freeCropOf; split <;> simp
@[simp] theorem Device.moveToClose_resetLow (d : Device) (w : Window) : (d.moveToClose w).resetLow = d.resetLow := rfl
@[simp] theorem Device.moveToClose_trkSd (d : Device) (w : Window) : (d.moveToClose w).trkSd = d.trkSd := rfl
@[simp] theorem Device.moveToClose_slots (d : Device) (w : Window) : (d.moveToClose w).slots = d.slots := rfl
@[simp] theorem Device.moveToClose_validation (d : Device) (w : Window) : (d.moveToClose w).validation = d.validation := rfl
@[simp] theorem Device.moveToClose_crops (d : Device) (w : Window) : (d.moveToClose w).crops = d.crops := rfl
@[simp] theorem Device.moveToClose_cropQueue (d : Device) (w : Window) : (d.moveToClose w).cropQueue = d.cropQueue := rfl
@[simp] theorem Device.moveToClose_waiting (d : Device) (w : Window) : (d.moveToClose w).waiting = d.waiting := rfl
@[simp] theorem Device.moveToClose_evaluation (d : Device) (w : Window) : (d.moveToClose w).evaluation = d.evaluation := rfl
@[simp] theorem Device.moveToClose_retireOrder (d : Device) (w : Window) : (d.moveToClose w).retireOrder = d.retireOrder := rfl
@[simp] theorem Device.moveToClose_cond (d : Device) (w : Window) : (d.moveToClose w).cond = d.cond := rfl
@[simp] theorem Device.moveToClose_trunk (d : Device) (w : Window) : (d.moveToClose w).trunk = d.trunk := rfl
@[simp] theorem Device.moveToClose_freeIndex (d : Device) (w : Window) : (d.moveToClose w).freeIndex = d.freeIndex := rfl
@[simp] theorem Device.offerClose_resetLow (d : Device) (w : Window) : (d.offerClose w).resetLow = d.resetLow := by unfold Device.offerClose; split <;> simp
@[simp] theorem Device.offerClose_trkSd (d : Device) (w : Window) : (d.offerClose w).trkSd = d.trkSd := by unfold Device.offerClose; split <;> simp
@[simp] theorem Device.offerClose_slots (d : Device) (w : Window) : (d.offerClose w).slots = d.slots := by unfold Device.offerClose; split <;> simp
@[simp] theorem Device.offerClose_validation (d : Device) (w : Window) : (d.offerClose w).validation = d.validation := by unfold Device.offerClose; split <;> simp
@[simp] theorem Device.offerClose_crops (d : Device) (w : Window) : (d.offerClose w).crops = d.crops := by unfold Device.offerClose; split <;> simp
@[simp] theorem Device.offerClose_cropQueue (d : Device) (w : Window) : (d.offerClose w).cropQueue = d.cropQueue := by unfold Device.offerClose; split <;> simp
@[simp] theorem Device.offerClose_evaluation (d : Device) (w : Window) : (d.offerClose w).evaluation = d.evaluation := by unfold Device.offerClose; split <;> simp
@[simp] theorem Device.offerClose_retireOrder (d : Device) (w : Window) : (d.offerClose w).retireOrder = d.retireOrder := by unfold Device.offerClose; split <;> simp
@[simp] theorem Device.offerClose_trunk (d : Device) (w : Window) : (d.offerClose w).trunk = d.trunk := by unfold Device.offerClose; split <;> simp
@[simp] theorem Device.offerClose_freeIndex (d : Device) (w : Window) : (d.offerClose w).freeIndex = d.freeIndex := by unfold Device.offerClose; split <;> simp
@[simp] theorem Device.copyCrop_resetLow (d : Device) (x : Item) (w : Window) : (Device.copyCrop x d w).resetLow = d.resetLow := by unfold Device.copyCrop; split <;> rfl
@[simp] theorem Device.copyCrop_trkSd (d : Device) (x : Item) (w : Window) : (Device.copyCrop x d w).trkSd = d.trkSd := by unfold Device.copyCrop; split <;> rfl
@[simp] theorem Device.copyCrop_slots (d : Device) (x : Item) (w : Window) : (Device.copyCrop x d w).slots = d.slots := by unfold Device.copyCrop; split <;> rfl
@[simp] theorem Device.copyCrop_validation (d : Device) (x : Item) (w : Window) : (Device.copyCrop x d w).validation = d.validation := by unfold Device.copyCrop; split <;> rfl
@[simp] theorem Device.copyCrop_lanes (d : Device) (x : Item) (w : Window) : (Device.copyCrop x d w).lanes = d.lanes := by unfold Device.copyCrop; split <;> rfl
@[simp] theorem Device.copyCrop_cropQueue (d : Device) (x : Item) (w : Window) : (Device.copyCrop x d w).cropQueue = d.cropQueue := by unfold Device.copyCrop; split <;> rfl
@[simp] theorem Device.copyCrop_closeQueue (d : Device) (x : Item) (w : Window) : (Device.copyCrop x d w).closeQueue = d.closeQueue := by unfold Device.copyCrop; split <;> rfl
@[simp] theorem Device.copyCrop_waiting (d : Device) (x : Item) (w : Window) : (Device.copyCrop x d w).waiting = d.waiting := by unfold Device.copyCrop; split <;> rfl
@[simp] theorem Device.copyCrop_evaluation (d : Device) (x : Item) (w : Window) : (Device.copyCrop x d w).evaluation = d.evaluation := by unfold Device.copyCrop; split <;> rfl
@[simp] theorem Device.copyCrop_retireOrder (d : Device) (x : Item) (w : Window) : (Device.copyCrop x d w).retireOrder = d.retireOrder := by unfold Device.copyCrop; split <;> rfl
@[simp] theorem Device.copyCrop_cond (d : Device) (x : Item) (w : Window) : (Device.copyCrop x d w).cond = d.cond := by unfold Device.copyCrop; split <;> rfl
@[simp] theorem Device.copyCrop_trunk (d : Device) (x : Item) (w : Window) : (Device.copyCrop x d w).trunk = d.trunk := by unfold Device.copyCrop; split <;> rfl
@[simp] theorem Device.copyCrop_freeIndex (d : Device) (x : Item) (w : Window) : (Device.copyCrop x d w).freeIndex = d.freeIndex := by unfold Device.copyCrop; split <;> rfl

/-! ## Ports -/

@[simp] theorem Device.onPort_resetLow (d : Device) (p : PortId) (f : PortRun → PortRun) : (d.onPort p f).resetLow = d.resetLow := rfl
@[simp] theorem Device.onPort_trkSd (d : Device) (p : PortId) (f : PortRun → PortRun) : (d.onPort p f).trkSd = d.trkSd := rfl
@[simp] theorem Device.onPort_slots (d : Device) (p : PortId) (f : PortRun → PortRun) : (d.onPort p f).slots = d.slots := rfl
@[simp] theorem Device.onPort_validation (d : Device) (p : PortId) (f : PortRun → PortRun) : (d.onPort p f).validation = d.validation := rfl
@[simp] theorem Device.onPort_crops (d : Device) (p : PortId) (f : PortRun → PortRun) : (d.onPort p f).crops = d.crops := rfl
@[simp] theorem Device.onPort_cropQueue (d : Device) (p : PortId) (f : PortRun → PortRun) : (d.onPort p f).cropQueue = d.cropQueue := rfl
@[simp] theorem Device.onPort_closeQueue (d : Device) (p : PortId) (f : PortRun → PortRun) : (d.onPort p f).closeQueue = d.closeQueue := rfl
@[simp] theorem Device.onPort_waiting (d : Device) (p : PortId) (f : PortRun → PortRun) : (d.onPort p f).waiting = d.waiting := rfl
@[simp] theorem Device.onPort_evaluation (d : Device) (p : PortId) (f : PortRun → PortRun) : (d.onPort p f).evaluation = d.evaluation := rfl
@[simp] theorem Device.onPort_retireOrder (d : Device) (p : PortId) (f : PortRun → PortRun) : (d.onPort p f).retireOrder = d.retireOrder := rfl
@[simp] theorem Device.onPort_trunk (d : Device) (p : PortId) (f : PortRun → PortRun) : (d.onPort p f).trunk = d.trunk := rfl
@[simp] theorem Device.onPort_freeIndex (d : Device) (p : PortId) (f : PortRun → PortRun) : (d.onPort p f).freeIndex = d.freeIndex := rfl
@[simp] theorem Device.onStream_resetLow (d : Device) (p : PortId) (f : PortRun → PortRun) : (d.onStream p f).resetLow = d.resetLow := by unfold Device.onStream; dsimp only; split <;> simp
@[simp] theorem Device.onStream_trkSd (d : Device) (p : PortId) (f : PortRun → PortRun) : (d.onStream p f).trkSd = d.trkSd := by unfold Device.onStream; dsimp only; split <;> simp
@[simp] theorem Device.onStream_slots (d : Device) (p : PortId) (f : PortRun → PortRun) : (d.onStream p f).slots = d.slots := by unfold Device.onStream; dsimp only; split <;> simp
@[simp] theorem Device.onStream_validation (d : Device) (p : PortId) (f : PortRun → PortRun) : (d.onStream p f).validation = d.validation := by unfold Device.onStream; dsimp only; split <;> simp
@[simp] theorem Device.onStream_crops (d : Device) (p : PortId) (f : PortRun → PortRun) : (d.onStream p f).crops = d.crops := by unfold Device.onStream; dsimp only; split <;> simp
@[simp] theorem Device.onStream_cropQueue (d : Device) (p : PortId) (f : PortRun → PortRun) : (d.onStream p f).cropQueue = d.cropQueue := by unfold Device.onStream; dsimp only; split <;> simp
@[simp] theorem Device.onStream_closeQueue (d : Device) (p : PortId) (f : PortRun → PortRun) : (d.onStream p f).closeQueue = d.closeQueue := by unfold Device.onStream; dsimp only; split <;> simp
@[simp] theorem Device.onStream_waiting (d : Device) (p : PortId) (f : PortRun → PortRun) : (d.onStream p f).waiting = d.waiting := by unfold Device.onStream; dsimp only; split <;> simp
@[simp] theorem Device.onStream_evaluation (d : Device) (p : PortId) (f : PortRun → PortRun) : (d.onStream p f).evaluation = d.evaluation := by unfold Device.onStream; dsimp only; split <;> simp
@[simp] theorem Device.onStream_retireOrder (d : Device) (p : PortId) (f : PortRun → PortRun) : (d.onStream p f).retireOrder = d.retireOrder := by unfold Device.onStream; dsimp only; split <;> simp
@[simp] theorem Device.onStream_trunk (d : Device) (p : PortId) (f : PortRun → PortRun) : (d.onStream p f).trunk = d.trunk := by unfold Device.onStream; dsimp only; split <;> simp
@[simp] theorem Device.onStream_freeIndex (d : Device) (p : PortId) (f : PortRun → PortRun) : (d.onStream p f).freeIndex = d.freeIndex := by unfold Device.onStream; dsimp only; split <;> simp
@[simp] theorem Device.camWord_resetLow (d : Device) (p : PortId) (w : CamWord) : (d.camWord p w).resetLow = d.resetLow := by unfold Device.camWord; split <;> simp
@[simp] theorem Device.camWord_trkSd (d : Device) (p : PortId) (w : CamWord) : (d.camWord p w).trkSd = d.trkSd := by unfold Device.camWord; split <;> simp
@[simp] theorem Device.camWord_slots (d : Device) (p : PortId) (w : CamWord) : (d.camWord p w).slots = d.slots := by unfold Device.camWord; split <;> simp
@[simp] theorem Device.camWord_validation (d : Device) (p : PortId) (w : CamWord) : (d.camWord p w).validation = d.validation := by unfold Device.camWord; split <;> simp
@[simp] theorem Device.camWord_crops (d : Device) (p : PortId) (w : CamWord) : (d.camWord p w).crops = d.crops := by unfold Device.camWord; split <;> simp
@[simp] theorem Device.camWord_cropQueue (d : Device) (p : PortId) (w : CamWord) : (d.camWord p w).cropQueue = d.cropQueue := by unfold Device.camWord; split <;> simp
@[simp] theorem Device.camWord_closeQueue (d : Device) (p : PortId) (w : CamWord) : (d.camWord p w).closeQueue = d.closeQueue := by unfold Device.camWord; split <;> simp
@[simp] theorem Device.camWord_waiting (d : Device) (p : PortId) (w : CamWord) : (d.camWord p w).waiting = d.waiting := by unfold Device.camWord; split <;> simp
@[simp] theorem Device.camWord_evaluation (d : Device) (p : PortId) (w : CamWord) : (d.camWord p w).evaluation = d.evaluation := by unfold Device.camWord; split <;> simp
@[simp] theorem Device.camWord_retireOrder (d : Device) (p : PortId) (w : CamWord) : (d.camWord p w).retireOrder = d.retireOrder := by unfold Device.camWord; split <;> simp
@[simp] theorem Device.camWord_trunk (d : Device) (p : PortId) (w : CamWord) : (d.camWord p w).trunk = d.trunk := by unfold Device.camWord; split <;> simp
@[simp] theorem Device.camWord_freeIndex (d : Device) (p : PortId) (w : CamWord) : (d.camWord p w).freeIndex = d.freeIndex := by unfold Device.camWord; split <;> simp

/-! ## The strobe sequencer -/

@[simp] theorem Device.onPortSet_resetLow (d : Device) (l : LaneId) (b : Byte) (f : PortRun → PortRun) : (d.onPortSet l b f).resetLow = d.resetLow := by unfold Device.onPortSet; dsimp only; (repeat' split) <;> simp
@[simp] theorem Device.onPortSet_trkSd (d : Device) (l : LaneId) (b : Byte) (f : PortRun → PortRun) : (d.onPortSet l b f).trkSd = d.trkSd := by unfold Device.onPortSet; dsimp only; (repeat' split) <;> simp
@[simp] theorem Device.onPortSet_slots (d : Device) (l : LaneId) (b : Byte) (f : PortRun → PortRun) : (d.onPortSet l b f).slots = d.slots := by unfold Device.onPortSet; dsimp only; (repeat' split) <;> simp
@[simp] theorem Device.onPortSet_validation (d : Device) (l : LaneId) (b : Byte) (f : PortRun → PortRun) : (d.onPortSet l b f).validation = d.validation := by unfold Device.onPortSet; dsimp only; (repeat' split) <;> simp
@[simp] theorem Device.onPortSet_crops (d : Device) (l : LaneId) (b : Byte) (f : PortRun → PortRun) : (d.onPortSet l b f).crops = d.crops := by unfold Device.onPortSet; dsimp only; (repeat' split) <;> simp
@[simp] theorem Device.onPortSet_cropQueue (d : Device) (l : LaneId) (b : Byte) (f : PortRun → PortRun) : (d.onPortSet l b f).cropQueue = d.cropQueue := by unfold Device.onPortSet; dsimp only; (repeat' split) <;> simp
@[simp] theorem Device.onPortSet_closeQueue (d : Device) (l : LaneId) (b : Byte) (f : PortRun → PortRun) : (d.onPortSet l b f).closeQueue = d.closeQueue := by unfold Device.onPortSet; dsimp only; (repeat' split) <;> simp
@[simp] theorem Device.onPortSet_waiting (d : Device) (l : LaneId) (b : Byte) (f : PortRun → PortRun) : (d.onPortSet l b f).waiting = d.waiting := by unfold Device.onPortSet; dsimp only; (repeat' split) <;> simp
@[simp] theorem Device.onPortSet_evaluation (d : Device) (l : LaneId) (b : Byte) (f : PortRun → PortRun) : (d.onPortSet l b f).evaluation = d.evaluation := by unfold Device.onPortSet; dsimp only; (repeat' split) <;> simp
@[simp] theorem Device.onPortSet_retireOrder (d : Device) (l : LaneId) (b : Byte) (f : PortRun → PortRun) : (d.onPortSet l b f).retireOrder = d.retireOrder := by unfold Device.onPortSet; dsimp only; (repeat' split) <;> simp
@[simp] theorem Device.onPortSet_trunk (d : Device) (l : LaneId) (b : Byte) (f : PortRun → PortRun) : (d.onPortSet l b f).trunk = d.trunk := by unfold Device.onPortSet; dsimp only; (repeat' split) <;> simp
@[simp] theorem Device.onPortSet_freeIndex (d : Device) (l : LaneId) (b : Byte) (f : PortRun → PortRun) : (d.onPortSet l b f).freeIndex = d.freeIndex := by unfold Device.onPortSet; dsimp only; (repeat' split) <;> simp
@[simp] theorem Device.enterFlash_resetLow (d : Device) (l : LaneId) (r : LineRun) (p : Phase) : (d.enterFlash l r p).resetLow = d.resetLow := by unfold Device.enterFlash; simp
@[simp] theorem Device.enterFlash_trkSd (d : Device) (l : LaneId) (r : LineRun) (p : Phase) : (d.enterFlash l r p).trkSd = d.trkSd := by unfold Device.enterFlash; simp
@[simp] theorem Device.enterFlash_slots (d : Device) (l : LaneId) (r : LineRun) (p : Phase) : (d.enterFlash l r p).slots = d.slots := by unfold Device.enterFlash; simp
@[simp] theorem Device.enterFlash_validation (d : Device) (l : LaneId) (r : LineRun) (p : Phase) : (d.enterFlash l r p).validation = d.validation := by unfold Device.enterFlash; simp
@[simp] theorem Device.enterFlash_crops (d : Device) (l : LaneId) (r : LineRun) (p : Phase) : (d.enterFlash l r p).crops = d.crops := by unfold Device.enterFlash; simp
@[simp] theorem Device.enterFlash_cropQueue (d : Device) (l : LaneId) (r : LineRun) (p : Phase) : (d.enterFlash l r p).cropQueue = d.cropQueue := by unfold Device.enterFlash; simp
@[simp] theorem Device.enterFlash_closeQueue (d : Device) (l : LaneId) (r : LineRun) (p : Phase) : (d.enterFlash l r p).closeQueue = d.closeQueue := by unfold Device.enterFlash; simp
@[simp] theorem Device.enterFlash_waiting (d : Device) (l : LaneId) (r : LineRun) (p : Phase) : (d.enterFlash l r p).waiting = d.waiting := by unfold Device.enterFlash; simp
@[simp] theorem Device.enterFlash_evaluation (d : Device) (l : LaneId) (r : LineRun) (p : Phase) : (d.enterFlash l r p).evaluation = d.evaluation := by unfold Device.enterFlash; simp
@[simp] theorem Device.enterFlash_retireOrder (d : Device) (l : LaneId) (r : LineRun) (p : Phase) : (d.enterFlash l r p).retireOrder = d.retireOrder := by unfold Device.enterFlash; simp
@[simp] theorem Device.enterFlash_trunk (d : Device) (l : LaneId) (r : LineRun) (p : Phase) : (d.enterFlash l r p).trunk = d.trunk := by unfold Device.enterFlash; simp
@[simp] theorem Device.enterFlash_freeIndex (d : Device) (l : LaneId) (r : LineRun) (p : Phase) : (d.enterFlash l r p).freeIndex = d.freeIndex := by unfold Device.enterFlash; simp
@[simp] theorem Device.strobeLine_resetLow (d : Device) (l : LaneId) (r : LineRun) : (d.strobeLine l r).resetLow = d.resetLow := by unfold Device.strobeLine; dsimp only; (repeat' split) <;> simp
@[simp] theorem Device.strobeLine_trkSd (d : Device) (l : LaneId) (r : LineRun) : (d.strobeLine l r).trkSd = d.trkSd := by unfold Device.strobeLine; dsimp only; (repeat' split) <;> simp
@[simp] theorem Device.strobeLine_slots (d : Device) (l : LaneId) (r : LineRun) : (d.strobeLine l r).slots = d.slots := by unfold Device.strobeLine; dsimp only; (repeat' split) <;> simp
@[simp] theorem Device.strobeLine_validation (d : Device) (l : LaneId) (r : LineRun) : (d.strobeLine l r).validation = d.validation := by unfold Device.strobeLine; dsimp only; (repeat' split) <;> simp
@[simp] theorem Device.strobeLine_crops (d : Device) (l : LaneId) (r : LineRun) : (d.strobeLine l r).crops = d.crops := by unfold Device.strobeLine; dsimp only; (repeat' split) <;> simp
@[simp] theorem Device.strobeLine_cropQueue (d : Device) (l : LaneId) (r : LineRun) : (d.strobeLine l r).cropQueue = d.cropQueue := by unfold Device.strobeLine; dsimp only; (repeat' split) <;> simp
@[simp] theorem Device.strobeLine_closeQueue (d : Device) (l : LaneId) (r : LineRun) : (d.strobeLine l r).closeQueue = d.closeQueue := by unfold Device.strobeLine; dsimp only; (repeat' split) <;> simp
@[simp] theorem Device.strobeLine_waiting (d : Device) (l : LaneId) (r : LineRun) : (d.strobeLine l r).waiting = d.waiting := by unfold Device.strobeLine; dsimp only; (repeat' split) <;> simp
@[simp] theorem Device.strobeLine_evaluation (d : Device) (l : LaneId) (r : LineRun) : (d.strobeLine l r).evaluation = d.evaluation := by unfold Device.strobeLine; dsimp only; (repeat' split) <;> simp
@[simp] theorem Device.strobeLine_retireOrder (d : Device) (l : LaneId) (r : LineRun) : (d.strobeLine l r).retireOrder = d.retireOrder := by unfold Device.strobeLine; dsimp only; (repeat' split) <;> simp
@[simp] theorem Device.strobeLine_trunk (d : Device) (l : LaneId) (r : LineRun) : (d.strobeLine l r).trunk = d.trunk := by unfold Device.strobeLine; dsimp only; (repeat' split) <;> simp
@[simp] theorem Device.strobeLine_freeIndex (d : Device) (l : LaneId) (r : LineRun) : (d.strobeLine l r).freeIndex = d.freeIndex := by unfold Device.strobeLine; dsimp only; (repeat' split) <;> simp
@[simp] theorem Device.flashEnds_resetLow (d : Device) (l : LaneId) : (d.flashEnds l).resetLow = d.resetLow := by unfold Device.flashEnds; split <;> simp
@[simp] theorem Device.flashEnds_trkSd (d : Device) (l : LaneId) : (d.flashEnds l).trkSd = d.trkSd := by unfold Device.flashEnds; split <;> simp
@[simp] theorem Device.flashEnds_slots (d : Device) (l : LaneId) : (d.flashEnds l).slots = d.slots := by unfold Device.flashEnds; split <;> simp
@[simp] theorem Device.flashEnds_validation (d : Device) (l : LaneId) : (d.flashEnds l).validation = d.validation := by unfold Device.flashEnds; split <;> simp
@[simp] theorem Device.flashEnds_crops (d : Device) (l : LaneId) : (d.flashEnds l).crops = d.crops := by unfold Device.flashEnds; split <;> simp
@[simp] theorem Device.flashEnds_cropQueue (d : Device) (l : LaneId) : (d.flashEnds l).cropQueue = d.cropQueue := by unfold Device.flashEnds; split <;> simp
@[simp] theorem Device.flashEnds_closeQueue (d : Device) (l : LaneId) : (d.flashEnds l).closeQueue = d.closeQueue := by unfold Device.flashEnds; split <;> simp
@[simp] theorem Device.flashEnds_waiting (d : Device) (l : LaneId) : (d.flashEnds l).waiting = d.waiting := by unfold Device.flashEnds; split <;> simp
@[simp] theorem Device.flashEnds_evaluation (d : Device) (l : LaneId) : (d.flashEnds l).evaluation = d.evaluation := by unfold Device.flashEnds; split <;> simp
@[simp] theorem Device.flashEnds_retireOrder (d : Device) (l : LaneId) : (d.flashEnds l).retireOrder = d.retireOrder := by unfold Device.flashEnds; split <;> simp
@[simp] theorem Device.flashEnds_cond (d : Device) (l : LaneId) : (d.flashEnds l).cond = d.cond := by unfold Device.flashEnds; split <;> simp
@[simp] theorem Device.flashEnds_trunk (d : Device) (l : LaneId) : (d.flashEnds l).trunk = d.trunk := by unfold Device.flashEnds; split <;> simp
@[simp] theorem Device.flashEnds_freeIndex (d : Device) (l : LaneId) : (d.flashEnds l).freeIndex = d.freeIndex := by unfold Device.flashEnds; split <;> simp
@[simp] theorem Device.sequenceEnds_resetLow (d : Device) (l : LaneId) : (d.sequenceEnds l).resetLow = d.resetLow := by unfold Device.sequenceEnds; simp
@[simp] theorem Device.sequenceEnds_trkSd (d : Device) (l : LaneId) : (d.sequenceEnds l).trkSd = d.trkSd := by unfold Device.sequenceEnds; simp
@[simp] theorem Device.sequenceEnds_slots (d : Device) (l : LaneId) : (d.sequenceEnds l).slots = d.slots := by unfold Device.sequenceEnds; simp
@[simp] theorem Device.sequenceEnds_validation (d : Device) (l : LaneId) : (d.sequenceEnds l).validation = d.validation := by unfold Device.sequenceEnds; simp
@[simp] theorem Device.sequenceEnds_crops (d : Device) (l : LaneId) : (d.sequenceEnds l).crops = d.crops := by unfold Device.sequenceEnds; simp
@[simp] theorem Device.sequenceEnds_cropQueue (d : Device) (l : LaneId) : (d.sequenceEnds l).cropQueue = d.cropQueue := by unfold Device.sequenceEnds; simp
@[simp] theorem Device.sequenceEnds_closeQueue (d : Device) (l : LaneId) : (d.sequenceEnds l).closeQueue = d.closeQueue := by unfold Device.sequenceEnds; simp
@[simp] theorem Device.sequenceEnds_waiting (d : Device) (l : LaneId) : (d.sequenceEnds l).waiting = d.waiting := by unfold Device.sequenceEnds; simp
@[simp] theorem Device.sequenceEnds_evaluation (d : Device) (l : LaneId) : (d.sequenceEnds l).evaluation = d.evaluation := by unfold Device.sequenceEnds; simp
@[simp] theorem Device.sequenceEnds_retireOrder (d : Device) (l : LaneId) : (d.sequenceEnds l).retireOrder = d.retireOrder := by unfold Device.sequenceEnds; simp
@[simp] theorem Device.sequenceEnds_trunk (d : Device) (l : LaneId) : (d.sequenceEnds l).trunk = d.trunk := by unfold Device.sequenceEnds; simp
@[simp] theorem Device.sequenceEnds_freeIndex (d : Device) (l : LaneId) : (d.sequenceEnds l).freeIndex = d.freeIndex := by unfold Device.sequenceEnds; simp
@[simp] theorem Device.settleExpires_resetLow (d : Device) (l : LaneId) : (d.settleExpires l).resetLow = d.resetLow := by unfold Device.settleExpires; dsimp only; (repeat' split) <;> simp
@[simp] theorem Device.settleExpires_trkSd (d : Device) (l : LaneId) : (d.settleExpires l).trkSd = d.trkSd := by unfold Device.settleExpires; dsimp only; (repeat' split) <;> simp
@[simp] theorem Device.settleExpires_slots (d : Device) (l : LaneId) : (d.settleExpires l).slots = d.slots := by unfold Device.settleExpires; dsimp only; (repeat' split) <;> simp
@[simp] theorem Device.settleExpires_validation (d : Device) (l : LaneId) : (d.settleExpires l).validation = d.validation := by unfold Device.settleExpires; dsimp only; (repeat' split) <;> simp
@[simp] theorem Device.settleExpires_crops (d : Device) (l : LaneId) : (d.settleExpires l).crops = d.crops := by unfold Device.settleExpires; dsimp only; (repeat' split) <;> simp
@[simp] theorem Device.settleExpires_cropQueue (d : Device) (l : LaneId) : (d.settleExpires l).cropQueue = d.cropQueue := by unfold Device.settleExpires; dsimp only; (repeat' split) <;> simp
@[simp] theorem Device.settleExpires_closeQueue (d : Device) (l : LaneId) : (d.settleExpires l).closeQueue = d.closeQueue := by unfold Device.settleExpires; dsimp only; (repeat' split) <;> simp
@[simp] theorem Device.settleExpires_waiting (d : Device) (l : LaneId) : (d.settleExpires l).waiting = d.waiting := by unfold Device.settleExpires; dsimp only; (repeat' split) <;> simp
@[simp] theorem Device.settleExpires_evaluation (d : Device) (l : LaneId) : (d.settleExpires l).evaluation = d.evaluation := by unfold Device.settleExpires; dsimp only; (repeat' split) <;> simp
@[simp] theorem Device.settleExpires_retireOrder (d : Device) (l : LaneId) : (d.settleExpires l).retireOrder = d.retireOrder := by unfold Device.settleExpires; dsimp only; (repeat' split) <;> simp
@[simp] theorem Device.settleExpires_trunk (d : Device) (l : LaneId) : (d.settleExpires l).trunk = d.trunk := by unfold Device.settleExpires; dsimp only; (repeat' split) <;> simp
@[simp] theorem Device.settleExpires_freeIndex (d : Device) (l : LaneId) : (d.settleExpires l).freeIndex = d.freeIndex := by unfold Device.settleExpires; dsimp only; (repeat' split) <;> simp

end Sys2Proof.Machine
end

