-- ==== Sys2Proof/Laws/Orders.lean ====
section
/-! SUPPORT. What an operand's byte names, the one form of an order that is taken at once, and the condition unit right
after a reset. -/

namespace Sys2Proof.Machine

@[simp] theorem laneOf_laneByte (l : LaneId) : laneOf (laneByte l) = some l := by cases l <;> decide
@[simp] theorem fourOf_slotByte (i : Fin 4) : fourOf (slotByte i) = some i := by revert i; decide
@[simp] theorem portOf_portByte (p : PortId) : portOf (portByte p) = some p := by
  rcases p with ⟨l, q⟩; cases l <;> cases q <;> decide
@[simp] theorem setOf_setByte (i : SetId) : setOf (setByte i) = some i := by
  rcases i with _ | l | ⟨l, q⟩ <;> (try cases l) <;> (try cases q) <;> decide
theorem slotByte_ne_none (i : Fin 4) : slotByte i ≠ 0xFF := by revert i; decide
theorem fourOf_above (b : Byte) (h : 3 < b.toNat) : fourOf b = none := by revert b; decide
theorem setOf_above (b : Byte) (h : 6 < b.toNat) : setOf b = none := by revert b; decide

/-- The ranges of Table 1-4 as the meanings test them and as the statements write them. -/
theorem rangeOk_entries (start count carried size most : Nat) :
    (rangeOk start count size most && decide (carried = count)) = entriesInRange start count carried size most := by
  simp only [entriesInRange, rangeOk]; rw [Bool.eq_iff_iff]; simp; omega

/-- An order taken at once is what its owner does with it (R167). -/
theorem event_arrive_taken (s : State) (h : Taken s) (tag : Byte) (o : Order) (take : Device → Device) :
    event (fun d => d.arrive tag o take) s = becomes s (take s.dev) := by
  obtain ⟨h1, h2, h3⟩ := h
  simp [event, becomes, Device.arrive, h1, h2, h3]

/-- An event on a part that is not held in reset. -/
theorem event_running (s : State) (h : s.dev.resetLow = false) (f : Device → Device) : event f s = becomes s (f s.dev) := by
  simp [event, becomes, h]

/-! ## Conditions right after a reset -/

/-- Raising a list in one set, seen on the condition unit alone. -/
def CondUnit.raise (u : CondUnit) (i : SetId) (x : Word16) : CondUnit :=
  u.settle (u.mod i (fun c => { c with raised := c.raised ||| x }))

theorem Device.raise_eq (d : Device) (i : SetId) (x : Word16) : d.raise i x = { d with cond := d.cond.raise i x } := rfl

theorem CondUnit.afterReset_eq :
    allPorts.foldl (fun u p => CondUnit.raise u (.port p) 0x180) (CondUnit.clear.raise .device 1) = CondUnit.afterReset := by
  decide +kernel

/-- With every signal present and every monitor at zero the conditions raised at a reset are those of State.reset (R176). -/
theorem Device.raiseResetConds_allOn (d : Device) (hc : d.cond = .clear)
    (hp : ∀ p : PortId, (d.port p).camSd = true ∧ (d.port p).noiseMonitor = 0 ∧ (d.port p).checkMonitor = 0) :
    d.raiseResetConds = { d with cond := .afterReset } := by
  have key : ∀ (ps : List PortId) (u : CondUnit),
      ps.foldl Device.wakePort { d with cond := u } =
        { d with cond := ps.foldl (fun u p => CondUnit.raise u (.port p) 0x180) u } := by
    intro ps
    induction ps with
    | nil => intro u; rfl
    | cons p ps ih =>
      intro u
      have hw : Device.wakePort { d with cond := u } p = { d with cond := CondUnit.raise u (.port p) 0x180 } := by
        have h := hp p
        unfold Device.wakePort
        have e : ({ d with cond := u } : Device).port p = d.port p := rfl
        rw [e, h.1]
        have hs : (d.port p).standing = 0x180 := by simp [Port.standing, h.2.1, h.2.2, PortCond.bit]
        show Device.raise { d with cond := u } (.port p) (({ d with cond := u } : Device).port p).standing = _
        rw [e, hs]; rfl
      rw [List.foldl_cons, hw, ih]; rfl
  unfold Device.raiseResetConds
  rw [show d.raiseDevice .resetDone = { d with cond := d.cond.raise .device 1 } from rfl, key, hc, CondUnit.afterReset_eq]

end Sys2Proof.Machine
end

