-- ==== Sys2Proof/Laws/Pins.lean ====
section
/-! SUPPORT. What the output pins show, what a frame begun holds, and what resolving outstanding entries does to a port. -/

namespace Sys2Proof.Machine

/-! ## Pins (Machine/Pins.lean) -/

theorem Lane.strobeOn_iff (L : Lane) (p : Phase) : L.strobeOn p = true ↔ L.strobe.state = .flash p := by
  simp [Lane.strobeOn]

theorem Lane.lightOn_iff (L : Lane) : L.lightOn = true ↔ L.light ≠ .off := by cases h : L.light <;> simp [Lane.lightOn, h]

theorem Gate.divert0_iff (g : Gate) : g.divert0 = true ↔ g.divert = .accept := by cases h : g.divert <;> simp [Gate.divert0, h]

theorem Gate.divert1_iff (g : Gate) : g.divert1 = true ↔ g.divert = .reject := by cases h : g.divert <;> simp [Gate.divert1, h]

@[simp] theorem Gate.holdOn_eq (g : Gate) : g.holdOn = g.hold := rfl

theorem Device.trkTx_of_reset (d : Device) (h : d.resetLow = true) : d.trkTx = [] := by simp [Device.trkTx, h]

theorem Device.trkTx_of_frame (d : Device) (f : Frame) (hr : d.resetLow = false) (h : d.trunk.frame = some f) :
    d.trkTx = f.words := by simp [Device.trkTx, hr, h]

theorem Device.trkTx_of_idle (d : Device) (hr : d.resetLow = false) (h : d.trunk.frame = none) : d.trkTx = [.sync] := by
  simp [Device.trkTx, hr, h]

/-! ## A whole frame by the link state (R162) -/

theorem Device.frameComes_of_up (d : Device) (run : Nat) (f : Device → Device) (h : d.trunk.link = .up) :
    d.frameComes run f = f d := by simp [Device.frameComes, h]

theorem Device.frameComes_of_training (d : Device) (run : Nat) (f : Device → Device) (h : d.trunk.link = .training) :
    d.frameComes run f = { d with trunk := { d.trunk with syncRun := run } } := by
  simp [Device.frameComes, h, Device.modTrunk]

theorem Device.frameComes_of_down (d : Device) (run : Nat) (f : Device → Device) (h : d.trunk.link = .down) :
    d.frameComes run f = d := by simp [Device.frameComes, h]

/-! ## The frame in transmission (R169, R170, R184) -/

@[simp] theorem Frame.of_kind (k : FrameKind) (px : List Byte) : (Frame.of k px).kind = k := rfl
@[simp] theorem Frame.of_payload (k : FrameKind) (px : List Byte) : (Frame.of k px).payload = px := rfl
@[simp] theorem Frame.of_words (k : FrameKind) (px : List Byte) :
    (Frame.of k px).words = frameWords (frameKindCode k) px := rfl

@[simp] theorem Trunk.send_credit (t : Trunk) (k : FrameKind) (px : List Byte) : (t.send k px).credit = t.credit - 1 := rfl
@[simp] theorem Trunk.send_frame (t : Trunk) (k : FrameKind) (px : List Byte) : (t.send k px).frame = some (.of k px) := rfl
@[simp] theorem Trunk.send_link (t : Trunk) (k : FrameKind) (px : List Byte) : (t.send k px).link = t.link := rfl
@[simp] theorem Trunk.send_inbound (t : Trunk) (k : FrameKind) (px : List Byte) : (t.send k px).inbound = t.inbound := rfl
@[simp] theorem Trunk.send_replies (t : Trunk) (k : FrameKind) (px : List Byte) : (t.send k px).replies = t.replies := rfl
@[simp] theorem Trunk.send_panelReports (t : Trunk) (k : FrameKind) (px : List Byte) :
    (t.send k px).panelReports = t.panelReports := rfl
@[simp] theorem Trunk.send_verdicts (t : Trunk) (k : FrameKind) (px : List Byte) :
    (t.send k px).verdicts = t.verdicts := rfl

/-! ## Entries resolved in order (R58 to R60, R67) -/

theorem PortRun.resolve_fifo (r : PortRun) (e : Entry) : (r.resolve e).1.fifo = r.1.fifo ++ [e.marker] := by
  unfold PortRun.resolve PortRun.emit Port.oneShotResolved Port.put
  (repeat' split) <;> rfl

theorem PortRun.resolve_outstanding (r : PortRun) (e : Entry) : (r.resolve e).1.outstanding = r.1.outstanding := by
  unfold PortRun.resolve PortRun.emit Port.oneShotResolved Port.put
  (repeat' split) <;> rfl

theorem PortRun.resolve_conds (r : PortRun) (e : Entry) :
    (r.resolve e).2 = r.2 ||| (if e.kind = .triggered then PortCond.lineLost.bit else 0) := by
  unfold PortRun.resolve PortRun.emit
  split <;> simp

/-- Entries resolved one after the other become loss markers at the FIFO's tail in their order. -/
theorem PortRun.foldl_resolve_fifo (es : List Entry) (r : PortRun) :
    (es.foldl PortRun.resolve r).1.fifo = r.1.fifo ++ es.map Entry.marker := by
  induction es generalizing r with
  | nil => simp
  | cons e es ih => simp [ih, PortRun.resolve_fifo]

theorem PortRun.foldl_resolve_outstanding (es : List Entry) (r : PortRun) :
    (es.foldl PortRun.resolve r).1.outstanding = r.1.outstanding := by
  induction es generalizing r with
  | nil => rfl
  | cons e es ih => simp [ih, PortRun.resolve_outstanding]

/-- LineLost is raised exactly when one of them is Triggered. -/
theorem PortRun.foldl_resolve_conds (es : List Entry) (r : PortRun) :
    (es.foldl PortRun.resolve r).2 =
      r.2 ||| (if es.any (fun e => decide (e.kind = .triggered)) then PortCond.lineLost.bit else 0) := by
  induction es generalizing r with
  | nil => simp
  | cons e es ih =>
    rw [List.foldl_cons, ih, PortRun.resolve_conds, List.any_cons]
    by_cases h : e.kind = .triggered <;> by_cases k : es.any (fun e => decide (e.kind = .triggered)) = true <;>
      simp [h, k, BitVec.or_assoc]

/-- The first `k` entries resolved: markers in the FIFO, gone from the list. -/
theorem PortRun.resolveFirst_fifo (k : Nat) (r : PortRun) :
    (PortRun.resolveFirst k r).1.fifo = r.1.fifo ++ (r.1.outstanding.take k).map Entry.marker := by
  unfold PortRun.resolveFirst; rw [PortRun.foldl_resolve_fifo]

theorem PortRun.resolveFirst_outstanding (k : Nat) (r : PortRun) :
    (PortRun.resolveFirst k r).1.outstanding = r.1.outstanding.drop k := by
  unfold PortRun.resolveFirst; rw [PortRun.foldl_resolve_outstanding]

end Sys2Proof.Machine
end

