-- ==== Sys2Proof/Laws/Records.lean ====
section
/-! SUPPORT. What the field functions of a record give (R187), for the proofs about records and payloads. -/

namespace Sys2Proof.Machine

theorem be_one (x : Nat) : be 1 x = [BitVec.ofNat 8 x] := by simp [be]

theorem be_length (n x : Nat) : (be n x).length = n := by
  induction n with
  | zero => rfl
  | succ n ih => simp [be, ih]

/-- The byte at a place of a number sent most significant byte first. -/
theorem be_getElem (n x i : Nat) (h : i < n) : (be n x)[i]? = some (BitVec.ofNat 8 (x / 256 ^ (n - 1 - i))) := by
  induction n generalizing i with
  | zero => omega
  | succ n ih =>
    cases i with
    | zero => simp [be]
    | succ i =>
      rw [be, List.getElem?_cons_succ, ih i (by omega)]
      congr 4
      omega

/-- A number of zeros is sent as zeros. -/
theorem be_zero (n : Nat) : be n 0 = List.replicate n 0 := by
  induction n with
  | zero => rfl
  | succ n ih => simp [be, ih, List.replicate_succ]

theorem code1_eq (x : Nat) : code1 x = [BitVec.ofNat 8 x] := be_one x

theorem mark_eq (b : Bool) : mark b = [if b then 1 else 0] := by cases b <;> rfl

theorem optional_none {α : Type} (width : Nat) (f : α → List Byte) :
    Machine.optional width f none = List.replicate (width + 1) 0 := by
  simp [Machine.optional, be_one, List.replicate_succ]

theorem optional_some {α : Type} (width : Nat) (f : α → List Byte) (x : α) :
    Machine.optional width f (some x) = 1 :: f x := by simp [Machine.optional, be_one]

theorem counted_eq {α : Type} (f : α → List Byte) (xs : List α) : counted f xs = be 2 xs.length ++ xs.flatMap f := rfl

theorem signed_zero : signed 0 = [0] := rfl

/-- A signed number in the range of a byte is sent as the byte of that value. -/
theorem signed_eq (x : Int) (lo : -128 ≤ x) (hi : x ≤ 127) : ∃ b : Byte, signed x = [b] ∧ b.toInt = x := by
  refine ⟨_, rfl, ?_⟩
  rw [BitVec.toInt_ofInt]
  simp [Int.bmod]
  omega

theorem phaseField_eq (p : Option Phase) : phaseField p = [(p.map Phase.code).getD 0] := by cases p <;> rfl

/-! ## Items of several alternatives (log 18) -/

theorem targetBytes_eq (t : Target) : targetBytes t =
    match t with
    | .absent => [0, 0, 0, 0]
    | .armed => [1, 0, 0, 0]
    | .panel q => [2, 1] ++ be 2 q.toNat := by
  cases t <;> simp [targetBytes, Target.seq, code1_eq, optional_none, optional_some, List.replicate_succ]

theorem strobeStateBytes_eq (x : StrobeState) : strobeStateBytes x =
    match x with
    | .idle => [0, 0, 0]
    | .flash p => [1, 1, p.code]
    | .settle p => [2, 1, p.code] := by
  cases x <;> simp [strobeStateBytes, StrobeState.phase, code1_eq, optional_none, optional_some, List.replicate_succ]

theorem fidResultBytes_eq (x : Option FidResult) : fidResultBytes x =
    match x with
    | none => [0, 0, 0, 0]
    | some (.found dx dy) => [1, 1] ++ signed dx ++ signed dy
    | some .notFound => [2, 0, 0, 0]
    | some .lost => [3, 0, 0, 0] := by
  rcases x with _ | ⟨⟩ | _ | _ <;>
    simp [fidResultBytes, fidResultOffset, offsetBytes, code1_eq, optional_none, optional_some, List.replicate_succ]

theorem fidOutcomeBytes_eq (x : FidOutcome) : fidOutcomeBytes x =
    match x with
    | .found a dx dy => [0, 1] ++ be 2 a ++ [1] ++ signed dx ++ signed dy
    | .notFound a => [1, 1] ++ be 2 a ++ [0, 0, 0]
    | .lost => [2, 0, 0, 0, 0, 0, 0]
    | .notClosed => [3, 0, 0, 0, 0, 0, 0] := by
  cases x <;> simp [fidOutcomeBytes, fidOutcomeCode, fidOutcomeArea, fidOutcomeOffset, offsetBytes, code1_eq,
    optional_none, optional_some, List.replicate_succ]

theorem fidReportBytes_eq (x : FidOutcome) : fidReportBytes x =
    match x with
    | .found a dx dy => [0] ++ be 2 a ++ signed dx ++ signed dy
    | .notFound a => [1] ++ be 2 a ++ [0, 0]
    | .lost => [2, 0, 0, 0, 0]
    | .notClosed => [3, 0, 0, 0, 0] := by
  cases x <;> simp [fidReportBytes, fidOutcomeCode, fidOutcomeArea, fidOutcomeOffset, offsetBytes, code1_eq, be_zero,
    signed_zero, List.replicate_succ]

theorem gateEntryBytes_eq (e : GateEntry) : gateEntryBytes e = be 4 e.pos.toNat ++ be 2 e.seq.toNat ++
    (match e.kind with
     | .linked n => [0, 1, BitVec.ofNat 8 n.val]
     | .fixedReview => [1, 0, 0]) := by
  cases h : e.kind <;>
    simp [gateEntryBytes, h, GateKind.context, code1_eq, optional_none, optional_some, List.replicate_succ]

end Sys2Proof.Machine
end

