-- ==== Sys2Proof/WellFormed.lean ====
section
/-! DEFINITION. Which commands can be sent at all: an order's payload must fit an Order frame (2..512 bytes, R185),
the word of VIOLATION_WORD must decode as a Violation (R189), the code of UNKNOWN_ORDER must be one Table 11-2 does
not list (R186). Every range check on a parameter belongs to the order's meaning (RefusedRange), not here. -/

namespace Sys2Proof

/-- The largest Order payload, tag and code included (R185). -/
def maxOrderPayload : Nat := 512

/-- A command that can reach the part. -/
def Instr.wellFormed : Instr → Bool
  | .writeFiducials _ _ _ _ es => decide (5 + 14 * es.length ≤ maxOrderPayload)
  | .writeJoints _ _ _ _ es => decide (6 + 12 * es.length ≤ maxOrderPayload)
  | .writeRules _ _ _ _ es => decide (5 + 27 * es.length ≤ maxOrderPayload)
  | .loadPattern _ _ _ _ px => decide (7 + px.length ≤ maxOrderPayload)
  | .orderFrame _ _ ps => decide (2 + ps.length ≤ maxOrderPayload)
  | .unknownOrder _ code => !listedCode code
  | .violationWord _ w => decide (decodeCamWord w = .violation)
  | .powerOn | .resetPinAssert | .resetPinRelease | .openSlot .. | .writeHeader .. | .sealSlot ..
  | .validationComplete | .unsealSlot .. | .eraseSlot .. | .readSlot .. | .readFiducials .. | .readJoints ..
  | .readRules .. | .bindRecipe .. | .configureLane .. | .encoderForwardCount .. | .encoderReverseCount ..
  | .edgeRise .. | .flashEnd .. | .settleExpiry .. | .warmupExpiry .. | .idleTimerExpiry .. | .enableLane ..
  | .armLane .. | .disableLane .. | .readLane .. | .readPanel .. | .camSdInactive .. | .camSdActive ..
  | .fillWord .. | .startWord .. | .dataWord .. | .endWord .. | .configurePort .. | .readPattern ..
  | .setInjection .. | .readPort .. | .itemTake .. | .evaluationTake | .evaluationComplete | .setReportMode ..
  | .readJudgement .. | .readWindows .. | .setGateMode .. | .setFaultResponse .. | .releaseForce .. | .readGate ..
  | .trkSdInactive | .trkSdActive | .trainingWord .. | .frameError .. | .creditFrame .. | .frameBegin
  | .frameComplete | .stallTimerExpiry | .identify .. | .readTrunk .. | .configureDevice .. | .resetDevice ..
  | .readConditions .. | .clearConditions .. | .setMask .. => true

end Sys2Proof
end

