-- ==== Sys2Proof/Tests/Slice0.lean ====
section
/-! SUPPORT. Tests: ill-formed terms, single steps against the manual's worked cases, and for every statement with
hypotheses a state and operands that meet them. -/

namespace Sys2Proof.Tests

set_option Elab.async false

open Sys2Proof.Machine

/-! ## Ill-formed commands (WellFormed) -/

theorem test_wf_fiducials_too_long :
    Instr.wellFormed (.writeFiducials 0 0 0 40 (List.replicate 37 zeroFiducialEntry)) = false := by decide
theorem test_wf_joints_too_long :
    Instr.wellFormed (.writeJoints 0 0 0 43 (List.replicate 43 zeroJointEntry)) = false := by decide
theorem test_wf_rules_too_long :
    Instr.wellFormed (.writeRules 0 0 0 19 (List.replicate 19 zeroRuleEntry)) = false := by decide
theorem test_wf_pattern_too_long :
    Instr.wellFormed (.loadPattern 0 0 0 506 (List.replicate 506 0)) = false := by decide +kernel
theorem test_wf_payload_too_long :
    Instr.wellFormed (.orderFrame 0 0x10 (List.replicate 511 0)) = false := by decide +kernel
theorem test_wf_listed_code : Instr.wellFormed (.unknownOrder 0 0x10) = false := by decide
theorem test_wf_no_violation : Instr.wellFormed (.violationWord ⟨.a, .p0⟩ 0x900012) = false := by decide
theorem test_wf_good : Instr.wellFormed (.violationWord ⟨.a, .p0⟩ 0x900112) = true ∧
    Instr.wellFormed (.unknownOrder 0 0x7F) = true ∧ Instr.wellFormed .powerOn = true := by decide

/-! ## Words and frames (chapter 11) -/

theorem test_cam_words : decodeCamWord 0x000000 = .fill ∧ decodeCamWord 0x521234 = .start 0x1234 .ring ∧
    decodeCamWord 0x501234 = .violation ∧ decodeCamWord 0x9000FF = .data 0xFF ∧ decodeCamWord 0xC0ABCD = .lineEnd 0xABCD ∧
    decodeCamWord 0x311234 = .violation := by decide
theorem test_trigger_word : triggerWord 0x1234 .axial = 0x331234 := by decide
theorem test_crc_reference : crc [0x31, 0x32, 0x33, 0x34, 0x35, 0x36, 0x37, 0x38, 0x39] = 0x29B1 := by decide +kernel
theorem test_order_payload : parseOrder 0x1C [1, 2] = .bindRecipe 1 2 ∧ parseOrder 0x1C [1] = .malformed 0x1C ∧
    parseOrder 0x72 [0x01, 0xF4] = .configureDevice 500 ∧ parseOrder 0x7F [] = .unknown 0x7F := by decide

/-! ## States of the tests -/

def port0 : PortId := ⟨.a, .p0⟩
def withDev (f : Device → Device) : State := { dev := f State.reset.dev, pending := [] }
def withA (f : Lane → Lane) : State := withDev (fun d => withLane d .a (f (d.lane .a)))
def withC0 (f : Port → Port) : State := withDev (fun d => withPort d port0 (f (d.port port0)))
def withTrunk (f : Trunk → Trunk) : State := withDev (fun d => { d with trunk := f d.trunk })
def withSlot0 (f : Slot → Slot) : State := withDev (fun d => withSlot d 0 (f (d.slot 0)))

/-- A change of lane A, or of port C0, of a state. -/
def onA (s : State) (f : Lane → Lane) : State := { s with dev := withLane s.dev .a (f (s.dev.lane .a)) }
def onC0 (s : State) (f : Port → Port) : State := { s with dev := withPort s.dev port0 (f (s.dev.port port0)) }

/-- The part after a command. -/
def after (c : Instr) (s : State) : Device :=
  match exec c s with
  | .next t => t.dev
  | .fault _ => s.dev
  | .refused _ => s.dev

/-- The outcome of the newest reply. -/
def outcome (d : Device) : Option ReplyCode := d.trunk.replies.getLast?.map (fun r => r.outcome)

/-- A small recipe that validation passes: 260 lines, two fiducials, one joint, one rule. -/
def header1 : Header :=
  { recipeId := 7, panelLength := 260, zone := 64, linePitch := 2, phaseSet := 5, flashTop := 10, flashRing := 0,
    flashAxial := 20, portSet := 3, jointCount := 1, fiducialCount := 2, ruleCount := 1, marginalLimit := 0,
    spreadTolerance := 4 }
def fiducial1 : FiducialEntry :=
  { port := 0, phase := 1, column := 100, line := 32, width := 16, height := 16, bandLow := 100, bandHigh := 255,
    areaMin := 1, areaMax := 256 }
def criteria1 : Criteria :=
  { used := 1, bandLow := 100, bandHigh := 200, fillMin := 40, fillMax := 80, spanLimit := 10, meanLow := 60,
    meanHigh := 180 }
def rule1 : RuleEntry :=
  { fillMargin := 5, spanMargin := 3, meanMargin := 8, top := criteria1, ring := zeroCriteria, axial := zeroCriteria }
def joint1 : JointEntry :=
  { component := 9, port := 0, x := 64, y := 192, width := 4, height := 4, rule := 0, phases := 1, crop := 1 }
def recipe1 : Slot :=
  { state := .sealed, header := some header1, fiducials := [(0, fiducial1), (1, fiducial1)], joints := [(0, joint1)],
    rules := [(0, rule1)], lastFailure := none }
def sealed0 : State := withSlot0 (fun _ => recipe1)
def loading0 : State := withSlot0 (fun _ => { recipe1 with state := .loading })
def validating0 : State :=
  withDev (fun d => { withSlot d 0 { recipe1 with state := .validating } with validation := some { slot := 0, tag := 5 } })

/-- A live context of the recipe. -/
def ctx1 (st : CtxState) : Context :=
  { Context.fresh 0 3 0 7 100 100 with state := st, firstTag := some 0 }

/-- Lane A Ready on the recipe, with some live contexts. -/
def laneA (mode : LaneMode) (live : List Context) : State :=
  withDev (fun d =>
    let d := withSlot d 0 recipe1
    withLane d .a { d.lane .a with mode := mode, light := .ready, live := live, active := some 0 })

/-! ## Single steps -/

theorem test_reset_values : State.reset.dev.trunk.stallLeft = some 500000 ∧ State.reset.dev.resetLow = false ∧
    State.reset.dev.cond.deviceView = 1 := by decide
theorem test_open_then_refused : outcome (after (.openSlot 1 0) State.reset) = some .done ∧
    ((after (.openSlot 1 0) State.reset).slot 0).state = .loading ∧
    outcome (after (.openSlot 1 0) sealed0) = some .refusedState ∧
    outcome (after (.openSlot 1 4) State.reset) = some .refusedRange := by decide +kernel
theorem test_write_header : ((after (.writeHeader 1 0 header1) loading0).slot 0).header = some header1 := by decide +kernel
theorem test_recipe_validates : validate recipe1 = none := by decide +kernel
theorem test_recipe_fails_in_order :
    validate { recipe1 with header := some { header1 with linePitch := 0, portSet := 0 } } =
      some { table := .header, index := 0, check := .linePitch, phase := none } ∧
    validate { recipe1 with header := some { header1 with flashAxial := 0 } } =
      some { table := .header, index := 0, check := .flashTime, phase := some .axial } := by decide +kernel
theorem test_recipe_fails_by_table :
    validate { recipe1 with fiducials := [(0, fiducial1), (1, { fiducial1 with phase := 2 })], rules := [] } =
      some { table := .fiducial, index := 1, check := .phase, phase := some .ring } ∧
    validate { recipe1 with rules := [(0, { rule1 with top := { criteria1 with fillMax := 101 } })] } =
      some { table := .rule, index := 0, check := .fill, phase := some .top } ∧
    validate { recipe1 with joints := [(0, { joint1 with phases := 4 })] } =
      some { table := .joint, index := 0, check := .ruleAgreement, phase := some .top } := by decide +kernel
theorem test_validation_seals : ((after .validationComplete validating0).slot 0).state = .sealed ∧
    (after .validationComplete validating0).trunk.replies.map (fun r => r.tag) = [5] := by decide +kernel
theorem test_erase_aborts : (after (.eraseSlot 6 0) validating0).trunk.replies.map (fun r => (r.tag, r.outcome)) =
    [(5, .aborted), (6, .done)] := by decide +kernel
theorem test_bind_at_once : ((after (.bindRecipe 1 0 0) sealed0).lane .a).active = some 0 ∧
    outcome (after (.bindRecipe 1 0 1) sealed0) = some .refusedState := by decide +kernel
theorem test_configure_lane_range :
    outcome (after (.configureLane 1 0 { defaultSettings with warmupTime := 4096 }) State.reset) = some .refusedRange ∧
    outcome (after (.configureLane 1 0 { defaultSettings with warmupTime := 4095 }) State.reset) = some .done := by
  decide +kernel
theorem test_forward_lowers_depth :
    let s := withA (fun L => { L with mode := .standby, motion := { L.motion with h := 9, d := 2 } })
    ((after (.encoderForwardCount .a) s).lane .a).motion.d = 1 ∧ ((after (.encoderForwardCount .a) s).lane .a).motion.h = 9 := by
  decide +kernel
theorem test_h_wraps :
    let s := withA (fun L => { L with mode := .standby, motion := { L.motion with h := 0xFFFFFFFF } })
    ((after (.encoderForwardCount .a) s).lane .a).motion.h = 0 := by decide +kernel
theorem test_edge_makes_panel :
    let d := after (.edgeRise .a) (laneA .ready [])
    (d.lane .a).mode = .scanning ∧ (d.lane .a).motion.nextLine = some 2 ∧ (d.lane .a).motion.tagCounter = 1 ∧
      (d.port port0).outstanding.map (fun e => (e.lineTag, e.phase)) = [(0, .top)] ∧
      (d.lane .a).strobe.state = .flash .top := by decide +kernel
theorem test_flash_then_settle :
    let run : LineRun := { lineTag := 4, seq := 3, line := 4, phaseSet := 5, flash := flashTimes header1, portSet := 3 }
    let s := withA (fun L => { L with mode := .scanning, strobe := { L.strobe with state := .flash .top, run := some run } })
    let s2 := withA (fun L => { L with mode := .scanning, strobe := { L.strobe with state := .settle .top, run := some run } })
    ((after (.flashEnd .a) s).lane .a).strobe.state = .settle .top ∧
      ((after (.settleExpiry .a) s2).lane .a).strobe.state = .flash .axial ∧
      ((after (.settleExpiry .a) s2).lane .a).strobe.flashLeft = 20 := by decide +kernel
theorem test_warmup_and_idle :
    let s := withA (fun L => { L with mode := .warming, light := .warming, warmupLeft := some 5,
                                      settings := { L.settings with idleTimeout := 2 } })
    let s2 := withA (fun L => { L with mode := .ready, idleLeft := some 5 })
    ((after (.warmupExpiry .a) s).lane .a).idleLeft = some 2000000 ∧
      ((after (.idleTimerExpiry .a) s2).lane .a).mode = .standby := by decide +kernel
theorem test_signal_lost_while_scanning :
    let d := after (.camSdInactive port0) (laneA .scanning [ctx1 .scanning])
    (d.port port0).stream = .dark ∧ (d.lane .a).gate.counts.cameraLoss = 1 := by decide +kernel
theorem test_sixteenth_violation :
    let s := withC0 (fun p => { p with stream := .active, noiseCount := 15, noiseMonitor := 1 })
    let d := after (.violationWord port0 0xFFFFFF) s
    (d.port port0).stream = .noise ∧ (d.port port0).noiseMonitor = 0 := by decide +kernel
theorem test_configure_port : outcome (after (.configurePort 1 0 0 5) State.reset) = some .refusedRange ∧
    ((after (.configurePort 1 3 4 5) State.reset).port ⟨.b, .p1⟩).noiseMonitor = 4 := by decide +kernel
theorem test_pattern : ((after (.loadPattern 1 0 2046 2 [0, 7]) State.reset).port port0).pattern = [(2047, 7)] ∧
    outcome (after (.loadPattern 1 0 2047 2 [0, 7]) State.reset) = some .refusedRange := by decide +kernel
theorem test_injection_range : outcome (after (.setInjection 1 0 2 0) State.reset) = some .refusedRange ∧
    outcome (after (.setInjection 1 0 1 65535) State.reset) = some .refusedRange ∧
    ((after (.setInjection 1 0 1 65534) State.reset).port port0).target = .armed := by decide +kernel
theorem test_features_of_solder :
    let w : Window := { openedWindow .a (ctx1 .scanning) joint1 0 0 with
      sums := { top := { n := 16, b := 7, s := 1600, r := 4 }, ring := .zero, axial := .zero } }
    featuresOf w .top = { phase := .top, fill := 43, mean := 100, span := 4 } ∧ (judge rule1 w).verdict = .marginal ∧
      (judge rule1 w).primary = some (.insufficient, .top) := by decide +kernel
def report1 : VerdictReport :=
  { lane := .a, seq := 3, recipeId := 7, joint := 0, component := 9, rule := 0, port := .p0, firstCol := 64,
    firstLine := 192, judged := { verdict := .pass, causes := .nothing, primary := none, features := [] },
    injected := false, loss := false, crop := false, detail := .brief }
theorem test_brief_report_length : (verdictReportPayload report1).length = 22 := by decide +kernel
theorem test_full_unjudged_length : (verdictReportPayload { report1 with
    judged := { report1.judged with verdict := .unjudged }, loss := true, detail := .full }).length = 23 := by decide +kernel
theorem test_payload_bytes : noticePayload State.reset.dev.cond .device = [0, 0, 1, 0, 1] ∧
    replyPayload { tag := 4, code := 0x17, outcome := .refusedReferenced, body := [9] } = [4, 0x17, 4, 9] ∧
    (verdictReportPayload report1).take 9 = [0, 0, 3, 0, 0, 0, 7, 0, 0] ∧
    (cropReportPayload 47 { state := .held, owner := none, planes := [] }).take 3 = [47, 0, 0] := by decide +kernel
theorem test_gate_forced :
    let s := withA (fun L => { L with gate := { L.gate with hold := true } })
    outcome (after (.setGateMode 1 0 1) s) = some .refusedForced ∧
      (after (.setGateMode 1 0 1) s).cond.device.raised = 0x9 ∧
      ((after (.releaseForce 1 0) s).lane .a).gate.hold = false := by decide +kernel
theorem test_disable_off_lane : outcome (after (.disableLane 1 0) State.reset) = some .done ∧
    outcome (after (.armLane 1 0) State.reset) = some .refusedState ∧
    ((after (.enableLane 1 0) State.reset).lane .a).mode = .standby := by decide +kernel
theorem test_eighth_sync :
    let s := withTrunk (fun t => { t with link := .training, syncRun := 7 })
    (after (.trainingWord .sync) s).trunk.link = .up ∧ (after (.trainingWord .delimiter) s).trunk.syncRun = 0 := by
  decide +kernel
theorem test_credit_limited :
    let s := withTrunk (fun t => { t with link := .up, credit := 250 })
    (after (.creditFrame 10) s).trunk.credit = 255 ∧ (after (.creditFrame 10) State.reset).trunk.credit = 0 := by
  decide +kernel
theorem test_credit_frame_by_words :
    let s := withTrunk (fun t => { t with link := .up })
    ((frameWords 2 [9]).foldl Device.rxWord s.dev).trunk.credit = 9 := by decide +kernel
theorem test_notice_goes_first :
    let s := withTrunk (fun t => { t with link := .up, credit := 1 })
    (after .frameBegin s).trunk.frame = some (.of .notice [0, 0, 1, 0, 1]) ∧
      (after .frameBegin s).trkTx.take 4 = [.delimiter, .data 0x11, .data 0, .data 5] ∧
      (after .frameBegin s).trunk.credit = 0 ∧ (after .frameBegin s).cond.noticeQueue = [] := by decide +kernel
theorem test_identify : (after (.identify 9) State.reset).trunk.replies =
    [{ tag := 9, code := 0x70, outcome := .done, body := identifyRecord }] ∧ identifyRecord.take 4 = [0x52, 0x57, 0x11, 0x3A] := by
  decide +kernel
theorem test_unknown_order : outcome (after (.unknownOrder 1 0x7F) State.reset) = some .unknownOrder := by decide +kernel
theorem test_stall_expiry : (after .stallTimerExpiry State.reset).cond.device.raised = 0x81 ∧
    ((after .stallTimerExpiry State.reset).lane .b).gate.counts.trunkStall = 1 := by decide +kernel
theorem test_clear_needs_a_read :
    (after (.clearConditions 1 0 1) State.reset).cond.device.raised = 0x11 ∧
    (after (.clearConditions 1 0 1)
      (withDev (fun d => { d with cond := { d.cond with device := { d.cond.device with snapshot := some 1 } } }))).cond.device.raised
      = 0 ∧
    outcome (after (.clearConditions 1 0 0x100) State.reset) = some .refusedRange := by decide +kernel
theorem test_monitor_conditions_come_back :
    (after (.clearConditions 1 3 0x180)
      (withDev (fun d => { d with cond := d.cond.set (.port port0) { raised := 0x180, mask := 0, snapshot := some 0x180,
                                                                       noticePending := false } }))).cond.ports.a.p0.raised
      = 0x180 := by decide +kernel
theorem test_set_mask_queues_notice :
    (after (.setMask 1 3 0x80) State.reset).cond.noticeQueue = [.device, .port port0] := by decide +kernel
theorem test_time_passes : step State.reset =
    .next { dev := { State.reset.dev with trunk := { State.reset.dev.trunk with stallLeft := some 499999 } }, pending := [] } :=
  rfl

/-! ## Witnesses: a state and operands that meet the hypotheses of each statement, clause by clause -/

theorem taken_of (s : State) (h : (s.dev.resetLow = false ∧ s.dev.trunk.inbound = []) ∧ s.dev.replyRoom = true) : Taken s :=
  ⟨h.1.1, h.1.2, h.2⟩

/-- The part with fifteen replies queued: the last place of the reply queue is free. -/
def fifteenReplies : State :=
  withTrunk (fun t => { t with replies := List.replicate 15 { tag := 0, code := 0x70, outcome := .done, body := [] } })
def held : State := withDev (fun d => { d with resetLow := true })

theorem test_meets_EveryCommandAnswersNext : held.dev.resetLow = true ∧ actsInReset (.itemTake .a) = false ∧
    State.reset.dev.validation = none ∧ State.reset.dev.evaluation = none ∧ State.reset.dev.closeQueue = [] := by
  decide +kernel
theorem test_meets_EveryCommandAnswersNext_stall :
    (withTrunk (fun t => { t with stallLeft := none })).dev.trunk.stallLeft = none := by decide +kernel
theorem test_meets_Taken : Taken State.reset ∧ Taken fifteenReplies :=
  ⟨taken_of _ (by decide +kernel), taken_of _ (by decide +kernel)⟩
theorem test_meets_PowerAndResetPin : AllCamerasOn State.reset.dev ∧ State.reset.dev.resetLow = false ∧
    held.dev.resetLow = true :=
  ⟨fun p => by rcases p with ⟨l, q⟩; cases l <;> cases q <;> rfl, by decide +kernel, by decide +kernel⟩
theorem test_meets_ResetDeviceTaken : Taken State.reset ∧ AllCamerasOn State.reset.dev :=
  ⟨test_meets_Taken.1, test_meets_PowerAndResetPin.1⟩
theorem test_meets_SlotStateOrdersTaken :
    (State.reset.dev.slot 3).state = .empty ∧ (sealed0.dev.slot 0).state = .sealed ∧
    (loading0.dev.slot 0).state = .loading ∧ loading0.dev.validation = none ∧ loading0.dev.referenced 0 = false ∧
    sealed0.dev.referenced 0 = false ∧ State.reset.dev.referenced 3 = false := by decide +kernel
theorem test_meets_SlotStateOrdersTaken_refused : (laneA .ready []).dev.referenced 0 = true ∧
    (let s := withDev (fun _ => withSlot validating0.dev 1 { Slot.empty with state := .loading })
     (s.dev.slot 1).state = .loading ∧ s.dev.referenced 1 = false ∧ s.dev.validation ≠ none) := by decide +kernel
theorem test_meets_SlotWritesTaken : loading0.dev.referenced 0 = false ∧ (loading0.dev.slot 0).state = .loading ∧
    entriesInRange 3 1 1 4 4 = true ∧ entriesInRange 0 4 4 4 4 = true ∧ entriesInRange 8160 32 32 8192 32 = true ∧
    entriesInRange 8191 1 1 8192 32 = true ∧ entriesInRange 56 8 8 64 8 = true ∧ entriesInRange 63 1 1 64 8 = true := by
  decide +kernel
theorem test_meets_WritesAreReadBack : Table.wfFrom 0 ([(0, joint1), (8191, joint1)] : Table JointEntry) = true ∧
    Memory.wf [(0, 1), (2047, 255)] = true := by decide +kernel
theorem test_meets_ValidationEnds : validating0.dev.validation = some { slot := 0, tag := 5 } ∧
    validate (validating0.dev.slots.get 0) = none ∧ validate { Slot.empty with state := .validating } =
      some { table := .header, index := 0, check := .unwritten, phase := none } ∧
    validating0.dev.referenced 0 = false ∧ validating0.dev.replyRoom = true := by decide +kernel
theorem test_meets_SlotChangesRefused :
    slotChange (.openSlot 1 4) = some (1, 0x10, 4, .empty, true) ∧ 3 < (4 : Byte).toNat ∧
    slotChange (.writeRules 1 0 63 2 [rule1, rule1]) = some (1, 0x14, 0, .loading, false) ∧
    (validating0.dev.slot 0).state = .validating ∧ (laneA .ready []).dev.referenced 0 = true ∧
    ((laneA .ready []).dev.slot 0).state = .sealed ∧ (0 : Byte) = slotByte 0 ∧ sealed0.dev.referenced 0 = false := by
  decide +kernel
theorem test_meets_OutOfRangeRefused :
    badOperand (.readWindows 1 0 511 17) = some (1, 0x40) ∧ badOperand (.readWindows 1 0 511 16) = none ∧
    badOperand (.bindRecipe 1 1 4) = some (1, 0x1C) ∧ badOperand (.bindRecipe 1 1 0xFF) = none ∧
    badOperand (.loadPattern 1 3 2047 2 [1, 2]) = some (1, 0x31) ∧ badOperand (.readPort 1 4) = some (1, 0x34) := by
  decide
theorem test_meets_SlotReadsAnswered : (State.reset.dev.slots.get 0).state = .empty ∧ (sealed0.dev.slots.get 0).state ≠ .empty ∧ entriesInRange 0 4 4 4 4 = true ∧
    entriesInRange 8160 32 32 8192 32 = true ∧ entriesInRange 63 1 1 64 8 = true := by decide +kernel
theorem test_meets_ValidatedRecipeInRange : validate recipe1 = none ∧ 0 < recipe1.hdr.jointCount.toNat := by
  decide +kernel
theorem test_meets_BindRecipeTaken_refused : (validating0.dev.slot 0).state = .validating ∧
    (loading0.dev.slot 0).state = .loading ∧ (State.reset.dev.slot 0).state = .empty := by decide +kernel
theorem test_meets_BindRecipeTaken : (sealed0.dev.slot 0).state = .sealed ∧ (sealed0.dev.lane .a).mode = .off ∧
    ((laneA .standby []).dev.slot 0).state = .sealed ∧ ((laneA .standby []).dev.lane .a).mode = .standby ∧
    ((laneA .ready []).dev.lane .a).mode = .ready := by decide +kernel

/-- Lane A Standby with the depth and high-water mark given. -/
def moving (h : Word32) (d : Word16) : State :=
  withA (fun L => { L with mode := .standby, motion := { L.motion with h := h, d := d } })

theorem test_meets_CountsMove : LaneId.b ≠ LaneId.a ∧ (State.reset.dev.lane .a).mode = .off ∧
    ((moving 0xFFFFFFFF 1).dev.lane .a).motion.d ≠ 0 ∧ ((moving 0xFFFFFFFF 0).dev.lane .a).mode ≠ .off ∧
    ((moving 0xFFFFFFFF 0).dev.lane .a).motion.d = 0 ∧
    (let L := (moving 0xFFFFFFFF 0).dev.lane .a
     let up : Lane := { L with motion := { L.motion with h := L.motion.h + 1 } }
     up.lineDue = false ∧ up.scanDue = false ∧ up.gateDue = false) ∧
    ((moving 5 0xFFFF).dev.lane .a).motion.d = 0xFFFF ∧ ((moving 5 0xFFFE).dev.lane .a).motion.d ≠ 0xFFFF ∧
    ((moving 5 0xFFFE).dev.lane .a).scanningCtx = none ∧
    (let L := (laneA .scanning [ctx1 .scanning]).dev.lane .a
     L.motion.d.toNat + 63 + 1 ≤ L.settings.reverseLimit.toNat) := by decide +kernel

/-- Lane A Scanning with a next-line position at 8 and H at 7, and the tag counter given. -/
def scanning (lineTag : Word16) : State :=
  onA (laneA .scanning [ctx1 .scanning]) (fun L =>
    { L with motion := { h := 7, d := 0, lastEdge := some 0, nextLine := some 8, tagCounter := lineTag } })

theorem test_meets_LineIssueConsumesTag : ((scanning 259).dev.lane .a).motion.d = 0 ∧
    ((scanning 259).dev.lane .a).motion.nextLine = some 8 ∧
    (((scanning 259).dev.lane .a).live.map (fun c => c.num)).Nodup ∧ atOrBeyond (7 + 1) 8 = true ∧
    ((scanning 259).dev.lane .a).scanningCtx = some (ctx1 .scanning) ∧ (ctx1 .scanning).lineOf 259 + 1 = 260 ∧
    (let L := (scanning 259).dev.lane .a
     let up : Lane := { L with motion := { L.motion with h := L.motion.h + 1 } }
     up.scanDue = false ∧ up.gateDue = false) := by decide +kernel
theorem test_last_line_ends_scan : ((after (.encoderForwardCount .a) (scanning 259)).lane .a).mode = .ready ∧
    ((after (.encoderForwardCount .a) (scanning 259)).lane .a).motion.nextLine = none ∧
    ((after (.encoderForwardCount .a) (scanning 3)).lane .a).motion.nextLine = some 10 := by decide +kernel
/-- The last line of one panel and the scan start of the next at the same count. -/
def overlapping : State :=
  onA (scanning 259) (fun L => { L with live := L.live ++ [{ ctx1 .waiting with num := 1, seq := 4, scanStart := 8 }] })

theorem test_meets_LineIssue_then_scan :
    let L := overlapping.dev.lane .a
    let w : Context := { ctx1 .waiting with num := 1, seq := 4, scanStart := 8 }
    let up : Lane := { L with motion := { L.motion with h := L.motion.h + 1 } }
    (L.live.map (fun c => c.num)).Nodup ∧ L.oldestWaiting = some w ∧ (∀ x ∈ L.live, x.state = .waiting → x = w) ∧
      atOrBeyond (L.motion.h + 1) w.scanStart = true ∧ L.motion.nextLine = some 8 ∧ up.gateDue = false := by decide +kernel
theorem test_last_line_before_scan_start :
    ((after (.encoderForwardCount .a) overlapping).lane .a).live.map (fun c => (c.seq, c.state)) =
      [(3, .settling), (4, .scanning)] ∧
    (let c := { ctx1 .scanning with reg := { (ctx1 .scanning).reg with state := .failed .loss }, pointer := 1,
                                    causes := { (ctx1 .scanning).causes with registration := 1 } }
     ((after (.encoderForwardCount .a) (onA (scanning 259) (fun L => { L with live := [c] }))).lane .a).live.map
       (fun c => (c.state, c.decision)) = [(.decided, some .review)]) := by decide +kernel
/-- Lane A in a mode, H one count below the scan start position of its Waiting panel. -/
def handing (mode : LaneMode) : State :=
  onA (laneA mode [ctx1 .waiting]) (fun L => { L with motion := { L.motion with h := 99 } })

theorem test_meets_LineIssue_scan_due : ((handing .ready).dev.lane .a).mode ≠ .off ∧
    ((handing .ready).dev.lane .a).motion.d = 0 ∧
    ((handing .ready).dev.lane .a).oldestWaiting = some (ctx1 .waiting) ∧
    (∀ x ∈ ((handing .ready).dev.lane .a).live, x.state = .waiting → x = ctx1 .waiting) ∧
    atOrBeyond (99 + 1) (ctx1 .waiting).scanStart = true ∧
    (let L := (handing .ready).dev.lane .a
     let up : Lane := { L with motion := { L.motion with h := L.motion.h + 1 } }
     up.lineDue = false ∧ up.gateDue = false) := by decide +kernel
theorem test_meets_LineIssue_scan_start : ((handing .ready).dev.lane .a).ctx 0 = some (ctx1 .waiting) ∧
    (∀ x ∈ ((handing .ready).dev.lane .a).live, x.num = 0 → x = ctx1 .waiting) ∧
    ((handing .ready).dev.lane .a).mode = .ready ∧ (ctx1 .waiting).reg.state = .pending ∧
    ((handing .ready).dev.slot 0).hdr.panelLength.toNat ≠ 1 ∧ ((handing .ready).dev.lane .a).strobe.state = .idle ∧
    phasesOf ((handing .ready).dev.slot 0).hdr.phaseSet = [.top, .axial] ∧
    ((handing .warming).dev.lane .a).mode = .warming ∧ ((handing .scanning).dev.lane .a).mode = .scanning := by
  decide +kernel
theorem test_scan_starts : ((after (.encoderForwardCount .a) (handing .ready)).lane .a).live.map (fun c => c.state) =
    [.scanning] ∧
    ((after (.encoderForwardCount .a) (handing .warming)).lane .a).live.map (fun c => (c.state, c.causes.warmup)) =
      [(.decided, 1)] := by decide +kernel
theorem test_meets_EdgesTaken : ((moving 5 1).dev.lane .a).acceptsEdge = false ∧
    ((moving 5 0).dev.lane .a).acceptsEdge = true ∧ ((moving 5 0).dev.lane .a).mode ≠ .off := by decide +kernel
theorem test_edge_guard :
    let at8 (guard : Word16) : Lane :=
      { (moving 8 0).dev.lane .a with motion := { h := 8, d := 0, lastEdge := some 5, nextLine := none, tagCounter := 0 },
                                      settings := { defaultSettings with edgeGuard := guard } }
    (at8 3).acceptsEdge = true ∧ (at8 4).acceptsEdge = false := by decide +kernel

/-- Lane A Scanning with D at the reverse limit. -/
def reversing : State :=
  onA (laneA .scanning [ctx1 .scanning]) (fun L => { L with motion := { L.motion with d := 64 } })

theorem test_meets_MotionFaultAbortsPanel : (reversing.dev.lane .a).motion.d ≠ 0xFFFF ∧
    (reversing.dev.lane .a).settings.reverseLimit.toNat < (reversing.dev.lane .a).motion.d.toNat + 1 ∧
    (reversing.dev.lane .a).scanningCtx = some (ctx1 .scanning) ∧
    ((reversing.dev.lane .a).live.map (fun c => c.num)).Nodup ∧ (ctx1 .scanning).gateAction = .pending ∧
    (let c := ctx1 .scanning
     c.pass + c.marginal + c.defect + (c.unjudged + (1 - c.pointer)) = (reversing.dev.slot c.slot).hdr.jointCount.toNat) ∧
    (let c := { ctx1 .scanning with pointer := 1 }
     c.pass + c.marginal + c.defect + (c.unjudged + (1 - c.pointer)) ≠ (reversing.dev.slot c.slot).hdr.jointCount.toNat) := by
  decide +kernel
theorem test_motion_fault : ((after (.encoderReverseCount .a) reversing).lane .a).live.map (fun c => c.causes.aborted) = [1] ∧
    ((after (.encoderReverseCount .a) reversing).lane .a).mode = .ready := by decide +kernel

/-- Lane A Ready with a lead-in of one count. -/
def tracking : State := onA (laneA .ready []) (fun L => { L with settings := { defaultSettings with leadIn := 1 } })

theorem test_meets_AcceptedEdgeTracksPanel : (tracking.dev.lane .a).mode = .ready ∧
    (tracking.dev.lane .a).acceptsEdge = true ∧ (tracking.dev.lane .a).active = some 0 ∧
    (tracking.dev.lane .a).pendingRecipe = none ∧ (tracking.dev.lane .a).freeCtx = some 0 ∧
    (tracking.dev.lane .a).gate.queue.length < 4 ∧ (tracking.dev.lane .a).oldestWaiting = none ∧
    (tracking.dev.lane .a).settings.leadIn ≠ 0 := by decide +kernel

/-- Lane A at an edge it accepts, after a change. -/
def edge (mode : LaneMode) (f : Lane → Lane) : Lane := (onA (laneA mode []) f).dev.lane .a
def fixed1 : GateEntry := { pos := 8, seq := 3, kind := .fixedReview }
def fourLive : List Context := ([0, 1, 2, 3] : List (Fin 4)).map (fun n => { ctx1 .settling with num := n })

theorem test_meets_AcceptedEdge_forms :
    (edge .ready id).settings.leadIn = 0 ∧ (edge .ready id).acceptsEdge = true ∧
    4 ≤ (edge .ready (fun L => { L with gate := { L.gate with queue := List.replicate 4 fixed1 } })).gate.queue.length ∧
    (edge .standby id).mode = .standby ∧ (edge .standby id).settings.warmupTime = 0 ∧
    (edge .standby (fun L => { L with settings := { L.settings with warmupTime := 1 } })).settings.warmupTime ≠ 0 ∧
    (edge .ready (fun L => { L with pendingRecipe := some 0 })).pendingRecipe = some 0 ∧
    (edge .ready (fun L => { L with active := none })).active = none ∧
    (edge .ready (fun L => { L with live := fourLive })).freeCtx = none ∧
    (edge .ready (fun L => { L with live := fourLive })).active = some 0 ∧
    (edge .ready (fun L => { L with live := fourLive })).acceptsEdge = true := by decide +kernel
theorem test_edge_forms :
    (after (.edgeRise .a) (onA (laneA .ready []) (fun L => { L with active := none }))).lanes.a.gate.queue.map
      (fun e => e.kind) = [.fixedReview] ∧
    (after (.edgeRise .a) (onA (laneA .ready []) (fun L => { L with live := fourLive }))).lanes.a.gate.counts.panelOverrun
      = 1 ∧
    (after (.edgeRise .a) (laneA .standby [])).lanes.a.mode = .scanning := by decide +kernel

/-- Lane A Ready behind an older panel whose scan start lies ahead. -/
def behind (queue : List GateEntry) : State :=
  onA (laneA .ready [{ ctx1 .waiting with num := 2, scanStart := 100 }]) (fun L => { L with gate := { L.gate with queue := queue } })

theorem test_meets_AcceptedEdge_older : ((behind []).dev.lane .a).acceptsEdge = true ∧
    ((behind []).dev.lane .a).oldestWaiting = some { ctx1 .waiting with num := 2, scanStart := 100 } ∧
    atOrBeyond ((behind []).dev.lane .a).motion.h 100 = false ∧ ((behind []).dev.lane .a).freeCtx = some 0 ∧
    ((behind []).dev.lane .a).active = some 0 ∧ ((behind []).dev.lane .a).settings.leadIn = 0 ∧
    4 ≤ ((behind (List.replicate 4 fixed1)).dev.lane .a).gate.queue.length := by decide +kernel
theorem test_edge_behind_older : ((after (.edgeRise .a) (behind [])).lane .a).live.map (fun c => c.state) =
    [.waiting, .waiting] ∧
    (let L := (after (.edgeRise .a) (onA (laneA .ready []) (fun L =>
       { L with gate := { L.gate with queue := List.replicate 4 fixed1 } }))).lane .a
     L.mode = .scanning ∧ L.live.map (fun c => c.gateAction) = [.noEntry] ∧ L.gate.counts.panelOverrun = 1) := by
  decide +kernel

def run1 : LineRun := { lineTag := 4, seq := 3, line := 4, phaseSet := 5, flash := flashTimes header1, portSet := 3 }
def strobing (st : StrobeState) : State :=
  withA (fun L => { L with mode := .scanning, strobe := { L.strobe with state := st, run := some run1 } })

theorem test_meets_StrobeSequence : ((strobing (.flash .top)).dev.lane .a).strobe.state = .flash .top ∧
    ((strobing (.settle .top)).dev.lane .a).strobe.state = .settle .top ∧
    ((strobing (.settle .top)).dev.lane .a).strobe.run = some run1 ∧ nextPhase run1.phaseSet .top = some .axial ∧
    ((strobing (.settle .axial)).dev.lane .a).strobe.state = .settle .axial ∧
    nextPhase run1.phaseSet .axial = none ∧ portIn run1.portSet .p1 = true ∧
    ((strobing (.flash .top)).dev.lane .a).strobe.state ≠ .idle ∧ (State.reset.dev.lane .a).strobe.state = .idle ∧
    phasesOf run1.phaseSet = [.top, .axial] := by decide +kernel
theorem test_line_starts_sequence :
    let d := State.reset.dev.strobeLine .a run1
    (d.lane .a).strobe.flashLeft = 10 ∧ (d.lane .a).strobeOn .top = true ∧
      (d.port port0).camTrig = some (triggerWord 4 .top) := by decide +kernel
theorem test_overspeed_holds_skips :
    (((strobing (.flash .top)).dev.strobeLine .a run1).port port0).held.map (fun e => (e.kind, e.phase)) =
      [(.skipped, .top), (.skipped, .axial)] := by decide +kernel
theorem test_meets_LaneTimersExpire :
    ((withA (fun L => { L with warmupLeft := some 1 })).dev.lane .a).warmupLeft.isSome = true ∧
    ((withA (fun L => { L with idleLeft := some 1 })).dev.lane .a).idleLeft.isSome = true := by decide +kernel
theorem test_meets_LaneTimersExpire_ticks :
    (State.reset.dev.lane .a).strobe.state = .idle ∧ (State.reset.dev.lane .a).light = .off ∧
    ((laneA .ready []).dev.lane .a).light ≠ .off ∧ (State.reset.dev.lane .a).idleLeft = none ∧
    (State.reset.dev.lane .a).warmupLeft = none ∧ State.reset.dev.trunk.stallLeft = some 500000 ∧ 1 < 500000 ∧
    (withTrunk (fun t => { t with stallLeft := some 1 })).dev.trunk.stallLeft = some 1 ∧
    (withTrunk (fun t => { t with stallLeft := none })).dev.trunk.stallLeft = none ∧
    ((strobing (.flash .top)).dev.lane .a).strobe.flashLeft ≤ 1 ∧
    ((strobing (.settle .top)).dev.lane .a).strobe.settle.get .top ≤ 1 ∧
    ((withA (fun L => { L with strobe := { L.strobe with state := .flash .top, flashLeft := 2 } })).dev.lane .a).strobe.state
      = .flash .top := by decide +kernel
theorem test_ticks :
    let s := withA (fun L => { L with mode := .ready, idleLeft := some 2 })
    let u := withA (fun L => { L with mode := .warming, warmupLeft := some 1 })
    (s.dev.tick.lane .a).idleLeft = some 1 ∧ (u.dev.tick.lane .a).mode = .ready ∧
      (u.dev.tick.lane .a).lightOn = true := by decide +kernel
theorem test_meets_LaneConfigurationAnswered :
    (let x : LaneSettings := { defaultSettings with reverseLimit := 4095, warmupTime := 4095 }
     1 ≤ x.reverseLimit.toNat ∧ x.reverseLimit.toNat ≤ 4095 ∧ 1 ≤ x.gateDistance.toNat ∧ x.warmupTime.toNat ≤ 4095 ∧
       1 ≤ x.settleReload.toNat) ∧
    ¬ (1 ≤ ({ defaultSettings with gateDistance := 0 } : LaneSettings).gateDistance.toNat) ∧
    ((laneA .ready []).dev.lane .a).mode ≠ .off ∧ (State.reset.dev.lane .a).mode = .off ∧
    (3 : Byte).toNat = reportModeCode .silent ∧ (1 : Byte).toNat = reportDetailCode .full ∧ 3 < (4 : Byte).toNat := by
  decide +kernel

/-- Port C0 with its signal, in a stream state, with the packet given. -/
def streaming (st : Stream) (a : Option Assembly) (run : Nat) : State :=
  withC0 (fun p => { p with stream := st, assembly := a, fillRun := run })

theorem test_meets_SignalDetectMovesStream : (State.reset.dev.port port0).stream ≠ .dark ∧
    ((streaming .dark none 0).dev.port port0).stream = .dark ∧
    ((withC0 (fun p => { p with camSd := false })).dev.port port0).camSd = false ∧
    (((laneA .scanning [ctx1 .scanning]).dev.lane .a).scanningCtx = some (ctx1 .scanning) ∧
      portIn ((laneA .scanning [ctx1 .scanning]).dev.slot 0).hdr.portSet .p0 = true) ∧
    (State.reset.dev.lane .a).scanningCtx = none := by decide +kernel
theorem test_signal_level_alone :
    after (.camSdInactive port0) (streaming .dark none 0) =
      (onC0 (streaming .dark none 0) (fun p => { p with camSd := false })).dev ∧
    after (.camSdActive port0) (onC0 (streaming .idle none 4) (fun p => { p with camSd := false })) =
      (streaming .idle none 4).dev := by decide +kernel
theorem test_meets_FillsAndPackets_fills : ((streaming .noise none 3).dev.port port0).camSd = true ∧
    ((streaming .noise none 3).dev.port port0).assembly = none ∧ ((streaming .noise none 3).dev.port port0).fillRun = 3 ∧
    ((streaming .noise none 3).dev.port port0).stream = .noise ∧ ((streaming .idle none 4).dev.port port0).stream = .idle ∧
    ((streaming .unknown none 2).dev.port port0).fillRun < 3 := by decide +kernel

theorem test_meets_FillsAndPackets_unused : ((streaming .unknown none 2).dev.port port0).stream = .unknown ∧
    ((streaming .noise none 3).dev.port port0).stream = .noise ∧
    ((streaming .noise none 3).dev.port port0).assembly = none := by decide +kernel
theorem test_words_break_the_fill_run :
    after (.startWord port0 4 .top) (streaming .unknown none 3) = (streaming .unknown none 0).dev ∧
    after (.dataWord port0 7) (streaming .noise none 3) = (streaming .noise none 0).dev ∧
    after (.endWord port0 7) (streaming .noise none 3) = (streaming .noise none 0).dev := by decide +kernel

/-- A packet with a number of pixels received. -/
def packet (n : Nat) : Assembly := { lineTag := 4, phase := .top, received := n, pixels := [] }

theorem test_meets_FillsAndPackets_packets : ((streaming .active none 0).dev.port port0).stream = .active ∧
    ((streaming .idle none 4).dev.port port0).stream = .idle ∧
    ((streaming .active (some (packet 2047)) 0).dev.port port0).assembly = some (packet 2047) ∧
    (packet 2047).received < 2048 := by decide +kernel

def entry1 : Entry := { lineTag := 4, phase := .top, kind := .triggered, seq := 3, line := 4, lastPhase := .axial }
/-- Lane A Scanning, port C0 at the end of a packet that its oldest entry awaits, with the check monitor given. -/
def ending (check : Byte) : State :=
  onC0 (laneA .scanning [ctx1 .scanning]) (fun p =>
    { p with stream := .active, assembly := some (packet 2048), outstanding := [entry1], checkMonitor := check })

theorem test_meets_PacketCompletes : ((ending 2).dev.port port0).camSd = true ∧
    ((ending 2).dev.port port0).assembly = some (packet 2048) ∧ 2048 ≤ (packet 2048).received ∧
    packetCheck 4 .top (packet 2048).pixels.reverse ≠ 0 ∧ 1 < ((ending 2).dev.port port0).checkMonitor.toNat ∧
    ((ending 1).dev.port port0).checkMonitor = 1 ∧ (ending 1).dev.portActive port0 = true ∧
    (streaming .active (some (packet 2048)) 0).dev.portActive port0 = false ∧
    ((ending 1).dev.port port0).outstanding = [entry1] ∧ entry1.kind = .triggered ∧
    entry1.lineTag = (packet 2048).lineTag ∧ entry1.phase = (packet 2048).phase ∧
    ((ending 1).dev.port port0).mode = .off ∧ (((ending 1).dev.port port0).fifo.filter Item.isPacket).length < 4 := by
  decide +kernel
theorem test_packet_is_matched :
    ((after (.endWord port0 (packetCheck 4 .top [])) (ending 2)).port port0).fifo.map (fun x => (x.seq, x.line)) = [(3, 4)] ∧
    ((after (.endWord port0 (packetCheck 4 .top [])) (ending 2)).port port0).outstanding = [] ∧
    ((after (.endWord port0 0) (ending 2)).port port0).checkMonitor = 1 ∧ ((ending 0).dev.port port0).checkMonitor = 0 ∧
    ((after (.endWord port0 0) (ending 0)).port port0).checkMonitor = 0 := by decide +kernel
/-- A port whose list holds a Skipped entry, the entry awaited by tag 4 in Top, and a Skipped entry. -/
def skip1 : Entry := { entry1 with lineTag := 3, kind := .skipped }
def listed (mode : InjectionMode) (target : Target) (queue : Nat) : Port :=
  { State.reset.dev.port port0 with
    outstanding := [skip1, entry1, skip1], mode := mode, n := 4, target := target,
    fifo := List.replicate queue { lineTag := 0, phase := .top, seq := 0, line := 0, payload := .packet [] false } }

theorem test_meets_PacketCompletes_match :
    (∀ f ∈ (State.reset.dev.port port0).outstanding, ¬ (f.kind = .triggered ∧ f.lineTag = 4 ∧ f.phase = .top)) ∧
    (listed .off .absent 4).outstanding = [skip1] ++ entry1 :: [skip1] ∧
    (∀ f ∈ [skip1], ¬ (f.kind = .triggered ∧ f.lineTag = 4 ∧ f.phase = .top)) ∧
    (entry1.kind = .triggered ∧ entry1.lineTag = 4 ∧ entry1.phase = .top) ∧ (listed .off .absent 4).mode ≠ .oneShot ∧
    4 ≤ ((listed .off .absent 4).fifo.filter Item.isPacket).length ∧
    ((listed .oneShot (.panel 3) 0).target = .panel entry1.seq ∧ entry1.line = (4 : Word16).toNat ∧
      entry1.phase ≠ entry1.lastPhase) ∧
    ({ entry1 with lastPhase := .top } : Entry).phase = ({ entry1 with lastPhase := .top } : Entry).lastPhase := by
  decide +kernel
theorem test_packet_matches_behind :
    (PortRun.matchPacket 4 .top [] (listed .continuous .absent 0, 0)).1.fifo.map (fun x => (x.lineTag, x.isPacket)) =
      [(3, false), (4, true), (3, false)] ∧
    (PortRun.matchPacket 4 .top [] (listed .off .absent 4, 0)).2 = PortCond.fifoSlip.bit ∧
    (PortRun.matchPacket 9 .top [] (listed .off .absent 4, 0)).2 = PortCond.strayPacket.bit := by decide +kernel
theorem test_meets_PacketCompletes_join :
    ((listed .off .absent 0).outstanding = [skip1] ++ entry1 :: [skip1] ∧
      (entry1.lineTag = entry1.lineTag ∧ entry1.phase = entry1.phase) ∧
      (∀ g ∈ [skip1], ¬ (g.lineTag = entry1.lineTag ∧ g.phase = entry1.phase)) ∧ 2 = [skip1].length + 1) ∧
    ((∀ f ∈ List.replicate 16 entry1, ¬ (f.lineTag = 9 ∧ f.phase = .top)) ∧ 16 ≤ (List.replicate 16 entry1).length) ∧
    (({ entry1 with line := 0 } : Entry).line = 0 ∧ (listed .oneShot .armed 0).target = .armed ∧
      (listed .oneShot (.panel 2) 0).target = .panel 2 ∧ (2 : Word16) ≠ entry1.seq) ∧
    (State.reset.dev.port port0).stream ≠ .dark ∧ (State.reset.dev.port port0).stream ≠ .noise ∧
    ((streaming .noise none 0).dev.port port0).stream = .noise := by decide +kernel
theorem test_join_resolves_older :
    (PortRun.join (listed .off .absent 0, 0) entry1).1.fifo.map (fun x => x.lineTag) = [3, 4, 3] ∧
    (PortRun.join (listed .off .absent 0, 0) entry1).1.outstanding = [entry1] ∧
    (PortRun.join (listed .off .absent 0, 0) entry1).2 = PortCond.lineLost.bit := by decide +kernel
theorem test_meets_ViolationIsNoiseEvent : decodeCamWord 0xFFFFFF = .violation ∧ decodeCamWord 0x000001 = .violation ∧
    (State.reset.dev.port port0).camSd = true ∧ (State.reset.dev.port port0).assembly = none ∧
    ((streaming .idle none 0).dev.port port0).stream = .idle ∧ (packet 2047).received < 2048 ∧
    2048 ≤ (packet 2048).received := by decide +kernel
/-- Port C0 in a stream state at a noise count, with an outstanding entry and a last known state. -/
def noisy (st : Stream) (known : LastKnown) (count : Nat) : State :=
  onC0 (laneA .scanning [ctx1 .scanning]) (fun x =>
    { x with stream := st, lastKnown := known, noiseCount := count, noiseMonitor := 1, outstanding := [entry1] })

theorem test_meets_Violation_entries : ((noisy .active .active 15).dev.port port0).camSd = true ∧
    min 16 (((noisy .active .active 15).dev.port port0).noiseCount + 1) = 16 ∧
    ((noisy .active .active 15).dev.port port0).stream = .active ∧
    min 16 (((noisy .idle .dark 14).dev.port port0).noiseCount + 1) < 16 ∧
    ((noisy .idle .dark 14).dev.port port0).stream = .idle ∧ ((noisy .noise .noise 3).dev.port port0).stream = .noise ∧
    ((noisy .active .active 15).dev.lane .a).scanningCtx = some (ctx1 .scanning) ∧
    portIn ((noisy .active .active 15).dev.slot 0).hdr.portSet .p0 = true ∧
    (State.reset.dev.lane .a).scanningCtx = none := by decide +kernel
theorem test_noise_and_unknown :
    (let d := after (.violationWord port0 0xFFFFFF) (noisy .active .active 15)
     portConds d port0 &&& 0xE78 = PortCond.enteredNoise.bit ||| PortCond.stateChange.bit ||| PortCond.lineLost.bit ∧
       (d.port port0).outstanding = [] ∧ (d.port port0).fifo.length = 1 ∧ (d.lane .a).gate.counts.cameraLoss = 1) ∧
    (let d := after (.violationWord port0 0xFFFFFF) (noisy .idle .dark 14)
     portConds d port0 &&& 0xE78 = PortCond.stateChange.bit ||| PortCond.unknownAfterBad.bit ∧
       (d.port port0).outstanding = [entry1] ∧ (d.lane .a).gate.counts.cameraLoss = 0) ∧
    (let d := after (.camSdActive port0) (noisy .dark .idle 3)
     portConds d port0 &&& 0xE78 = PortCond.stateChange.bit ||| PortCond.unknownAfterGood.bit) := by decide +kernel
theorem test_word_out_of_place :
    ((after (.fillWord port0) (streaming .active (some (packet 5)) 0)).port port0).stream = .unknown ∧
    ((after (.endWord port0 0) (streaming .idle none 0)).port port0).noiseCount = 1 := by decide +kernel
theorem test_meets_PortOrdersAnswered : injectionModeOf 1 = some .oneShot ∧ injectionModeOf 2 = some .periodic ∧
    injectionModeOf 0 = some .off := by decide
theorem test_meets_PatternOrdersAnswered : (2047 : Word16).toNat ≤ 2047 ∧ 1 ≤ (1 : Word16).toNat ∧
    (2047 : Word16).toNat + (1 : Word16).toNat ≤ 2048 ∧ (1792 : Word16).toNat + (256 : Word16).toNat ≤ 2048 ∧
    ([7] : List Byte).length = (1 : Word16).toNat ∧ (State.reset.dev.port port0).mode = .off ∧
    ((withC0 (fun p => { p with mode := .continuous })).dev.port port0).mode ≠ .off := by decide +kernel
/-- The items of the read records that may be absent, each behind its presence byte (R187). -/
theorem test_absent_items :
    gateEntryBytes { pos := 8, seq := 3, kind := .linked 2 } = [0, 0, 0, 8, 0, 3, 0, 1, 2] ∧
    gateEntryBytes { pos := 8, seq := 3, kind := .fixedReview } = [0, 0, 0, 8, 0, 3, 1, 0, 0] ∧
    fidOutcomeBytes (.found 5 (-1) 2) = [0, 1, 0, 5, 1, 0xFF, 2] ∧ fidOutcomeBytes (.notFound 5) = [1, 1, 0, 5, 0, 0, 0] ∧
    fidOutcomeBytes .lost = [2, 0, 0, 0, 0, 0, 0] ∧ fidReportBytes (.found 5 (-1) 2) = [0, 0, 5, 0xFF, 2] ∧
    fidReportBytes .notClosed = [3, 0, 0, 0, 0] ∧ targetBytes .armed = [1, 0, 0, 0] ∧ targetBytes (.panel 3) = [2, 1, 0, 3] ∧
    fidResultBytes none = [0, 0, 0, 0] ∧ strobeStateBytes (.settle .ring) = [2, 1, 2] := by decide +kernel
theorem test_slot_header_counts : (headerBytes header1).length = 22 ∧
    ((headerBytes header1).drop 16).take 4 = be 2 header1.fiducialCount.toNat ++ be 2 header1.ruleCount.toNat := by
  decide +kernel
theorem test_meets_LaneOrdersAnswered : (State.reset.dev.lane .a).mode = .off ∧
    ((laneA .standby []).dev.lane .a).mode = .standby ∧ ((laneA .standby []).dev.lane .a).settings.warmupTime = 0 ∧
    ({ defaultSettings with warmupTime := 1 } : LaneSettings).warmupTime ≠ 0 ∧
    ((laneA .ready []).dev.lane .a).idleLeft = none ∧
    ((withA (fun L => { L with mode := .ready, idleLeft := some 1 })).dev.lane .a).idleLeft.isSome = true := by
  decide +kernel
/-- Lane A Ready, H at 7 and two gate entries at 8, one linked to the context given. -/
def gateNext (c : Context) : State :=
  onA (laneA .ready [c]) (fun L => { L with
    motion := { L.motion with h := 7 },
    gate := { L.gate with queue := [{ pos := 8, seq := 3, kind := .linked 0 }, fixed1, { fixed1 with pos := 9 }] } })

theorem test_meets_CountsMove_gate :
    (let L := (gateNext (ctx1 .settling)).dev.lane .a
     let up : Lane := { L with motion := { L.motion with h := L.motion.h + 1 } }
     L.mode ≠ .off ∧ L.motion.d = 0 ∧ L.gateDue = false ∧ up.gateDue = true ∧ up.lineDue = false ∧ up.scanDue = false) ∧
    (let L := (onA (scanning 3) (fun L => { L with gate := { L.gate with queue := [fixed1] } })).dev.lane .a
     let up : Lane := { L with motion := { L.motion with h := L.motion.h + 1 } }
     up.gateDue = true ∧ up.lineDue = true) ∧
    (let L := (handing .ready).dev.lane .a
     let up : Lane := { L with motion := { L.motion with h := L.motion.h + 1 } }
     up.gateDue = false ∧ up.lineDue = false ∧ L.scanDue = false ∧ up.scanDue = true) ∧
    ((scanning 3).dev.lane .a).scanningCtx = some (ctx1 .scanning) ∧
    ((handing .ready).dev.lane .a).oldestWaiting = some (ctx1 .waiting) := by decide +kernel
theorem test_count_brings_gate_arrivals :
    let L := (after (.encoderForwardCount .a) (gateNext (ctx1 .settling))).lane .a
    L.gate.queue.map (fun e => e.pos) = [9] ∧ L.live.map (fun c => (c.state, c.gateAction)) = [(.passed, .applied .review)] := by
  decide +kernel
theorem test_meets_DisableLaneDiscards : Taken (laneA .scanning [ctx1 .scanning]) ∧
    (∀ k ∈ (laneA .scanning [ctx1 .scanning]).dev.waiting, k.lane = LaneId.a) :=
  ⟨taken_of _ (by decide +kernel), by decide +kernel⟩
theorem test_disable_refills :
    let w (l : LaneId) (j : Nat) : Window := { openedWindow l (ctx1 .scanning) joint1 0 0 with joint := j, finished := true }
    let s := withDev (fun d => { withLane d .b { d.lane .b with openList := [w .b 7] } with
      closeQueue := List.replicate 128 (w .a 0), waiting := [(w .b 7).key] })
    (after (.disableLane 1 0) s).closeQueue.map (fun x => (x.lane, x.joint)) = [(.b, 7)] ∧
      (after (.disableLane 1 0) s).waiting = [] := by decide +kernel
theorem test_meets_ReadOrdersAnswered : (511 : Word16).toNat ≤ 511 ∧ 1 ≤ (16 : Byte).toNat ∧ (16 : Byte).toNat ≤ 16 := by
  decide

def item1 : Item := { lineTag := 4, phase := .top, seq := 3, line := 4, payload := .lost }
/-- Both FIFOs of lane A hold an item; local port 1 was served last. -/
def filled : State :=
  withA (fun L => { L with ports := { p0 := { L.ports.p0 with fifo := [item1] }, p1 := { L.ports.p1 with fifo := [item1] } } })

theorem test_meets_ItemTakeServesPort : (State.reset.dev.lane .a).ports.p0.fifo = [] ∧
    ((filled.dev.lane .a).ports.get .p0).fifo = [item1] ∧ (filled.dev.lane .a).lastServed = .p1 ∧
    ((withC0 (fun p => { p with fifo := [item1] })).dev.lane .a).ports.p1.fifo = [] ∧
    (filled.dev.lane .a).reg = none ∧ (∀ r : Registration, none = some r → r.seq ≠ item1.seq) := by
  refine ⟨?_, ?_, ?_, ?_, ?_, fun r h => by cases h⟩ <;> decide +kernel
theorem test_item_take : ((after (.itemTake .a) filled).lane .a).lastServed = .p0 ∧
    ((after (.itemTake .a) filled).port port0).fifo = [] := by decide +kernel

/-- A 4 by 4 window of the panel with its last line at line 195 and crop slot 0. -/
def cropped : Window := { openedWindow .a (ctx1 .scanning) joint1 0 0 with crop := some 0 }
def lineItem (line : Nat) : Item := { lineTag := 4, phase := .top, seq := 3, line := line, payload := .packet (List.replicate 2048 150) false }
/-- Lane A Scanning with that window open and the item in C0's FIFO. -/
def measuring (line : Nat) : State :=
  onA (laneA .scanning [ctx1 .scanning]) (fun L =>
    { L with openList := [cropped], ports := { L.ports with p0 := { L.ports.p0 with fifo := [lineItem line] } } })

theorem test_meets_ItemTake_close : (measuring 195).dev.waiting = [] ∧ (measuring 195).dev.closeQueue.length < 128 ∧
    128 ≤ (List.replicate 128 cropped).length ∧
    ((measuring 195).dev.lane cropped.key.lane).openList.find? (fun v => decide (v.key = cropped.key)) = some cropped := by
  decide +kernel
theorem test_meets_ItemTake_crop : (lineItem 195).payload = .packet (List.replicate 2048 150) false ∧
    item1.payload = .lost ∧ (openedWindow .a (ctx1 .scanning) joint1 0 0).crop = none ∧
    (measuring 195).dev.crops[0]? = some CropSlot.free ∧ CropSlot.free.planes.wf = true ∧
    cropped.firstLine ≤ (lineItem 195).line ∧ cropped.firstCol ≤ cropped.lastCol ∧
    cropped.lastCol < cropped.firstCol + 64 ∧ cropped.lastCol < (List.replicate 2048 (150 : Byte)).length ∧
    (lineItem 195).line < cropped.firstLine + 64 := by decide +kernel
theorem test_last_line_closes :
    let d := after (.itemTake .a) (measuring 195)
    (d.lane .a).openList = [] ∧ d.closeQueue.map (fun w => (w.finished, w.sums.top.n, w.sums.top.b)) = [(true, 4, 4)] ∧
      (d.crops.head?.map (fun c => c.planes)) = some [(192, 150), (193, 150), (194, 150), (195, 150)] ∧
      ((after (.itemTake .a) (measuring 194)).lane .a).openList.map (fun w => w.finished) = [false] := by decide +kernel
/-- An accumulator of a full area of one pixel, closed with a result. -/
def closed (r : FidResult) : Accumulator := { Accumulator.fresh 0 with result := some r }

theorem test_meets_RegistrationResult :
    (1 : Word16).toNat ≤ ({ Accumulator.fresh 0 with area := 1 } : Accumulator).area ∧
    (closed .lost).result = some .lost ∧ (closed .notFound).result ≠ some .lost ∧
    ([closed (.found 64 (-64)), closed (.found 60 (-60))].map (fun a => a.result)) =
      ([(64, -64), (60, -60)] : List (Int × Int)).map (fun o => some (.found o.1 o.2)) ∧
    ((laneA .scanning [ctx1 .scanning]).dev.lane .a).ctx 0 = some (ctx1 .scanning) := by decide +kernel

/-- Lane A Scanning with the tag counter given and its registration open with the accumulators given. -/
def registering (lineTag : Word16) (as : List Accumulator) : State :=
  onA (scanning lineTag) (fun L => { L with reg := some { seq := 3, ctx := 0, accumulators := as } })
def boxItem (line : Nat) (payload : Payload) : Item := { lineTag := 4, phase := .top, seq := 3, line := line, payload := payload }

theorem test_meets_Registration_rows : (Accumulator.fresh 0).result = none ∧ localPortOf fiducial1.port = some .p0 ∧
    phaseOfCode fiducial1.phase = some (boxItem 24 .lost).phase ∧
    ((fiducial1.line.toNat : Int) - ((fiducial1.height.toNat / 2 : Nat) : Int) ≤ 24 ∧
      (39 : Int) < (fiducial1.line.toNat : Int) - ((fiducial1.height.toNat / 2 : Nat) : Int) + fiducial1.height.toNat) ∧
    fiducial1.width.toNat / 2 ≤ fiducial1.column.toNat ∧
    fiducial1.column.toNat - fiducial1.width.toNat / 2 + fiducial1.width.toNat ≤ (List.replicate 2048 (0 : Byte)).length := by
  decide +kernel
theorem test_registration_rows :
    let a := (Accumulator.fresh 0).offer fiducial1 .p0 (boxItem 39 (.packet (List.replicate 2048 150) false))
    a.area = 16 ∧ a.lineSum = 624 ∧ a.columnSum = 1592 ∧ a.result = some (.found (-1) 7) ∧
      (Accumulator.fresh 0).offer fiducial1 .p0 (boxItem 24 .lost) = { Accumulator.fresh 0 with lost := true } ∧
      (Accumulator.fresh 0).offer fiducial1 .p0 (boxItem 40 .lost) = Accumulator.fresh 0 := by decide +kernel
theorem test_meets_Registration_item :
    ((registering 3 [Accumulator.fresh 0]).dev.lane .a).reg =
      some { seq := 3, ctx := 0, accumulators := [Accumulator.fresh 0] } ∧
    ((registering 3 []).dev.lane .a).ctx 0 = some (ctx1 .scanning) ∧ (boxItem 39 .lost).seq = 3 ∧ item1.seq = 3 ∧
    (∃ a ∈ [Accumulator.fresh 0], a.result = none) ∧ (∀ a ∈ [closed .lost], a.result ≠ none) ∧
    (State.reset.dev.lane .a).reg = none := by decide +kernel
theorem test_meets_Registration_deadline : (ctx1 .scanning).reg.state = .pending ∧
    (ctx1 .scanning).lineOf 128 = ((registering 128 []).dev.slot 0).hdr.zone.toNat + 64 ∧
    (ctx1 .scanning).lineOf 128 + 1 ≠ ((registering 128 []).dev.slot 0).hdr.panelLength.toNat ∧
    (ctx1 .scanning).lineOf 127 ≠ ((registering 127 []).dev.slot 0).hdr.zone.toNat + 64 := by decide +kernel
theorem test_deadline_fails :
    (((registering 128 [Accumulator.fresh 0]).dev.issueLine .a (ctx1 .scanning) 8).lane .a).live.map
      (fun c => (c.reg.state, c.reg.detail, c.causes.registration)) = [(.failed .late, [(0, .notClosed)], 1)] := by
  decide +kernel
theorem test_registration_ends :
    let r : Registration := { seq := 3, ctx := 0, accumulators := [{ closed .lost with injected := true }] }
    (((registering 3 []).dev.endRegistration .a r (.failed .loss)).lane .a).live.map
      (fun c => (c.reg.injected, c.injected, c.abort, c.reg.detail)) = [(true, 1, .registration, [(0, .lost)])] ∧
    (((registering 3 []).dev.endRegistration .a r (.found 1 2)).lane .a).live.map
      (fun c => (c.reg.state, c.abort, c.pointer)) = [(.found 1 2, .none, 0)] := by decide +kernel
/-- The item of the last line of the one open accumulator's box reaches C0 while its panel is under registration. -/
def lastRow : State := onC0 (registering 3 [Accumulator.fresh 0]) (fun p => { p with fifo := [boxItem 39 .lost] })
theorem test_meets_ItemTake_registration :
    (lastRow.dev.lane .a).reg = some { seq := 3, ctx := 0, accumulators := [Accumulator.fresh 0] } ∧
    ((lastRow.dev.lane .a).ports.get .p0).fifo = [boxItem 39 .lost] ∧ ((lastRow.dev.lane .a).ports.get .p1).fifo = [] ∧
    (boxItem 39 .lost).seq = 3 := by decide +kernel
theorem test_item_ends_registration : ((after (.itemTake .a) lastRow).lane .a).reg = none ∧
    ((after (.itemTake .a) lastRow).lane .a).live.map (fun c => (c.reg.state, c.reg.detail)) =
      [(.failed .loss, [(0, .lost)])] := by decide +kernel
theorem test_combine : combine header1 [closed (.found 3 (-3)), closed (.found 2 (-2))] = .found 2 (-2) ∧
    combine header1 [closed (.found 5 0), closed (.found 0 0)] = .failed .spread ∧
    combine header1 [closed (.found 65 0), closed (.found 65 0)] = .failed .notFound ∧
    combine header1 [closed .notFound, closed .lost] = .failed .loss := by decide +kernel
theorem test_meets_JointIsScheduled :
    ((laneA .scanning [ctx1 .scanning]).dev.lane .a).ctx (ctx1 .scanning).num = some (ctx1 .scanning) ∧
    ((laneA .scanning []).dev.lane .a).openList.length < 512 ∧
    512 ≤ ((withA (fun L => { L with
      openList := List.replicate 512 (openedWindow .a (ctx1 .scanning) joint1 0 0) })).dev.lane .a).openList.length ∧
    joint1.crop = 1 ∧ State.reset.dev.crops[0]? = some CropSlot.free ∧ CropSlot.free.state = .free := by decide +kernel
/-- A Scanning panel whose registration found no offset. -/
def foundCtx : Context := { ctx1 .scanning with reg := { (ctx1 .scanning).reg with state := .found 0 0 } }

theorem test_meets_JointIsScheduled_reach : ((laneA .scanning [foundCtx]).dev.lane .a).ctx 0 = some foundCtx ∧
    foundCtx.reg.state = .found 0 0 ∧ foundCtx.pointer ≤ ((laneA .scanning [foundCtx]).dev.slot 0).hdr.jointCount.toNat ∧
    ((laneA .scanning [foundCtx]).dev.slot 0).hdr.jointCount.toNat ≤ foundCtx.pointer + 1 ∧
    (∀ dx dy : Int, (ctx1 .scanning).reg.state ≠ .found dx dy) := by
  refine ⟨by decide +kernel, by decide +kernel, by decide +kernel, by decide +kernel, fun dx dy h => by cases h⟩
theorem test_line_reaches_joint :
    ((Device.openJoints .a 0 191 1 (laneA .scanning [foundCtx]).dev).lane .a).openList = [] ∧
    ((Device.openJoints .a 0 192 1 (laneA .scanning [foundCtx]).dev).lane .a).openList.map (fun w => w.joint) = [0] := by
  decide +kernel
theorem test_crop_taken :
    let d := (laneA .scanning [ctx1 .scanning]).dev.scheduleJoint .a (ctx1 .scanning) joint1 3 (-2)
    (d.lane .a).openList.map (fun w => (w.firstCol, w.lastCol, w.firstLine, w.lastLine, w.crop)) =
      [(67, 70, 190, 193, some 0)] ∧ d.crops.head?.map (fun s => s.state) = some .capturing := by decide +kernel
theorem test_window_takes_its_place :
    let w (seq : Word16) (last joint : Nat) : Window :=
      { openedWindow .a (ctx1 .scanning) joint1 0 0 with seq := seq, lastLine := last, joint := joint }
    let d := (onA (laneA .scanning [ctx1 .scanning]) (fun L =>
      { L with openList := [w 2 300 9, w 3 194 8, w 3 195 4, w 3 196 1] })).dev
    ((d.scheduleJoint .a { ctx1 .scanning with pointer := 5 } joint1 0 0).lane .a).openList.map
      (fun v => (v.seq, v.lastLine, v.joint)) = [(2, 300, 9), (3, 194, 8), (3, 195, 4), (3, 195, 5), (3, 196, 1)] := by
  decide +kernel
theorem test_meets_RowSums :
    (let w := openedWindow .a (ctx1 .scanning) joint1 1920 0
     w.firstCol ≤ w.lastCol ∧ w.lastCol = 1987 ∧ w.lastCol < (List.replicate 2048 (150 : Byte)).length) ∧
    item1.payload = .lost := by decide +kernel
theorem test_row_sums :
    let w := { openedWindow .a (ctx1 .scanning) joint1 0 0 with firstCol := 1, lastCol := 4 }
    let x := { item1 with payload := .packet [255, 9, 150, 160, 9, 255] false }
    (w.feed rule1 x).sums.top = { n := 4, b := 2, s := 328, r := 2 } := by decide +kernel

/-- A window of the recipe's joint with sums that pass. -/
def window1 : Window :=
  { openedWindow .a (ctx1 .scanning) joint1 0 0 with
    sums := { top := { n := 16, b := 10, s := 1600, r := 4 }, ring := .zero, axial := .zero } }
/-- Lane A Scanning with the window under evaluation and the report mode given. -/
def evaluating (m : ReportMode) (reports : Nat) : State :=
  let s := laneA .scanning [ctx1 .scanning]
  { s with dev := { withLane s.dev .a { s.dev.lane .a with reportMode := m } with
      evaluation := some window1, trunk := { s.dev.trunk with verdicts := List.replicate reports report1 } } }

theorem test_meets_EvaluationsRun : State.reset.dev.evaluation = none ∧ State.reset.dev.waiting = [] ∧
    (withDev (fun d => { d with closeQueue := [window1] })).dev.closeQueue = [window1] ∧
    (evaluating .silent 0).dev.evaluation = some window1 ∧
    ((evaluating .silent 0).dev.lane .a).ctxOfSeq window1.seq = some (ctx1 .scanning) ∧
    ((evaluating .silent 0).dev.lane .a).live = [ctx1 .scanning] ∧ (ctx1 .scanning).state = .scanning ∧
    reported .silent (judge rule1 window1).verdict = false ∧ window1.crop = none := by decide +kernel
theorem test_meets_VerdictReported : (evaluating .all 1023).dev.trunk.verdicts.length < 1024 ∧
    1024 ≤ (evaluating .all 1024).dev.trunk.verdicts.length ∧ reported .all (judge rule1 window1).verdict = true ∧
    ((evaluating .all 0).dev.lane .a).ctxOfSeq window1.seq = some (ctx1 .scanning) ∧
    ({ window1 with crop := some 47 } : Window).crop = some 47 ∧ (evaluating .all 0).dev.crops[47]? = some CropSlot.free := by
  decide +kernel
theorem test_meets_VerdictReported_lost : (ctx1 .scanning).state = .scanning ∧
    ((evaluating .all 1024).dev.lane .a).ctx (ctx1 .scanning).num = some (ctx1 .scanning) := by decide +kernel
theorem test_counts_and_modes : ((ctx1 .scanning).countVerdict .unjudged true).causes.dataLoss = 1 ∧
    ((ctx1 .scanning).countVerdict .unjudged true).injected = 1 ∧ reported .notPass .pass = false ∧
    reported .notPass .unjudged = true ∧ reported .defectOnly .marginal = false ∧ reported .silent .defect = false := by
  decide
theorem test_evaluation_complete : (after .evaluationComplete (evaluating .all 0)).trunk.verdicts.map
    (fun r => (r.judged.verdict, r.component)) = [(.pass, 9)] ∧
    ((after .evaluationComplete (evaluating .all 1024)).lane .a).live.map (fun c => c.verdictsLost) = [1] := by
  decide +kernel
/-- The panel Settling with its one joint under evaluation, in crop slot 47. -/
def lastJudged (m : ReportMode) (reports : Nat) : State :=
  let s := evaluating m reports
  { onA s (fun L => { L with live := [{ ctx1 .settling with pointer := 1 }] }) with
    dev := { (onA s (fun L => { L with live := [{ ctx1 .settling with pointer := 1 }] })).dev with
      evaluation := some { window1 with crop := some 47 },
      crops := s.dev.crops.set 47 { CropSlot.free with state := .capturing, owner := some window1.owner } } }

theorem test_meets_Evaluation_settling : (lastJudged .silent 0).dev.evaluation = some { window1 with crop := some 47 } ∧
    ((lastJudged .silent 0).dev.lane .a).ctxOfSeq window1.seq = some { ctx1 .settling with pointer := 1 } ∧
    ((lastJudged .silent 0).dev.lane .a).reportMode = .silent ∧ reported .silent (judge rule1 window1).verdict = false ∧
    reported .all (judge rule1 window1).verdict = true ∧ 1024 ≤ (lastJudged .all 1024).dev.trunk.verdicts.length := by
  decide +kernel
theorem test_verdict_decides_and_frees :
    let d := after .evaluationComplete (lastJudged .silent 0)
    (d.lane .a).live.map (fun c => (c.state, c.pass, c.decision)) = [(.decided, 1, some .accept)] ∧
      d.crops[47]? = some CropSlot.free ∧
      ((after .evaluationComplete (lastJudged .all 1024)).lane .a).live.map (fun c => (c.state, c.pass, c.verdictsLost)) =
        [(.decided, 1, 1)] ∧ (after .evaluationComplete (lastJudged .all 1024)).crops[47]? = some CropSlot.free := by
  decide +kernel
theorem test_take_lets_one_close :
    let w : Window := { window1 with joint := 1, finished := true }
    let s := onA (withDev (fun d => { d with closeQueue := List.replicate 128 window1, waiting := [w.key] })) (fun L =>
      { L with openList := [w] })
    s.dev.evaluation = none ∧ (after .evaluationTake s).waiting = [] ∧ (after .evaluationTake s).closeQueue.length = 128 ∧
      ((after .evaluationTake s).lane .a).openList = [] := by decide +kernel
/-- Sums by which the window is Marginal or Defect. -/
def solder (b : Nat) : Window := { window1 with sums := { window1.sums with top := { n := 16, b := b, s := 1600, r := 4 } } }

theorem test_meets_VerdictOfTests : window1.loss = false ∧ ({ window1 with loss := true } : Window).loss = true ∧
    (judge rule1 window1).verdict = .pass ∧ (judge rule1 (solder 7)).verdict = .marginal ∧
    (judge rule1 (solder 1)).verdict = .defect := by decide +kernel
theorem test_meets_DecisionOfCounts :
    (let c := { ctx1 .settling with defect := 1 }
     ((laneA .ready [c]).dev.lane .a).ctx 0 = some c ∧ c.state = .settling ∧
       c.pass + c.marginal + c.defect + c.unjudged = ((laneA .ready [c]).dev.slot c.slot).hdr.jointCount.toNat) ∧
    (let c := { ctx1 .passed with pass := 1 }
     ((laneA .ready [c]).dev.lane .a).ctx 0 = some c ∧ c.state = .passed ∧
       c.pass + c.marginal + c.defect + c.unjudged = ((laneA .ready [c]).dev.slot c.slot).hdr.jointCount.toNat) ∧
    (laneA .ready []).dev.retireOrder = [] ∧ (laneA .ready []).dev.trunk.panelReports.length < 8 ∧
    (ctx1 .settling).accounted ≠ 1 := by decide +kernel
theorem test_meets_GateOrdersAnswered : (3 : Byte).toNat = gateModeCode .rejectAll ∧
    faultKindOf 5 = some .verdictLoss ∧ (2 : Byte).toNat = overrideCode .rejectAll ∧ (1 : Byte).toNat = boolCode true ∧
    (State.reset.dev.lane .a).gate.forced = .none ∧
    ((withA (fun L => { L with gate := { L.gate with hold := true } })).dev.lane .a).gate.hold = true := by decide +kernel

def gateEntry1 : GateEntry := { pos := 8, seq := 3, kind := .linked 0 }
/-- Lane A with its oldest gate entry linked to the context given. -/
def arriving (c : Context) : State := onA (laneA .ready [c]) (fun L => { L with gate := { L.gate with queue := [gateEntry1] } })
def decided1 : Context := { ctx1 .decided with decision := some .accept }

theorem test_meets_GateArrivalSetsCode : ((arriving decided1).dev.lane .a).gate.queue = [gateEntry1] ∧
    ((arriving decided1).dev.lane .a).ctx 0 = some decided1 ∧ decided1.state = .decided ∧
    ((arriving decided1).dev.lane .a).gate.forced = .none ∧ ((arriving decided1).dev.lane .a).gate.mode = .follow ∧
    ((arriving (ctx1 .settling)).dev.lane .a).ctx 0 = some (ctx1 .settling) ∧ (arriving decided1).dev.retireOrder = [] ∧
    (arriving decided1).dev.trunk.panelReports.length < 8 ∧
    ((arriving (ctx1 .waiting)).dev.lane .a).ctx 0 = some (ctx1 .waiting) ∧ (ctx1 .waiting).state = .waiting ∧
    (onA (arriving (ctx1 .scanning)) (fun L => { L with mode := .scanning })).dev.lanes.a.live = [ctx1 .scanning] := by
  decide +kernel
theorem test_gate_pins : (((arriving decided1).dev.gateArrival .a).lane .a).gate.divert0 = true ∧
    (((arriving decided1).dev.gateArrival .a).lane .a).gate.divert1 = false ∧
    (((arriving (ctx1 .waiting)).dev.gateArrival .a).lane .a).live.map (fun c => (c.state, c.late)) = [(.waiting, true)] := by
  decide +kernel
theorem test_gate_arrival : ((arriving decided1).dev.gateArrival .a).trunk.panelReports.map (fun r => r.ctx.gateAction) =
    [.applied .accept] ∧ (((arriving (ctx1 .settling)).dev.gateArrival .a).lane .a).gate.divert = .review := by
  decide +kernel
theorem test_meets_FaultAnswered : (State.reset.dev.lane .a).mode = .off ∧ ((laneA .ready []).dev.lane .a).mode ≠ .off ∧
    LaneId.b ≠ LaneId.a := by decide +kernel
theorem test_fault_conditions : ((State.reset.dev.fault .a .panelOverrun).cond.get (.lane .a)).raised =
    LaneCond.panelOverrun.bit ∧ ((State.reset.dev.fault .a .verdictLoss).cond.get (.lane .a)).raised = 0 ∧
    (let s := onA (laneA .ready []) (fun L => { L with gate := { L.gate with
       table := L.gate.table.set .warmupLate { override := .reviewAll, hold := false } } })
     ((s.dev.fault .a .warmupLate).cond.get (.lane .a)).raised = LaneCond.forced.bit ||| LaneCond.warmupLate.bit) := by
  decide +kernel
theorem test_meets_ForceStands : carriesOrders (.setFaultResponse 1 0 5 2 1) = false ∧
    carriesOrders (.encoderForwardCount .a) = false := by decide
theorem test_meets_LinkStateMoves : State.reset.dev.trunk.link = .down ∧
    (withTrunk (fun t => { t with link := .training, syncRun := 6 })).dev.trunk.syncRun < 7 ∧
    (withTrunk (fun t => { t with link := .training, syncRun := 7 })).dev.trunk.syncRun = 7 ∧
    LinkWord.data 0 ≠ .sync := by decide +kernel

/-- The link in Up with the inbound queue and the replies given. -/
def linkUp (inbound replies : Nat) : State :=
  withTrunk (fun t => { t with
    link := .up, credit := 1, inbound := List.replicate inbound { tag := 1, order := .identify },
    replies := List.replicate replies { tag := 0, code := 0x70, outcome := .done, body := [] } })

/-- The link in a state at a sync run, with an inbound frame being assembled or none. -/
def linkIn (link : Link) (run : Nat) (rx : Option (List Byte)) : State :=
  withTrunk (fun t => { t with link := link, syncRun := run, rx := rx })

theorem test_meets_CreditAndDamagedFrames : (linkUp 0 0).dev.trunk.link = .up ∧ (linkUp 0 0).dev.trunk.rx = none ∧
    (linkIn .up 8 (some [1])).dev.trunk.rx ≠ none ∧ FrameDamage.badCheck ≠ .brokenBySync ∧
    (linkIn .training 7 none).dev.trunk.link = .training ∧ State.reset.dev.trunk.link = .down ∧
    (List.replicate 510 (0 : Byte)).length ≤ 510 ∧ 510 < (List.replicate 511 (0 : Byte)).length := by decide +kernel
theorem test_frames_by_link_state : (after (.creditFrame 3) (linkIn .training 7 none)).trunk.syncRun = 0 ∧
    (after (.frameError .brokenBySync) (linkIn .training 7 none)).trunk.syncRun = 1 ∧
    (after (.creditFrame 3) (linkIn .down 0 none)).trunk = (linkIn .down 0 none).dev.trunk ∧
    (after (.frameError .brokenByDelimiter) (linkIn .up 8 none)).trunk.rx = some [] ∧
    (after (.creditFrame 3) (linkIn .up 8 (some [1]))).trunk.credit = 3 ∧
    (after (.creditFrame 3) (linkIn .up 8 (some [1]))).cond.device.raised = 3 := by decide +kernel
theorem test_meets_OrdersReachTheDecoder : (linkUp 0 15).dev.replyRoom = true ∧ (linkUp 0 15).dev.trunk.inbound = [] ∧
    (List.replicate 510 (0 : Byte)).length ≤ 510 ∧ listedCode 0x7F = false ∧ (linkUp 0 16).dev.replyRoom = false ∧
    (linkUp 15 16).dev.trunk.inbound.length < 16 ∧ 16 ≤ (linkUp 16 16).dev.trunk.inbound.length := by decide +kernel
theorem test_order_overrun : (after (.identify 1) (linkUp 16 16)).cond.device.raised = 0x5 ∧
    (after .frameBegin (linkUp 1 16)).trunk.inbound = [] := by decide +kernel
/-- The link in Up with the bytes of a frame received so far, newest last. -/
def receiving (bytes : List Byte) : State := linkIn .up 8 (some bytes.reverse)
def creditBytes : List Byte := 2 :: be 2 1 ++ [9] ++ be 2 (crc [2, 0, 1, 9]).toNat

theorem test_meets_FramesWordByWord : (linkUp 0 0).dev.trunk.rx = none ∧
    (receiving creditBytes.dropLast).dev.trunk.rx = some creditBytes.dropLast.reverse ∧
    creditBytes.dropLast.reverse.reverse ++ [creditBytes.getLastD 0] = creditBytes ∧ creditBytes.length = 1 + 5 ∧
    creditBytes.drop 4 = be 2 (crc (creditBytes.take 4)).toNat ∧
    (let order : List Byte := 1 :: be 2 2 ++ [5, 0x70] ++ be 2 (crc [1, 0, 2, 5, 0x70]).toNat
     order.length = 2 + 5 ∧ order.drop 5 = be 2 (crc (order.take 5)).toNat) := by decide +kernel
theorem test_words_in_up :
    (after (.trainingWord (.data (creditBytes.getLastD 0))) (receiving creditBytes.dropLast)).trunk.credit = 9 ∧
    (after (.trainingWord (.data (creditBytes.getLastD 0 + 1))) (receiving creditBytes.dropLast)).cond.device.raised = 3 ∧
    (after (.trainingWord (.data 3)) (receiving [])).trunk.rx = none ∧
    (after (.trainingWord (.data 2)) (receiving [2, 0])).cond.device.raised = 3 ∧
    (after (.trainingWord .delimiter) (receiving [2, 0])).trunk.rx = some [] ∧
    (after (.trainingWord .sync) (receiving [])).cond.device.raised = 3 ∧
    (after (.trainingWord .sync) (linkIn .up 8 none)).cond.device.raised = 1 := by decide +kernel
theorem test_trunk_transmit : (held.dev).trkTx = [] ∧ State.reset.dev.trkTx = [.sync] := by decide +kernel

/-- The link in Up with one item in each queue from a rank on: 1 notice, 2 panel report, 3 verdict, 4 crop. -/
def queued (rank : Nat) : State :=
  let s := linkUp 0 0
  { s with dev := { s.dev with
      cond := { s.dev.cond with noticeQueue := if rank ≤ 1 then [.device] else [] },
      trunk := { s.dev.trunk with
        panelReports := if rank ≤ 2 then [{ lane := .a, ctx := decided1, jointCount := 1 }] else [],
        verdicts := if rank ≤ 3 then [report1] else [] },
      cropQueue := [47] } }

theorem test_meets_FramesBeginAndEnd : (linkUp 0 1).dev.trunk.link = .up ∧ 0 < (linkUp 0 1).dev.trunk.credit ∧
    (linkUp 0 1).dev.trunk.frame = none ∧ (linkUp 0 1).dev.trunk.replies ≠ [] ∧ (linkUp 0 1).dev.trunk.inbound = [] ∧
    (queued 1).dev.cond.noticeQueue = [.device] ∧ (queued 2).dev.cond.noticeQueue = [] ∧
    (queued 2).dev.trunk.panelReports.length = 1 ∧ (queued 2).dev.retireOrder = [] ∧
    (queued 3).dev.trunk.verdicts = [report1] ∧ (queued 4).dev.trunk.verdicts = [] ∧ (queued 4).dev.cropQueue = [47] ∧
    (queued 4).dev.crops[47]? = some CropSlot.free ∧ State.reset.dev.trunk.link ≠ .up := by decide +kernel
theorem test_meets_FramesBegin_waiting :
    (linkUp 1 16).dev.trunk.inbound = [{ tag := 1, order := .identify }] ∧ 15 + 0 < 16 ∧
    (linkUp 1 17).dev.trunk.replies.length = 17 ∧
    ((linkUp 0 0).dev.trunk.replies = [] ∧ (withDev (fun d => { d with cond := { d.cond with noticeQueue := [] } })).dev.cond.noticeQueue = []) ∧
    (let s := queued 5
     s.dev.trunk.verdicts = [] ∧ ({ s.dev with cropQueue := [] } : Device).cropQueue = []) ∧
    ((linkUp 0 0).dev.trunk.frame = none) := by decide +kernel
/-- Eight panel reports queued, a ninth panel in the retire order, the link Up. -/
def retiring : State :=
  let s := laneA .ready [{ decided1 with state := .retiring }]
  { s with dev := { s.dev with
      trunk := { s.dev.trunk with link := .up, credit := 1,
                                  panelReports := List.replicate 8 { lane := .a, ctx := decided1, jointCount := 1 } },
      cond := { s.dev.cond with noticeQueue := [] }, retireOrder := [(.a, 0)] } }
theorem test_meets_FramesBegin_retire : retiring.dev.trunk.panelReports.tail.length = 7 ∧
    retiring.dev.retireOrder = [(.a, 0)] ∧
    (retiring.dev.lane .a).ctx 0 = some { decided1 with state := .retiring } ∧
    8 ≤ (List.replicate 8 retiring.dev.trunk.panelReports.head?).length := by decide +kernel
theorem test_report_sent_lets_one_retire : (after .frameBegin retiring).trunk.panelReports.length = 8 ∧
    (after .frameBegin retiring).retireOrder = [] ∧ ((after .frameBegin retiring).lane .a).live = [] ∧
    (after .frameComplete (linkUp 0 0)).trkTx = [.sync] := by decide +kernel
theorem test_meets_StallTimerRuns : State.reset.dev.trunk.stallLeft.isSome = true ∧ State.reset.dev.stallRuns = true ∧
    (State.reset.dev.trunk.credit = 0 ∧ State.reset.dev.cond.noticeQueue ≠ []) ∧ ¬ ((linkUp 0 0).dev.trunk.credit = 0) := by
  decide +kernel
theorem test_meets_ConditionOrders : 6 < (7 : Byte).toNat ∧
    (0x0100 : Word16) &&& ~~~(ownBits .device ||| summaryBits .device) = 0 ∧
    (0x0400 : Word16) &&& ~~~(ownBits .device ||| summaryBits .device) ≠ 0 ∧
    (0x0800 : Word16) &&& ~~~(ownBits (.port port0)) = 0 ∧ (0x1000 : Word16) &&& ~~~(ownBits (.lane .a)) ≠ 0 ∧
    (0x00FF : Word16) &&& ~~~(ownBits .device) = 0 := by decide
theorem test_summaries_and_notices :
    let u := { State.reset.dev.cond with lanes := { State.reset.dev.cond.lanes with a := { State.reset.dev.cond.lanes.a with mask := 0x1000 } } }
    let v := u.set (.port port0) { u.get (.port port0) with mask := 0x80 }
    v.view (.lane .a) = 0x1000 ∧ u.view (.lane .a) = 0 ∧ (u.settle v).noticeQueue = [.device, .port port0, .lane .a] := by
  decide +kernel

/-! ## The properties every step keeps have states that meet them -/

theorem test_meets_TrunkWithin : TrunkWithin (linkUp 16 16).dev ∧ CloseQueueWithin (queued 1).dev ∧
    ReportsWithin (queued 1).dev ∧ HeldInReset held.dev := by
  unfold TrunkWithin CloseQueueWithin ReportsWithin HeldInReset; decide +kernel
theorem test_meets_PixelsCanonical : PixelsCanonical (linkUp 0 0).dev :=
  ⟨fun p => by rcases p with ⟨l, q⟩; cases l <;> cases q <;> rfl, by decide +kernel⟩
theorem test_meets_PortsWithin : PortsWithin (ending 1).dev := fun p => by
  unfold Port.Within; rcases p with ⟨l, q⟩; cases l <;> cases q <;> decide +kernel
theorem test_meets_LanesWithin : LanesWithin (arriving decided1).dev := fun l => by cases l <;> decide +kernel
theorem test_meets_LanesOrdered : LanesOrdered (laneA .scanning [ctx1 .scanning]).dev :=
  ⟨fun l => by unfold Lane.Ordered; cases l <;> decide +kernel, by decide +kernel, by decide +kernel⟩
theorem test_meets_NoticesAgree : NoticesAgree (linkUp 0 0).dev :=
  ⟨by decide +kernel, fun i => by
    rcases i with _ | l | ⟨l, q⟩ <;> (try cases l) <;> (try cases q) <;> decide +kernel⟩
theorem test_meets_NumbersFresh : NumbersFresh (laneA .scanning [ctx1 .scanning]).dev := fun l => by
  cases l <;> decide +kernel
/-- The window in flight of a panel that has opened its only joint, with its crop slot Capturing. -/
def accountedFor : Device :=
  let s := laneA .scanning [{ foundCtx with pointer := 1, opened := 1 }]
  { withLane s.dev .a { s.dev.lane .a with openList := [cropped] } with
    crops := s.dev.crops.set 0 { state := .capturing, owner := some cropped.owner, planes := [] } }
theorem test_meets_JointsAccounted : JointsAccounted accountedFor := by
  refine ⟨by decide +kernel, fun l => ?_, by decide +kernel⟩
  have hreg : ∀ l, ∀ r : Registration, (accountedFor.lane l).reg ≠ some r := fun l r h => by cases l <;> cases h
  refine ⟨by cases l <;> decide +kernel, by cases l <;> decide +kernel, by cases l <;> decide +kernel,
    fun r h => absurd h (hreg l r), ?_⟩
  unfold Context.Accounted; cases l <;> decide +kernel
theorem test_meets_CropsAgree : CropsAgree State.reset.dev ∧ accountedFor.windowsInFlight = [cropped] ∧
    accountedFor.crops.head?.map (fun x => x.state) = some .capturing := by
  refine ⟨⟨by decide +kernel, by decide +kernel, by decide +kernel, fun w h => ?_, fun i x h => ?_, fun i => ?_⟩,
    by decide +kernel, by decide +kernel⟩
  · cases h
  · have hx : x = CropSlot.free := (by decide +kernel : ∀ y ∈ State.reset.dev.crops, y = CropSlot.free) x
      (List.mem_of_getElem? h)
    subst hx; exact ⟨⟨fun _ => rfl, fun _ => rfl⟩, fun h => by cases h⟩
  · refine ⟨fun h => (by cases h), fun ⟨x, h, hx⟩ => ?_⟩
    have hf : x = CropSlot.free := (by decide +kernel : ∀ y ∈ State.reset.dev.crops, y = CropSlot.free) x
      (List.mem_of_getElem? h)
    subst hf; cases hx
theorem test_meets_ReferencedSealed : ReferencedSealed (laneA .scanning [ctx1 .scanning]).dev :=
  ⟨by decide +kernel, fun v h => by cases h⟩

end Sys2Proof.Tests
end

/-! # The end of a validation (sections 1.4 and 1.6)

What the three operations that end a validation do: the walk that passes, the walk that fails (R17), and Erase Slot of the
slot under validation (R18, R21). -/

namespace Sys2Proof.Machine

/-! ## A change of one slot -/

theorem Device.setSlot_eq_withSlot (d : Device) (i : Fin 4) (x : Slot) : d.setSlot i x = withSlot d i x := rfl

/-- A reply queued before a change of a slot stands in the same place as one queued after it. -/
theorem withSlot_reply (d : Device) (i : Fin 4) (x : Slot) (tag code : Byte) (oc : ReplyCode) (body : List Byte) :
    withSlot (d.reply tag code oc body) i x = (withSlot d i x).reply tag code oc body := rfl

/-! ## The walk ends (R17) -/

theorem Device.validationEnds_of_pass (d : Device) (v : Validation) (hv : d.validation = some v)
    (hpass : validate (d.slots.get v.slot) = none) :
    d.validationEnds =
      (withSlot { d with validation := none } v.slot
        { d.slots.get v.slot with state := .sealed, lastFailure := none }).reply v.tag 0x15 .done [] := by
  simp only [Device.validationEnds, Device.slot, hv, hpass, Device.setSlot_eq_withSlot]

theorem Device.validationEnds_of_failure (d : Device) (v : Validation) (f : Failure) (hv : d.validation = some v)
    (hfail : validate (d.slots.get v.slot) = some f) :
    d.validationEnds =
      (withSlot { d with validation := none } v.slot
        { d.slots.get v.slot with state := .loading, lastFailure := some f }).reply v.tag 0x15 .invalid
          (failureBytes f) := by
  simp only [Device.validationEnds, Device.slot, hv, hfail, Device.setSlot_eq_withSlot]

/-! ## Erase Slot (R18, R21) -/

/-- Erase Slot is refused in no slot state: only a reference holds it off (R2, Table 1-1). -/
theorem Device.slotRefusal_erase (d : Device) (i : Fin 4) :
    d.slotRefusal i true (fun _ => true) = if d.referenced i then some .refusedReferenced else none := by
  simp [Device.slotRefusal]

theorem Device.abortValidation_of_validating (d : Device) (v : Validation) (hv : d.validation = some v) :
    d.abortValidation v.slot = ({ d with validation := none } : Device).reply v.tag 0x15 .aborted [] := by
  simp only [Device.abortValidation, hv, if_true]

/-- Erase Slot of an unreferenced slot ends that slot's validation, empties the slot and replies, in this order. -/
theorem takeEraseSlot_of_unreferenced (tag : Byte) (i : Fin 4) (d : Device) (href : d.referenced i = false) :
    takeEraseSlot tag (slotByte i) d = (withSlot (d.abortValidation i) i .empty).reply tag 0x17 .done [] := by
  have hfree : d.slotRefusal i true (fun _ => true) = none := by simp [Device.slotRefusal_erase, href]
  simp only [takeEraseSlot, fourOf_slotByte, hfree, Device.setSlot_eq_withSlot]

theorem takeEraseSlot_of_validating (tag : Byte) (v : Validation) (d : Device) (hv : d.validation = some v)
    (href : d.referenced v.slot = false) :
    takeEraseSlot tag (slotByte v.slot) d =
      ((withSlot { d with validation := none } v.slot .empty).reply v.tag 0x15 .aborted []).reply tag 0x17 .done [] := by
  rw [takeEraseSlot_of_unreferenced tag v.slot d href, d.abortValidation_of_validating v hv, withSlot_reply]

/-! ## The two commands as events of the part -/

theorem exec_validationComplete_running (s : State) (hr : s.dev.resetLow = false) :
    exec .validationComplete s = becomes s s.dev.validationEnds := event_running s hr Device.validationEnds

theorem exec_eraseSlot_taken (tag slot : Byte) (s : State) (ht : Taken s) :
    exec (.eraseSlot tag slot) s = becomes s (takeEraseSlot tag slot s.dev) :=
  event_arrive_taken s ht tag (.eraseSlot slot) (takeEraseSlot tag slot)

/-- Settles O9, by the three ways a validation ends: the walk passes, a check fails, or the slot is erased. -/
theorem validationEnds : Obligations.ValidationEnds := by
  intro tag v s hr hv
  refine ⟨fun hpass => ?passes, fun f hfail => ?fails, fun ht href => ?erased⟩
  case passes => rw [exec_validationComplete_running s hr, s.dev.validationEnds_of_pass v hv hpass]; rfl
  case fails => rw [exec_validationComplete_running s hr, s.dev.validationEnds_of_failure v f hv hfail]; rfl
  case erased => rw [exec_eraseSlot_taken tag _ s ht, takeEraseSlot_of_validating tag v s.dev hv href]; rfl

end Sys2Proof.Machine

/-! # The row sums of a window (section 5.4)

The longest run of a row is the greatest length of a stretch of in-band pixels in it (R91). Then what a window keeps and
changes when it is fed a packet or a loss marker (R91, R92). -/

namespace Sys2Proof.Machine

/-! ## The longest run of in-band pixels -/

/-- The row has a stretch of `n` consecutive in-band pixels. -/
def HasRun (low high : Byte) (row : List Byte) (n : Nat) : Prop :=
  ∃ run : List Byte, run <:+: row ∧ (∀ b ∈ run, inBand low high b = true) ∧ n = run.length

section LongestRun
variable {low high : Byte}

theorem longestRun_cons_in {b : Byte} (hb : inBand low high b = true) (cur best : Nat) (bs : List Byte) :
    longestRun low high cur best (b :: bs) = longestRun low high (cur + 1) best bs := by simp [longestRun, hb]

theorem longestRun_cons_out {b : Byte} (hb : inBand low high b = false) (cur best : Nat) (bs : List Byte) :
    longestRun low high cur best (b :: bs) = longestRun low high 0 (max cur best) bs := by simp [longestRun, hb]

theorem max_le_longestRun (cur best : Nat) (row : List Byte) : max cur best ≤ longestRun low high cur best row := by
  induction row generalizing cur best with
  | nil => exact le_rfl
  | cons b bs ih =>
    cases hb : inBand low high b with
    | true => rw [longestRun_cons_in hb]; have := ih (cur + 1) best; omega
    | false => rw [longestRun_cons_out hb]; have := ih 0 (max cur best); omega

/-- In-band pixels at the front of a row lengthen the run so far. -/
theorem longestRun_append {run : List Byte} (hrun : ∀ b ∈ run, inBand low high b = true) (cur best : Nat)
    (after : List Byte) :
    longestRun low high cur best (run ++ after) = longestRun low high (cur + run.length) best after := by
  induction run generalizing cur with
  | nil => rfl
  | cons b bs ih =>
    obtain ⟨hb, hbs⟩ := List.forall_mem_cons.mp hrun
    rw [List.cons_append, longestRun_cons_in hb, ih hbs, List.length_cons, Nat.add_right_comm, Nat.add_assoc]

/-- A stretch of in-band pixels is at the front of the row, where it lengthens the run so far, or after its first pixel. -/
theorem le_longestRun_of_hasRun {row : List Byte} {n : Nat} (h : HasRun low high row n) (cur best : Nat) :
    n ≤ longestRun low high cur best row := by
  obtain ⟨run, hin, hrun, rfl⟩ := h
  induction row generalizing cur best with
  | nil => simp [List.infix_nil.mp hin]
  | cons b bs ih =>
    rcases List.infix_cons_iff.mp hin with ⟨after, hfront⟩ | hinside
    · rw [← hfront, longestRun_append hrun]
      exact (Nat.le_add_left _ cur).trans ((le_max_left _ best).trans (max_le_longestRun _ best after))
    · cases hb : inBand low high b with
      | true => rw [longestRun_cons_in hb]; exact ih _ _ hinside
      | false => rw [longestRun_cons_out hb]; exact ih _ _ hinside

/-- While a row is read, with `rest` to come, the run so far is the stretch `cur` just read and the best one is a stretch of
the row; so the result is the length of one. -/
theorem hasRun_longestRun {row read cur rest : List Byte} {best : Nat} (hrow : row = read ++ cur ++ rest)
    (hcur : ∀ b ∈ cur, inBand low high b = true) (hbest : HasRun low high row best) :
    HasRun low high row (longestRun low high cur.length best rest) := by
  induction rest generalizing read cur best with
  | nil =>
    rcases max_choice cur.length best with h | h
    · exact ⟨cur, ⟨read, [], hrow.symm⟩, hcur, h⟩
    · rwa [longestRun, h]
  | cons b bs ih =>
    cases hb : inBand low high b with
    | true =>
      have hcur' : ∀ y ∈ cur ++ [b], inBand low high y = true := List.forall_mem_append.mpr ⟨hcur, by simpa using hb⟩
      rw [longestRun_cons_in hb, show cur.length + 1 = (cur ++ [b]).length by simp]
      exact ih (read := read) (by simp [hrow]) hcur' hbest
    | false =>
      have hmax : HasRun low high row (max cur.length best) := by
        rcases max_choice cur.length best with h | h
        · exact ⟨cur, ⟨read, b :: bs, hrow.symm⟩, hcur, h⟩
        · rwa [h]
      rw [longestRun_cons_out hb]
      exact ih (read := read ++ cur ++ [b]) (cur := []) (by simp [hrow]) (by simp) hmax

/-- The longest run of a row is the greatest length of a stretch of in-band pixels in it (R91). -/
theorem longestRun_isGreatest (row : List Byte) :
    IsGreatest {n | HasRun low high row n} (longestRun low high 0 0 row) :=
  ⟨hasRun_longestRun (read := []) (cur := []) rfl (by simp) ⟨[], List.nil_infix, by simp, rfl⟩,
    fun _ h => le_longestRun_of_hasRun h 0 0⟩

end LongestRun

/-! ## A window fed an item (R91, R92) -/

@[simp] theorem PerPhase.get_set_same {α : Type} (x : PerPhase α) (p : Phase) (v : α) : (x.set p v).get p = v := by
  simp [PerPhase.get_set]

theorem Window.length_row (w : Window) (px : List Byte) (hcols : w.firstCol ≤ w.lastCol) (hlast : w.lastCol < px.length) :
    (w.row px).length = w.lastCol + 1 - w.firstCol := by
  simp only [Window.row, List.length_take, List.length_drop]; omega

theorem Window.feed_lost (r : RuleEntry) (w : Window) (x : Item) (hx : x.payload = .lost) :
    w.feed r x = { w with loss := true } := by simp [Window.feed, hx]

theorem Window.feed_packet (r : RuleEntry) (w : Window) (x : Item) {px : List Byte} {injected : Bool}
    (hx : x.payload = .packet px injected) :
    w.feed r x =
      { w with sums := w.sums.set x.phase ((w.sums.get x.phase).addRow (ruleCriteria r x.phase) (w.row px)),
               injected := w.injected || injected } := by simp [Window.feed, hx]

/-- The statement's band is the model's. -/
theorem decide_band_eq_inBand (low high : Byte) :
    (fun b : Byte => decide (low.toNat ≤ b.toNat ∧ b.toNat ≤ high.toNat)) = inBand low high :=
  funext fun _ => Bool.decide_and _ _

/-- Settles O39: a packet adds its row to the sums of its phase, where the longest run is the greatest stretch of in-band
pixels; a loss marker sets the loss mark. -/
theorem rowSums : Obligations.RowSums := by
  intro r w x
  refine ⟨fun px injected hx hcols hlast => ?packet, w.feed_lost r x⟩
  rw [w.feed_packet r x hx]
  intro c band row s t
  have ht : t = s.addRow c row := PerPhase.get_set_same _ _ _
  have hband : band = inBand c.bandLow c.bandHigh := decide_band_eq_inBand _ _
  clear_value t band
  subst ht hband
  obtain ⟨⟨run, ⟨before, after, hrow⟩, hrun, hlen⟩, hgreatest⟩ :=
    longestRun_isGreatest (low := c.bandLow) (high := c.bandHigh) row
  refine ⟨?n, ?b, rfl, ?bound, ⟨before, run, after, hrow.symm, hrun, ?attained⟩, ?others, rfl⟩
  case n => exact congrArg (s.n + ·) (w.length_row px hcols hlast)
  case b => rw [List.countP_eq_length_filter]; rfl
  case bound =>
    intro before run after hrow hrun
    exact le_max_of_le_right (hgreatest ⟨run, ⟨before, after, hrow.symm⟩, hrun, rfl⟩)
  case attained => exact congrArg (max s.r) hlen
  case others =>
    intro p hp
    exact (PerPhase.get_set _ _ _ _).trans (if_neg hp)

end Sys2Proof.Machine

/-! # The tests and the verdict of a record (sections 6.3 and 6.4)

Each of the four tests by its limits (R111 to R113); the worst of several results (R114); the first present cause and
phase (R115); then the verdict of a record. -/

namespace Sys2Proof.Machine

/-! ## A feature against its limits -/

section Limits
variable (x limit margin : Nat)

theorem lowTest_eq_defect_iff : lowTest x limit margin = .defect ↔ x < limit := by
  unfold lowTest; split_ifs <;> simp [*]

theorem lowTest_eq_marginal_iff : lowTest x limit margin = .marginal ↔ limit ≤ x ∧ x < limit + margin := by
  unfold lowTest; split_ifs <;> simp <;> omega

theorem highTest_eq_defect_iff : highTest x limit margin = .defect ↔ limit < x := by
  unfold highTest; split_ifs <;> simp [*]

theorem highTest_eq_marginal_iff : highTest x limit margin = .marginal ↔ x ≤ limit ∧ limit < x + margin := by
  unfold highTest; split_ifs <;> simp <;> omega

end Limits

section Bridge
variable (r : RuleEntry) (c : Criteria) (f : Features)

theorem testBridge_eq_defect_iff :
    testBridge r c f = .defect ↔ 0 < c.spanLimit.toNat ∧ c.spanLimit.toNat ≤ f.span := by
  unfold testBridge; split_ifs <;> simp <;> omega

theorem testBridge_eq_marginal_iff :
    testBridge r c f = .marginal ↔
      0 < c.spanLimit.toNat ∧ c.spanLimit.toNat ≤ f.span + r.spanMargin.toNat ∧ f.span < c.spanLimit.toNat := by
  unfold testBridge; split_ifs <;> simp <;> omega

end Bridge

/-! ## The worse of two results, the worst of several -/

theorem Level.worse_eq_defect_iff (a b : Level) : a.worse b = .defect ↔ a = .defect ∨ b = .defect := by
  cases a <;> cases b <;> decide

theorem Level.worse_eq_marginal_iff (a b : Level) :
    a.worse b = .marginal ↔ ¬ (a = .defect ∨ b = .defect) ∧ (a = .marginal ∨ b = .marginal) := by
  cases a <;> cases b <;> decide

theorem foldl_worse_eq_defect_iff (a : Level) (xs : List Level) :
    xs.foldl Level.worse a = .defect ↔ a = .defect ∨ Level.defect ∈ xs := by
  induction xs generalizing a with
  | nil => simp
  | cons b bs ih => rw [List.foldl_cons, ih, Level.worse_eq_defect_iff, or_assoc, List.mem_cons, eq_comm (a := b)]

theorem foldl_worse_eq_marginal_iff (a : Level) (xs : List Level) :
    xs.foldl Level.worse a = .marginal ↔
      ¬ (a = .defect ∨ Level.defect ∈ xs) ∧ (a = .marginal ∨ Level.marginal ∈ xs) := by
  induction xs generalizing a with
  | nil => cases a <;> simp
  | cons b bs ih =>
    rw [List.foldl_cons, ih, Level.worse_eq_defect_iff, Level.worse_eq_marginal_iff, List.mem_cons, List.mem_cons,
      eq_comm (a := b), eq_comm (a := b)]
    tauto

/-- Settles O42: each test is a feature against a lower limit, an upper limit or both, with the margins taken off in the
integers. -/
theorem solderTests : Obligations.SolderTests := by
  intro r c f
  refine ⟨?insufficient, ?insufficientMarginal, ?excess, ?excessMarginal, ?bridge, ?bridgeMarginal, ?nonWetting,
    ?nonWettingMarginal⟩
  case insufficient => exact (lowTest_eq_defect_iff _ _ _).trans (by omega)
  case insufficientMarginal => exact (lowTest_eq_marginal_iff _ _ _).trans (by omega)
  case excess => exact (highTest_eq_defect_iff _ _ _).trans (by omega)
  case excessMarginal => exact (highTest_eq_marginal_iff _ _ _).trans (by omega)
  case bridge => exact (testBridge_eq_defect_iff r c f).trans (by omega)
  case bridgeMarginal => exact (testBridge_eq_marginal_iff r c f).trans (by omega)
  case nonWetting =>
    rw [testNonWetting, Level.worse_eq_defect_iff, lowTest_eq_defect_iff, highTest_eq_defect_iff]; omega
  case nonWettingMarginal =>
    rw [testNonWetting, Level.worse_eq_marginal_iff, lowTest_eq_defect_iff, highTest_eq_defect_iff,
      lowTest_eq_marginal_iff, highTest_eq_marginal_iff]
    omega

end Sys2Proof.Machine

/-! # The verdict of a record, its causes and its primary cause (section 6.4)

A test of a record gives a level in some used phase (`CauseGiven`); the level of a cause and the level of the whole record
are the worst given (R114). The primary cause is found by two searches for a first element (R115). -/

namespace Sys2Proof.Machine

/-! ## The worst of several results -/

theorem worst_eq_defect_iff (xs : List Level) : xs.foldl Level.worse .clear = .defect ↔ Level.defect ∈ xs := by
  simp [foldl_worse_eq_defect_iff]

theorem worst_eq_marginal_iff (xs : List Level) :
    xs.foldl Level.worse .clear = .marginal ↔ Level.defect ∉ xs ∧ Level.marginal ∈ xs := by
  simp [foldl_worse_eq_marginal_iff]

/-- A worst result other than clear is one of the results. -/
theorem worst_mem {xs : List Level} {v : Level} (hv : v ≠ .clear) (h : xs.foldl Level.worse .clear = v) : v ∈ xs := by
  cases v with
  | clear => exact absurd rfl hv
  | marginal => exact ((worst_eq_marginal_iff xs).mp h).2
  | defect => exact (worst_eq_defect_iff xs).mp h

/-! ## The levels of a record -/

/-- The test of a cause gives the level in a used phase of the rule. -/
def CauseGiven (r : RuleEntry) (w : Window) (k : Cause) (v : Level) : Prop :=
  ∃ p : Phase, p ∈ usedPhases r ∧ testOf r k (featuresOf w p) = v

/-- The level of a cause in a record: `causeLevel` of the features of the rule's used phases. -/
def levelIn (r : RuleEntry) (w : Window) (k : Cause) : Level := causeLevel r ((usedPhases r).map (featuresOf w)) k

/-- The worst level of the four causes, which decides the verdict. -/
def worstLevel (r : RuleEntry) (w : Window) : Level := (causeOrder.map (levelIn r w)).foldl Level.worse .clear

theorem mem_causeOrder (k : Cause) : k ∈ causeOrder := by cases k <;> decide

section Levels
variable (r : RuleEntry) (w : Window)

theorem mem_results_iff (k : Cause) (v : Level) :
    v ∈ ((usedPhases r).map (featuresOf w)).map (testOf r k) ↔ CauseGiven r w k v := by
  simp [CauseGiven]

theorem levelIn_eq_defect_iff (k : Cause) : levelIn r w k = .defect ↔ CauseGiven r w k .defect :=
  (worst_eq_defect_iff _).trans (mem_results_iff r w k .defect)

theorem levelIn_eq_marginal_iff (k : Cause) :
    levelIn r w k = .marginal ↔ ¬ CauseGiven r w k .defect ∧ CauseGiven r w k .marginal := by
  rw [levelIn, causeLevel, worst_eq_marginal_iff, mem_results_iff, mem_results_iff]

theorem mem_levels_iff (v : Level) : v ∈ causeOrder.map (levelIn r w) ↔ ∃ k, levelIn r w k = v := by
  simp [mem_causeOrder]

theorem worstLevel_eq_defect_iff : worstLevel r w = .defect ↔ ∃ k, CauseGiven r w k .defect := by
  rw [worstLevel, worst_eq_defect_iff, mem_levels_iff]
  exact exists_congr (levelIn_eq_defect_iff r w)

theorem worstLevel_eq_marginal_iff :
    worstLevel r w = .marginal ↔ (¬ ∃ k, CauseGiven r w k .defect) ∧ ∃ k, CauseGiven r w k .marginal := by
  rw [worstLevel, worst_eq_marginal_iff, mem_levels_iff, mem_levels_iff]
  simp only [levelIn_eq_defect_iff, levelIn_eq_marginal_iff]
  refine and_congr_right fun hdefect => exists_congr fun k => and_iff_right ?_
  exact fun hk => hdefect ⟨k, hk⟩

theorem worstLevel_eq_clear_iff :
    worstLevel r w = .clear ↔ (¬ ∃ k, CauseGiven r w k .defect) ∧ ¬ ∃ k, CauseGiven r w k .marginal := by
  have hdefect := worstLevel_eq_defect_iff r w
  have hmarginal := worstLevel_eq_marginal_iff r w
  cases h : worstLevel r w <;> simp_all

end Levels

/-! ## The primary cause (R115) -/

/-- A search finds the first element with the property where the list has one. -/
theorem find?_first {α : Type} {P : α → Prop} [DecidablePred P] {xs : List α} (h : ∃ x ∈ xs, P x) :
    ∃ (x : α) (before after : List α), xs.find? (fun y => decide (P y)) = some x ∧ xs = before ++ x :: after ∧ P x ∧
      ∀ y ∈ before, ¬ P y := by
  have hsome : (xs.find? (fun y => decide (P y))).isSome := by simpa using h
  obtain ⟨x, hx⟩ := Option.isSome_iff_exists.mp hsome
  obtain ⟨hPx, before, after, hxs, hbefore⟩ := List.find?_eq_some_iff_append.mp hx
  exact ⟨x, before, after, hx, hxs, by simpa using hPx, by simpa using hbefore⟩

theorem primaryAt_of_found {r : RuleEntry} {w : Window} {v : Level} {k : Cause} {p : Phase}
    (hk : causeOrder.find? (fun x => decide (levelIn r w x = v)) = some k)
    (hp : (usedPhases r).find? (fun q => decide (testOf r k (featuresOf w q) = v)) = some p) :
    primaryAt r ((usedPhases r).map (featuresOf w)) v = some (k, p) := by
  have hfeature : ((usedPhases r).map (featuresOf w)).find? (fun f => decide (testOf r k f = v)) = some (featuresOf w p) := by
    rw [List.find?_map]; exact congrArg (Option.map (featuresOf w)) hp
  unfold levelIn at hk
  rw [primaryAt, hk]
  exact congrArg (Option.map fun f : Features => (k, f.phase)) hfeature

/-- At the worst level of a record, clear excepted, the primary cause is the first cause that has that level, with the first
used phase whose test gives it. -/
theorem primaryAt_worstLevel {r : RuleEntry} {w : Window} {v : Level} (hv : v ≠ .clear) (hworst : worstLevel r w = v) :
    ∃ (k : Cause) (p : Phase) (before after : List Cause) (first rest : List Phase),
      primaryAt r ((usedPhases r).map (featuresOf w)) v = some (k, p) ∧ causeOrder = before ++ k :: after ∧
      levelIn r w k = v ∧ (∀ x ∈ before, levelIn r w x ≠ v) ∧ usedPhases r = first ++ p :: rest ∧
      testOf r k (featuresOf w p) = v ∧ ∀ q ∈ first, testOf r k (featuresOf w q) ≠ v := by
  have hcause : ∃ k ∈ causeOrder, levelIn r w k = v := List.mem_map.mp (worst_mem hv hworst)
  obtain ⟨k, before, after, hk, horder, hlevel, hbefore⟩ := find?_first hcause
  have hphase : CauseGiven r w k v := (mem_results_iff r w k v).mp (worst_mem hv hlevel)
  obtain ⟨p, first, rest, hp, hphases, htest, hfirst⟩ := find?_first hphase
  exact ⟨k, p, before, after, first, rest, primaryAt_of_found hk hp, horder, hlevel, hbefore, hphases, htest, hfirst⟩

/-! ## The record judged -/

/-- The verdict that the worst level of a tested record gives. -/
def Level.verdict : Level → Verdict
  | .clear => .pass
  | .marginal => .marginal
  | .defect => .defect

@[simp] theorem Level.verdict_eq_defect_iff (v : Level) : v.verdict = .defect ↔ v = .defect := by cases v <;> decide

@[simp] theorem Level.verdict_eq_marginal_iff (v : Level) : v.verdict = .marginal ↔ v = .marginal := by cases v <;> decide

@[simp] theorem Level.verdict_eq_pass_iff (v : Level) : v.verdict = .pass ↔ v = .clear := by cases v <;> decide

theorem judge_of_loss (r : RuleEntry) (w : Window) (hloss : w.loss = true) :
    judge r w = { verdict := .unjudged, causes := .nothing, primary := none, features := [] } := if_pos hloss

/-- A record without its loss mark, by its worst level. -/
theorem judge_of_no_loss (r : RuleEntry) (w : Window) (hloss : w.loss = false) :
    judge r w =
      { verdict := (worstLevel r w).verdict,
        causes := { bridge := levelIn r w .bridge, nonWetting := levelIn r w .nonWetting,
                    insufficient := levelIn r w .insufficient, excess := levelIn r w .excess },
        primary := if worstLevel r w = .clear then none
          else primaryAt r ((usedPhases r).map (featuresOf w)) (worstLevel r w),
        features := (usedPhases r).map (featuresOf w) } := by
  have htested : judge r w = judgeTested r w := if_neg (by simp [hloss])
  rw [htested, judgeTested]
  change (match worstLevel r w with | .defect => _ | .marginal => _ | .clear => _) = _
  cases worstLevel r w <;> rfl

/-- Settles O43: with its loss mark a record is Unjudged; without it the verdict and the causes are the worst levels that
the tests give, and the primary cause is the first at the verdict's level. -/
theorem verdictOfTests : Obligations.VerdictOfTests := by
  intro r w
  refine ⟨judge_of_loss r w, fun hloss => ?_⟩
  rw [judge_of_no_loss r w hloss]
  refine ⟨?defect, ?marginal, ?pass, ?causes, rfl, ?passPrimary, ?primary⟩
  case defect => exact (Level.verdict_eq_defect_iff _).trans (worstLevel_eq_defect_iff r w)
  case marginal => exact (Level.verdict_eq_marginal_iff _).trans (worstLevel_eq_marginal_iff r w)
  case pass => exact (Level.verdict_eq_pass_iff _).trans (worstLevel_eq_clear_iff r w)
  case causes =>
    intro k
    have hk := And.intro (levelIn_eq_defect_iff r w k) (levelIn_eq_marginal_iff r w k)
    cases k <;> exact hk
  case passPrimary => exact fun hpass => if_pos ((Level.verdict_eq_pass_iff _).mp hpass)
  case primary =>
    intro v hv
    have hclear : v ≠ .clear := by rintro rfl; simp at hv
    have hworst : worstLevel r w = v := by
      rcases hv with ⟨rfl, hverdict⟩ | ⟨rfl, hverdict⟩
      · exact (Level.verdict_eq_defect_iff _).mp hverdict
      · exact (Level.verdict_eq_marginal_iff _).mp hverdict
    obtain ⟨k, p, before, after, first, rest, hprimary, horder, hlevel, hbefore, hphases⟩ :=
      primaryAt_worstLevel hclear hworst
    subst hworst
    refine ⟨k, p, before, after, first, rest, (if_neg hclear).trans hprimary, horder, ?level, fun x hx => ?before, hphases⟩
    case level => cases k <;> exact hlevel
    case before => have hx' := hbefore x hx; cases x <;> exact hx'

end Sys2Proof.Machine

/-! # The decision of a panel and its retirement (sections 7.5 and 7.7)

One equation per branch of deciding (R139) and of retiring (R142); what the decision statement says of the context, the
conditions, the retire order and the panel report queue is then read off those equations. -/

namespace Sys2Proof.Machine

/-! ## The context of a number -/

theorem Lane.num_of_ctx {L : Lane} {n : Fin 4} {c : Context} (hc : L.ctx n = some c) : c.num = n := by
  simpa using List.find?_some hc

/-- A change that keeps the number changes the context found under it; of two that share a number the first stays first. -/
theorem Lane.ctx_modCtx (L : Lane) (n : Fin 4) (f : Context → Context) (hnum : ∀ c, (f c).num = c.num) :
    (L.modCtx n f).ctx n = (L.ctx n).map f := by
  have hsame : (fun c => decide (c.num = n)) ∘ (fun c => if c.num = n then f c else c) =
      fun c : Context => decide (c.num = n) := by
    funext c
    by_cases h : c.num = n <;> simp [h, hnum]
  simp only [Lane.ctx, Lane.modCtx, List.find?_map, hsame]
  exact Option.map_congr fun c hc => if_pos (Lane.num_of_ctx hc)

theorem Device.ctx_modCtx {d : Device} {l : LaneId} {n : Fin 4} {c : Context} (hc : (d.lane l).ctx n = some c)
    (f : Context → Context) (hnum : ∀ c, (f c).num = c.num) : ((d.modCtx l n f).lane l).ctx n = some (f c) := by
  rw [Device.modCtx, Device.lane_modLane, Lane.ctx_modCtx _ _ _ hnum, hc, Option.map_some]

/-! ## Retirement (R142, R143) -/

theorem Device.retireNow_of_ctx {d : Device} {l : LaneId} {n : Fin 4} {c : Context} (hc : (d.lane l).ctx n = some c) :
    d.retireNow l n =
      (d.modLane l (fun L => { L with live := L.live.filter (fun x => decide (x.num ≠ n)) })).modTrunk
        (fun t => { t with panelReports := t.panelReports ++ [{ lane := l, ctx := c, jointCount := d.jointCount c }] }) := by
  simp only [Device.retireNow, hc]

theorem Device.retireNow_panelReports {d : Device} {l : LaneId} {n : Fin 4} {c : Context}
    (hc : (d.lane l).ctx n = some c) : (d.retireNow l n).trunk.panelReports =
      d.trunk.panelReports ++ [{ lane := l, ctx := c, jointCount := d.jointCount c }] := by
  rw [d.retireNow_of_ctx hc]; rfl

theorem Device.retireNow_ctx (d : Device) (l : LaneId) (n : Fin 4) : ((d.retireNow l n).lane l).ctx n = none := by
  cases hc : (d.lane l).ctx n with
  | none => simp only [Device.retireNow, hc]
  | some c =>
    rw [d.retireNow_of_ctx hc, Device.modTrunk_lane, Device.lane_modLane]
    simp [Lane.ctx]

/-- With no context ahead of it and room for its report a context retires at once. -/
theorem Device.retire_of_room {d : Device} (l : LaneId) (n : Fin 4) (hfirst : d.retireOrder = [])
    (hroom : d.trunk.panelReports.length < 8) : d.retire l n = d.retireNow l n := by
  simp [Device.retire, hfirst, hroom]

/-- Behind another context, or with the report queue full, it waits in the retire order. -/
theorem Device.retire_of_wait {d : Device} (l : LaneId) (n : Fin 4)
    (hwait : d.retireOrder ≠ [] ∨ 8 ≤ d.trunk.panelReports.length) :
    d.retire l n =
      { d.modCtx l n (fun c => { c with state := .retiring }) with retireOrder := d.retireOrder ++ [(l, n)] } := by
  have hnot : ¬ (d.retireOrder.isEmpty && decide (d.trunk.panelReports.length < 8)) = true := by
    simpa [imp_iff_not_or] using hwait
  exact if_neg hnot

/-! ## The decision (R139, R140) -/

/-- The decision that a context's counts and its recipe's marginal limit give (R140). -/
def Device.decision (d : Device) (c : Context) : Decision := decisionOf c (d.slot c.slot).hdr.marginalLimit.toNat

/-- What every decision raises: PanelRejected for a Reject, nothing for the others (R140). -/
def Device.noteDecision (d : Device) (l : LaneId) (dec : Decision) : Device :=
  if dec = .reject then d.raiseLane l .panelRejected else d

theorem Device.noteDecision_reject (d : Device) (l : LaneId) :
    d.noteDecision l .reject = d.raiseLane l .panelRejected := rfl

theorem Device.noteDecision_of_ne (d : Device) (l : LaneId) {dec : Decision} (h : dec ≠ .reject) :
    d.noteDecision l dec = d := if_neg h

@[simp] theorem Device.noteDecision_lane (d : Device) (l : LaneId) (dec : Decision) (m : LaneId) :
    (d.noteDecision l dec).lane m = d.lane m := d.raiseLane_ite_lane _ l m _

@[simp] theorem Device.noteDecision_retireOrder (d : Device) (l : LaneId) (dec : Decision) :
    (d.noteDecision l dec).retireOrder = d.retireOrder := by unfold Device.noteDecision; split <;> simp

@[simp] theorem Device.noteDecision_trunk (d : Device) (l : LaneId) (dec : Decision) :
    (d.noteDecision l dec).trunk = d.trunk := by unfold Device.noteDecision; split <;> simp

/-- What a decision raises does not depend on the contexts. -/
theorem Device.noteDecision_modCtx_cond (d : Device) (l : LaneId) (n : Fin 4) (f : Context → Context) (dec : Decision) :
    ((d.modCtx l n f).noteDecision l dec).cond = (d.noteDecision l dec).cond := by
  unfold Device.noteDecision; split <;> rfl

theorem Device.tryDecide_of_settling {d : Device} {l : LaneId} {n : Fin 4} {c : Context}
    (hc : (d.lane l).ctx n = some c) (hall : c.accounted = d.jointCount c) (hs : c.state = .settling) :
    d.tryDecide l n =
      (d.modCtx l n (fun x => { x with decision := some (d.decision c), state := .decided })).noteDecision l
        (d.decision c) := by
  simp only [Device.tryDecide, hc, hs, if_pos hall]; rfl

theorem Device.tryDecide_of_passed {d : Device} {l : LaneId} {n : Fin 4} {c : Context}
    (hc : (d.lane l).ctx n = some c) (hall : c.accounted = d.jointCount c) (hs : c.state = .passed) :
    d.tryDecide l n =
      ((d.modCtx l n (fun x => { x with decision := some (d.decision c) })).noteDecision l (d.decision c)).retire l n := by
  simp only [Device.tryDecide, hc, hs, if_pos hall]; rfl

theorem Device.tryDecide_of_not_accounted {d : Device} {l : LaneId} {n : Fin 4} {c : Context}
    (hc : (d.lane l).ctx n = some c) (hall : c.accounted ≠ d.jointCount c) : d.tryDecide l n = d := by
  simp only [Device.tryDecide, hc, if_neg hall]

theorem Device.tryDecide_of_other_state {d : Device} {l : LaneId} {n : Fin 4} {c : Context}
    (hc : (d.lane l).ctx n = some c) (hs : c.state ≠ .settling ∧ c.state ≠ .passed) : d.tryDecide l n = d := by
  obtain ⟨hsettling, hpassed⟩ := hs
  simp only [Device.tryDecide, hc]
  split
  · cases hstate : c.state with
    | settling => exact absurd hstate hsettling
    | passed => exact absurd hstate hpassed
    | waiting | scanning | decided | retiring => rfl
  · rfl

/-- The conditions after a decision are those that the decision alone raises, whatever becomes of the context. -/
theorem Device.tryDecide_cond {d : Device} {l : LaneId} {n : Fin 4} {c : Context} (hc : (d.lane l).ctx n = some c)
    (hall : c.accounted = d.jointCount c) (hs : c.state = .settling ∨ c.state = .passed) :
    (d.tryDecide l n).cond = (d.noteDecision l (d.decision c)).cond := by
  rcases hs with hs | hs
  · rw [d.tryDecide_of_settling hc hall hs, Device.noteDecision_modCtx_cond]
  · rw [d.tryDecide_of_passed hc hall hs, Device.retire_cond, Device.noteDecision_modCtx_cond]

/-- Once its decision is written a context stands otherwise as it was: so it enters retirement. -/
theorem Device.ctx_of_decision_written {d : Device} {l : LaneId} {n : Fin 4} {c : Context} (dec : Decision)
    (hc : (d.lane l).ctx n = some c) :
    (((d.modCtx l n (fun x => { x with decision := some dec })).noteDecision l dec).lane l).ctx n =
      some { c with decision := some dec } := by
  rw [Device.noteDecision_lane]
  exact d.ctx_modCtx hc _ (fun _ => rfl)

/-- Settles O44, by the two states in which a context is decided and, for a Passed one, by whether it retires at once. -/
theorem decisionOfCounts : Obligations.DecisionOfCounts := by
  intro d l n c hc
  refine ⟨fun hall hs => ?conditions, fun hall hs => ?settling, fun hall hs hwait => ?waits,
    fun hall hs hfirst hroom => ?retires, fun hkept => ?stays⟩
  case conditions =>
    rw [d.tryDecide_cond hc hall hs]
    refine ⟨fun (hreject : d.decision c = .reject) => ?_, fun (hother : d.decision c ≠ .reject) => ?_⟩
    · rw [hreject, d.noteDecision_reject, Device.raiseLane, Device.raise_raised, if_pos rfl]
    · rw [d.noteDecision_of_ne l hother]
  case settling =>
    rw [d.tryDecide_of_settling hc hall hs, Device.noteDecision_lane]
    exact d.ctx_modCtx hc _ (fun _ => rfl)
  case waits =>
    rw [d.tryDecide_of_passed hc hall hs, Device.retire_of_wait l n (by simpa using hwait)]
    exact ⟨Device.ctx_modCtx (d.ctx_of_decision_written _ hc) _ (fun _ => rfl), by simp⟩
  case retires =>
    rw [d.tryDecide_of_passed hc hall hs, Device.retire_of_room l n (by simpa using hfirst) (by simpa using hroom)]
    refine ⟨Device.retireNow_ctx _ l n, ?_⟩
    rw [Device.retireNow_panelReports (d.ctx_of_decision_written _ hc), Device.noteDecision_trunk, Device.modCtx_trunk]
    exact ⟨_, rfl, rfl, rfl⟩
  case stays =>
    rcases hkept with hall | hs
    · exact d.tryDecide_of_not_accounted hc hall
    · exact d.tryDecide_of_other_state hc hs

end Sys2Proof.Machine

/-! # Gate arrivals (sections 8.2 and 8.3)

The effective code by the cases of R151. Then an arrival as two moves: the oldest entry is taken from the queue with the
divert code set, and the linked context is acted on by its state (R141, R150, R152), which leaves the gate unit as it is. -/

namespace Sys2Proof.Machine

/-! ## The effective code (R151) -/

theorem Lane.effectiveCode_of_reviewForced {L : Lane} (e : GateEntry) (h : L.gate.forced = .reviewAll) :
    L.effectiveCode e = .review := by simp only [Lane.effectiveCode, h]

theorem Lane.effectiveCode_of_rejectForced {L : Lane} (e : GateEntry) (h : L.gate.forced = .rejectAll) :
    L.effectiveCode e = .reject := by simp only [Lane.effectiveCode, h]

/-- With no force the gate mode gives the code, and in Follow the entry's context does where it is decided. -/
theorem Lane.effectiveCode_of_unforced {L : Lane} (e : GateEntry) (h : L.gate.forced = .none) :
    L.effectiveCode e =
      match L.gate.mode with
      | .acceptAll => .accept
      | .reviewAll => .review
      | .rejectAll => .reject
      | .follow => ((L.entryCtx e).bind Context.decidedAs).getD .review := by
  cases hm : L.gate.mode <;> simp only [Lane.effectiveCode, h, hm]

theorem Lane.entryCtx_of_fixedReview (L : Lane) {e : GateEntry} (h : e.kind = .fixedReview) : L.entryCtx e = none := by
  simp only [Lane.entryCtx, h]

theorem Lane.entryCtx_of_linked (L : Lane) {e : GateEntry} {n : Fin 4} (h : e.kind = .linked n) :
    L.entryCtx e = L.ctx n := by
  simp only [Lane.entryCtx, h]

theorem Context.decidedAs_of_decided {c : Context} (h : c.state = .decided) : c.decidedAs = c.decision := if_pos h

theorem Context.decidedAs_of_undecided {c : Context} (h : c.state ≠ .decided) : c.decidedAs = none := if_neg h

theorem Lane.effectiveCode_of_fixedReview {L : Lane} {e : GateEntry} (hf : L.gate.forced = .none)
    (hm : L.gate.mode = .follow) (hk : e.kind = .fixedReview) : L.effectiveCode e = .review := by
  rw [L.effectiveCode_of_unforced e hf, hm, L.entryCtx_of_fixedReview hk]; rfl

theorem Lane.effectiveCode_of_linked {L : Lane} {e : GateEntry} {n : Fin 4} {c : Context} (hf : L.gate.forced = .none)
    (hm : L.gate.mode = .follow) (hk : e.kind = .linked n) (hc : L.ctx n = some c) :
    L.effectiveCode e = c.decidedAs.getD .review := by
  rw [L.effectiveCode_of_unforced e hf, hm, L.entryCtx_of_linked hk, hc]; rfl

/-! ## The pins (R153, Table 8-1) -/

theorem Gate.divert0_eq (g : Gate) : g.divert0 = decide (g.divert = .accept) :=
  Bool.eq_iff_iff.mpr (g.divert0_iff.trans decide_eq_true_iff.symm)

theorem Gate.divert1_eq (g : Gate) : g.divert1 = decide (g.divert = .reject) :=
  Bool.eq_iff_iff.mpr (g.divert1_iff.trans decide_eq_true_iff.symm)

/-! ## What leaves the lane's state and the gate unit as they are -/

@[simp] theorem Device.modCtx_lane_gate (d : Device) (l : LaneId) (n : Fin 4) (f : Context → Context) :
    ((d.modCtx l n f).lane l).gate = (d.lane l).gate := by
  rw [Device.modCtx, Device.lane_modLane, Lane.modCtx_gate]

@[simp] theorem Device.modCtx_lane_mode (d : Device) (l : LaneId) (n : Fin 4) (f : Context → Context) :
    ((d.modCtx l n f).lane l).mode = (d.lane l).mode := by
  rw [Device.modCtx, Device.lane_modLane, Lane.modCtx_mode]

@[simp] theorem Device.retireNow_lane_gate (d : Device) (l : LaneId) (n : Fin 4) :
    ((d.retireNow l n).lane l).gate = (d.lane l).gate := by
  cases hc : (d.lane l).ctx n with
  | none => simp only [Device.retireNow, hc]
  | some c => rw [d.retireNow_of_ctx hc, Device.modTrunk_lane, Device.lane_modLane]

@[simp] theorem Device.retire_lane_gate (d : Device) (l : LaneId) (n : Fin 4) :
    ((d.retire l n).lane l).gate = (d.lane l).gate := by
  unfold Device.retire
  split
  · exact d.retireNow_lane_gate l n
  · exact d.modCtx_lane_gate l n _

@[simp] theorem Device.gateAct_lane_gate (d : Device) (l : LaneId) (c : Context) (code : Decision) :
    ((d.gateAct l c code).lane l).gate = (d.lane l).gate := by
  unfold Device.gateAct
  cases c.state with
  | decided => exact (Device.retire_lane_gate _ l c.num).trans (d.modCtx_lane_gate l c.num _)
  | settling | waiting | scanning => exact d.modCtx_lane_gate l c.num _
  | passed | retiring => rfl

/-! ## The oldest entry taken -/

/-- The first move of a gate arrival: `rest` stays in the queue and the divert code is `code` (R150). -/
def Device.takeGateEntry (d : Device) (l : LaneId) (rest : List GateEntry) (code : Decision) : Device :=
  d.setLane l { d.lane l with gate := { (d.lane l).gate with queue := rest, divert := code } }

section TakeGateEntry

variable (d : Device) (l : LaneId) (rest : List GateEntry) (code : Decision)

@[simp] theorem Device.takeGateEntry_gate :
    ((d.takeGateEntry l rest code).lane l).gate = { (d.lane l).gate with queue := rest, divert := code } := by
  rw [Device.takeGateEntry, Device.lane_setLane]

@[simp] theorem Device.takeGateEntry_mode : ((d.takeGateEntry l rest code).lane l).mode = (d.lane l).mode := by
  rw [Device.takeGateEntry, Device.lane_setLane]

@[simp] theorem Device.takeGateEntry_ctx (n : Fin 4) :
    ((d.takeGateEntry l rest code).lane l).ctx n = (d.lane l).ctx n := by
  rw [Device.takeGateEntry, Device.lane_setLane]; rfl

@[simp] theorem Device.takeGateEntry_retireOrder : (d.takeGateEntry l rest code).retireOrder = d.retireOrder := rfl
@[simp] theorem Device.takeGateEntry_trunk : (d.takeGateEntry l rest code).trunk = d.trunk := rfl

end TakeGateEntry

/-- An arrival takes the oldest entry and then acts on its context, if it has one (R150). -/
theorem Device.gateArrival_of_queue {d : Device} {l : LaneId} {e : GateEntry} {rest : List GateEntry}
    (hq : (d.lane l).gate.queue = e :: rest) :
    d.gateArrival l =
      ((d.lane l).entryCtx e).elim (d.takeGateEntry l rest ((d.lane l).effectiveCode e)) (fun c =>
        (d.takeGateEntry l rest ((d.lane l).effectiveCode e)).gateAct l c ((d.lane l).effectiveCode e)) := by
  simp only [Device.gateArrival, hq]
  cases (d.lane l).entryCtx e <;> rfl

theorem Device.gateArrival_of_linked {d : Device} {l : LaneId} {e : GateEntry} {rest : List GateEntry} {n : Fin 4}
    {c : Context} (hq : (d.lane l).gate.queue = e :: rest) (hk : e.kind = .linked n) (hc : (d.lane l).ctx n = some c) :
    d.gateArrival l =
      (d.takeGateEntry l rest ((d.lane l).effectiveCode e)).gateAct l c ((d.lane l).effectiveCode e) := by
  rw [Device.gateArrival_of_queue hq, Lane.entryCtx_of_linked _ hk, hc]; rfl

/-- Whatever becomes of the context, the gate unit loses its oldest entry and shows the effective code. -/
theorem Device.gateArrival_gate {d : Device} {l : LaneId} {e : GateEntry} {rest : List GateEntry}
    (hq : (d.lane l).gate.queue = e :: rest) :
    ((d.gateArrival l).lane l).gate =
      { (d.lane l).gate with queue := rest, divert := (d.lane l).effectiveCode e } := by
  rw [Device.gateArrival_of_queue hq]
  cases (d.lane l).entryCtx e with
  | none => exact d.takeGateEntry_gate l rest _
  | some c => exact (Device.gateAct_lane_gate _ l c _).trans (d.takeGateEntry_gate l rest _)

/-! ## The linked context acted on (R141, R152) -/

section GateAct

variable {d : Device} {l : LaneId} {n : Fin 4} {c : Context} (code : Decision)

theorem Device.gateAct_of_settling (hc : (d.lane l).ctx n = some c) (hs : c.state = .settling) :
    d.gateAct l c code =
      (d.modCtx l n (fun x => { x with gateAction := .applied code, late := true, state := .passed })).raiseLane l
        .lateDecision := by
  simp only [Device.gateAct, hs, Lane.num_of_ctx hc]

theorem Device.gateAct_of_unsettled (hc : (d.lane l).ctx n = some c) (hs : c.state = .waiting ∨ c.state = .scanning) :
    d.gateAct l c code =
      (d.modCtx l n (fun x => { x with gateAction := .applied code, late := true })).raiseLane l .lateDecision := by
  rcases hs with hs | hs <;> simp only [Device.gateAct, hs, Lane.num_of_ctx hc]

theorem Device.gateAct_of_decided (hc : (d.lane l).ctx n = some c) (hs : c.state = .decided) :
    d.gateAct l c code = (d.modCtx l n (fun x => { x with gateAction := .applied code })).retire l n := by
  simp only [Device.gateAct, hs, Lane.num_of_ctx hc]

end GateAct

theorem Device.raiseLane_raised_same (d : Device) (l : LaneId) (k : LaneCond) :
    ((d.raiseLane l k).cond.get (.lane l)).raised = (d.cond.get (.lane l)).raised ||| k.bit := by
  rw [Device.raiseLane, Device.raise_raised, if_pos rfl]

/-- Once the code is written a context stands otherwise as it was: so a Decided one enters retirement. -/
theorem Device.ctx_of_code_written {d : Device} {l : LaneId} {n : Fin 4} {c : Context} (code : Decision)
    (hc : (d.lane l).ctx n = some c) :
    ((d.modCtx l n (fun x => { x with gateAction := .applied code })).lane l).ctx n =
      some { c with gateAction := .applied code } := d.ctx_modCtx hc _ (fun _ => rfl)

/-- A context marked and noted as late has its mark, and LateDecision stands. -/
theorem Device.ctx_and_raised_of_late {d : Device} {l : LaneId} {n : Fin 4} {c : Context}
    (hc : (d.lane l).ctx n = some c) (f : Context → Context) (hnum : ∀ x, (f x).num = x.num) :
    (((d.modCtx l n f).raiseLane l .lateDecision).lane l).ctx n = some (f c) ∧
    (((d.modCtx l n f).raiseLane l .lateDecision).cond.get (.lane l)).raised =
      (d.cond.get (.lane l)).raised ||| LaneCond.lateDecision.bit :=
  ⟨d.ctx_modCtx hc f hnum, (d.modCtx l n f).raiseLane_raised_same l .lateDecision⟩

/-! ## The statement -/

/-- The codes of R151, in its order. -/
theorem Lane.effectiveCode_cases (L : Lane) (e : GateEntry) :
    (L.gate.forced = .reviewAll → L.effectiveCode e = .review) ∧
    (L.gate.forced = .rejectAll → L.effectiveCode e = .reject) ∧
    (L.gate.forced = .none → L.gate.mode = .acceptAll → L.effectiveCode e = .accept) ∧
    (L.gate.forced = .none → L.gate.mode = .reviewAll → L.effectiveCode e = .review) ∧
    (L.gate.forced = .none → L.gate.mode = .rejectAll → L.effectiveCode e = .reject) ∧
    (L.gate.forced = .none → L.gate.mode = .follow → e.kind = .fixedReview → L.effectiveCode e = .review) ∧
    (∀ (n : Fin 4) (c : Context), L.gate.forced = .none → L.gate.mode = .follow → e.kind = .linked n →
      L.ctx n = some c →
      (∀ x : Decision, c.state = .decided → c.decision = some x → L.effectiveCode e = x) ∧
      (c.state ≠ .decided → L.effectiveCode e = .review)) := by
  refine ⟨L.effectiveCode_of_reviewForced e, L.effectiveCode_of_rejectForced e,
    fun hf hm => ?acceptAll, fun hf hm => ?reviewAll, fun hf hm => ?rejectAll, Lane.effectiveCode_of_fixedReview,
    fun n c hf hm hk hc => ⟨fun x hs hx => ?decided, fun hs => ?undecided⟩⟩
  case acceptAll | reviewAll | rejectAll => rw [L.effectiveCode_of_unforced e hf, hm]
  case decided => rw [Lane.effectiveCode_of_linked hf hm hk hc, c.decidedAs_of_decided hs, hx]; rfl
  case undecided => rw [Lane.effectiveCode_of_linked hf hm hk hc, c.decidedAs_of_undecided hs]; rfl

/-- Settles O46, by the cases of R151 for the code and, for the arrival, by the state of the linked context and by whether
a Decided one retires at once. -/
theorem gateArrivalSetsCode : Obligations.GateArrivalSetsCode := by
  refine ⟨Lane.effectiveCode_cases, fun d l e rest hq => ?_⟩
  intro code t
  have hgate : (t.lane l).gate = { (d.lane l).gate with queue := rest, divert := code } := Device.gateArrival_gate hq
  refine ⟨hgate, by rw [Gate.divert0_eq, hgate], by rw [Gate.divert1_eq, hgate], by rw [hgate]; rfl, fun n c hk hc => ?_⟩
  have hacts : t = (d.takeGateEntry l rest code).gateAct l c code := Device.gateArrival_of_linked hq hk hc
  have hctx : ((d.takeGateEntry l rest code).lane l).ctx n = some c := by rw [Device.takeGateEntry_ctx, hc]
  rw [hacts]
  refine ⟨fun hs => ?settling, fun hs => ?unsettled, fun hs hwait => ?waits, fun hs hfirst hroom => ?retires⟩
  case settling =>
    rw [Device.gateAct_of_settling code hctx hs]
    exact Device.ctx_and_raised_of_late hctx _ (fun _ => rfl)
  case unsettled =>
    rw [Device.gateAct_of_unsettled code hctx hs]
    obtain ⟨hmarked, hraised⟩ := Device.ctx_and_raised_of_late hctx
      (fun x => { x with gateAction := .applied code, late := true }) (fun _ => rfl)
    exact ⟨hmarked, hraised, by simp, rfl, rfl⟩
  case waits =>
    rw [Device.gateAct_of_decided code hctx hs, Device.retire_of_wait l n (by simpa using hwait)]
    exact ⟨Device.ctx_modCtx (Device.ctx_of_code_written code hctx) _ (fun _ => rfl), by simp⟩
  case retires =>
    rw [Device.gateAct_of_decided code hctx hs, Device.retire_of_room l n (by simpa using hfirst)
      (by simpa using hroom)]
    refine ⟨Device.retireNow_ctx _ l n, ?_⟩
    rw [Device.retireNow_panelReports (Device.ctx_of_code_written code hctx), Device.modCtx_trunk,
      Device.takeGateEntry_trunk]
    exact ⟨_, rfl, rfl, rfl, rfl⟩

end Sys2Proof.Machine

/-! # Clear Conditions (chapter 10)

A clear is two writes of the condition unit: the named set loses its listed conditions of the snapshot, then the device set
takes ClearInhibited where a listed condition stays (R181). Each set after the two, then the order's three outcomes. -/

namespace Sys2Proof.Machine

/-! ## The two writes (R181, R182) -/

/-- What a clear adds to the device set: ClearInhibited where a listed condition was set and not in the snapshot (R181). -/
def CondSet.clearRaises (c : CondSet) (list : Word16) : Word16 :=
  if c.inhibits list then DeviceCond.clearInhibited.bit else 0

theorem CondSet.clearRaises_eq (c : CondSet) (list : Word16) :
    c.clearRaises list =
      if list &&& c.raised &&& ~~~(c.snapshot.getD 0) ≠ 0 then DeviceCond.clearInhibited.bit else 0 := by
  simp only [CondSet.clearRaises, CondSet.inhibits, decide_eq_true_eq]

/-- A list of conditions raised in a set (R177). -/
def CondSet.raise (c : CondSet) (list : Word16) : CondSet := { c with raised := c.raised ||| list }

theorem CondSet.raise_zero (c : CondSet) : c.raise 0 = c := by simp [CondSet.raise]
@[simp] theorem CondSet.raise_raised (c : CondSet) (list : Word16) : (c.raise list).raised = c.raised ||| list := rfl
@[simp] theorem CondSet.raise_mask (c : CondSet) (list : Word16) : (c.raise list).mask = c.mask := rfl
@[simp] theorem CondSet.raise_snapshot (c : CondSet) (list : Word16) : (c.raise list).snapshot = c.snapshot := rfl

@[simp] theorem CondSet.clearList_raised (c : CondSet) (list standing : Word16) :
    (c.clearList list standing).raised = (c.raised &&& ~~~(list &&& c.snapshot.getD 0)) ||| standing := rfl
@[simp] theorem CondSet.clearList_mask (c : CondSet) (list standing : Word16) :
    (c.clearList list standing).mask = c.mask := rfl
@[simp] theorem CondSet.clearList_snapshot (c : CondSet) (list standing : Word16) :
    (c.clearList list standing).snapshot = none := rfl

section Sets
variable (u : CondUnit) (i : SetId)

theorem CondUnit.get_mod (j : SetId) (f : CondSet → CondSet) :
    (u.mod i f).get j = if j = i then f (u.get j) else u.get j := by
  rw [CondUnit.mod, CondUnit.get_set]
  split_ifs with hj
  · rw [hj]
  · rfl

theorem CondUnit.mod_raise_zero : u.mod i (fun c => c.raise 0) = u := by
  rw [CondUnit.mod, CondSet.raise_zero, CondUnit.set_get]

variable (list standing : Word16)

theorem CondUnit.clearConds_eq :
    CondUnit.clearConds i list standing u =
      (u.mod i (CondSet.clearList list standing)).mod .device (fun c => c.raise ((u.get i).clearRaises list)) := by
  unfold CondUnit.clearConds CondSet.clearRaises
  cases (u.get i).inhibits list with
  | true => rfl
  | false => exact (CondUnit.mod_raise_zero _ _).symm

/-- The set named by a clear: the device set is also the one that ClearInhibited is raised in. -/
theorem CondUnit.get_clearConds_same :
    (CondUnit.clearConds i list standing u).get i =
      ((u.get i).clearList list standing).raise (if i = .device then (u.get i).clearRaises list else 0) := by
  rw [CondUnit.clearConds_eq, CondUnit.get_mod, CondUnit.get_mod, if_pos rfl]
  split_ifs
  · rfl
  · exact (CondSet.raise_zero _).symm

/-- A clear in a lane's or a port's set reaches the device set by ClearInhibited alone. -/
theorem CondUnit.get_clearConds_device (hi : i ≠ .device) :
    (CondUnit.clearConds i list standing u).get .device = (u.get .device).raise ((u.get i).clearRaises list) := by
  rw [CondUnit.clearConds_eq, CondUnit.get_mod, if_pos rfl, CondUnit.get_mod, if_neg hi.symm]

end Sets

/-! ## The order's outcomes (R181) -/

section Outcomes
variable (tag : Byte) (d : Device)

theorem takeClearConditions_of_no_set {set : Byte} (list : Word16) (hset : setOf set = none) :
    takeClearConditions tag set list d = d.reply tag 0x79 .refusedRange [] := by
  simp only [takeClearConditions, hset]

variable {i : SetId} {list : Word16}

/-- A summary, or a condition the set does not have, is refused. -/
theorem takeClearConditions_of_foreign (hlist : list &&& ~~~(ownBits i) ≠ 0) :
    takeClearConditions tag (setByte i) list d = d.reply tag 0x79 .refusedRange [] := by
  simp only [takeClearConditions, setOf_setByte, if_pos hlist]

theorem takeClearConditions_of_own (hlist : list &&& ~~~(ownBits i) = 0) :
    takeClearConditions tag (setByte i) list d =
      ({ d with cond := d.cond.settle (CondUnit.clearConds i list (d.standingOf i) d.cond) } : Device).reply
        tag 0x79 .done [] := by
  simp only [takeClearConditions, setOf_setByte, if_neg (not_not_intro hlist), Device.updateConds]

end Outcomes

theorem exec_clearConditions_taken (tag set : Byte) (list : Word16) (s : State) (ht : Taken s) :
    exec (.clearConditions tag set list) s = becomes s (takeClearConditions tag set list s.dev) :=
  event_arrive_taken s ht tag (.clearConditions set list) (takeClearConditions tag set list)

theorem exec_clearConditions_own (tag : Byte) {i : SetId} {list : Word16} (s : State) (ht : Taken s)
    (hlist : list &&& ~~~(ownBits i) = 0) :
    exec (.clearConditions tag (setByte i) list) s =
      answers s { s.dev with cond := s.dev.cond.settle (CondUnit.clearConds i list (s.dev.standingOf i) s.dev.cond) }
        tag 0x79 .done [] := by
  rw [exec_clearConditions_taken tag _ list s ht, takeClearConditions_of_own tag s.dev hlist]
  rfl

/-- Settles O56, by the three outcomes: no set, a condition that is not the set's own, and the clear as its two writes, whose
sets keep their conditions through the notices queued at the end of the order. -/
theorem clearConditionsAnswered : Obligations.ClearConditionsAnswered := by
  intro tag i list s ht c snap inhibited
  have hinhibited : inhibited = c.clearRaises list := (c.clearRaises_eq list).symm
  refine ⟨fun b hb => ?noSet, fun hforeign => ?foreign, fun hown => ⟨?whole, ?parts⟩⟩
  case noSet =>
    rw [exec_clearConditions_taken tag b list s ht, takeClearConditions_of_no_set tag s.dev list (setOf_above b hb)]
    rfl
  case foreign =>
    rw [exec_clearConditions_taken tag _ list s ht, takeClearConditions_of_foreign tag s.dev hforeign]
    rfl
  case whole =>
    intro again cleared device new
    have hagain : again = s.dev.standingOf i := by cases i <;> rfl
    have hcleared : cleared = s.dev.cond.mod i (CondSet.clearList list (s.dev.standingOf i)) := by
      rw [← hagain]
      rfl
    have hnew : new = CondUnit.clearConds i list (s.dev.standingOf i) s.dev.cond := by
      rw [CondUnit.clearConds_eq, ← hcleared, ← hinhibited]
      rfl
    rw [exec_clearConditions_own tag s ht hown, hnew]
  case parts =>
    refine ⟨_, exec_clearConditions_own tag s ht hown, ?_⟩
    have hsame := s.dev.cond.get_clearConds_same i list (s.dev.standingOf i)
    refine ⟨?raised, fun hi => ?inDevice, ?snapshot, ?mask, Device.settleStall_trunk_replies _,
      Device.settleStall_lanes _, Device.settleStall_slots _⟩
    case raised => simp [CondUnit.settle_raised, hsame, hinhibited, c, snap]
    case inDevice =>
      simp [CondUnit.settle_raised, s.dev.cond.get_clearConds_device i list (s.dev.standingOf i) hi, hinhibited, c]
    case snapshot => simp [CondUnit.settle_snapshot, hsame]
    case mask => simp [CondUnit.settle_mask, hsame, c]

end Sys2Proof.Machine

/-! # What every operation of the part keeps

`Keeps d e` says of a change from `d` to `e` that each of the properties of section "Properties every step keeps" of
Safety.lean which held of `d` holds of `e`, the reply queue's apart. Changes compose (`Keeps.trans`), so each operation of
the model has one lemma, put together from those of the operations it calls. -/

namespace Sys2Proof.Machine

/-! ## Lanes -/

/-- A lane names a slot: as its active or pending recipe, or as the recipe of a live context (R24). -/
def Lane.Names (L : Lane) (i : Fin 4) : Prop :=
  L.active = some i ∨ L.pendingRecipe = some i ∨ ∃ c ∈ L.live, c.slot = i

theorem Device.ctxCount_pos_iff (d : Device) (l : LaneId) (i : Fin 4) :
    0 < d.ctxCount l i ↔ ∃ c ∈ (d.lane l).live, c.slot = i := by
  simp [Device.ctxCount, List.length_pos_iff_exists_mem]

theorem Device.referenced_iff (d : Device) (i : Fin 4) : d.referenced i = true ↔ ∃ l, (d.lane l).Names i := by
  simp only [Lane.Names, Device.referenced, Device.activeMark, Device.pendingMark, Bool.or_eq_true, decide_eq_true_eq,
    Device.ctxCount_pos_iff]
  constructor
  · rintro (((((h | h) | h) | h) | h) | h)
    exacts [⟨.a, .inl h⟩, ⟨.a, .inr (.inl h)⟩, ⟨.b, .inl h⟩, ⟨.b, .inr (.inl h)⟩, ⟨.a, .inr (.inr h)⟩, ⟨.b, .inr (.inr h)⟩]
  · rintro ⟨l, h⟩
    cases l <;> rcases h with h | h | h <;> simp only [h, true_or, or_true]

/-- What a change of one lane keeps: its ports stand, its lists stay within their sizes, it stays ordered with its
Retiring contexts live, and it names no other slot than before. -/
structure Lane.Keeps (L M : Lane) : Prop where
  ports : M.ports = L.ports
  within : L.openList.length ≤ 512 ∧ L.gate.queue.length ≤ 4 → M.openList.length ≤ 512 ∧ M.gate.queue.length ≤ 4
  ordered : L.Ordered → M.Ordered
  retiring : L.Ordered → ∀ c ∈ L.live, c.state = .retiring → ∃ x ∈ M.live, x.num = c.num ∧ x.state = .retiring
  names : ∀ i, M.Names i → L.Names i

theorem Lane.Keeps.refl (L : Lane) : L.Keeps L where
  ports := rfl
  within := id
  ordered := id
  retiring := fun _ c hc hs => ⟨c, hc, rfl, hs⟩
  names := fun _ => id

theorem Lane.Keeps.trans {L M N : Lane} (h : L.Keeps M) (k : M.Keeps N) : L.Keeps N where
  ports := k.ports.trans h.ports
  within := k.within ∘ h.within
  ordered := k.ordered ∘ h.ordered
  retiring := fun hL c hc hs => by
    obtain ⟨x, hx, hnum, hxs⟩ := h.retiring hL c hc hs
    obtain ⟨y, hy, hynum, hys⟩ := k.retiring (h.ordered hL) x hx hxs
    exact ⟨y, hy, hynum.trans hnum, hys⟩
  names := fun i => h.names i ∘ k.names i

/-- The fields of a lane that its properties speak of. -/
theorem Lane.Keeps.of_same {L M : Lane} (ports : M.ports = L.ports) (openList : M.openList.length = L.openList.length)
    (queue : M.gate.queue.length = L.gate.queue.length) (live : M.live = L.live) (mode : M.mode = L.mode)
    (warmup : M.warmupLeft.isSome = true → L.warmupLeft.isSome = true)
    (idle : M.idleLeft.isSome = true → L.idleLeft.isSome = true)
    (active : M.active = L.active) (pending : M.pendingRecipe = L.pendingRecipe) : L.Keeps M where
  ports := ports
  within := by rw [openList, queue]; exact id
  ordered := fun ⟨hnum, hscan, hone, hw, hi⟩ =>
    ⟨by rw [live]; exact hnum, by rw [live, mode]; exact hscan, by rw [live]; exact hone,
      fun h => mode.trans (hw (warmup h)), fun h => mode.trans (hi (idle h))⟩
  retiring := fun _ c hc hs => ⟨c, live ▸ hc, rfl, hs⟩
  names := fun i => by simp only [Lane.Names, active, pending, live]; exact id

/-! ## The part -/

/-- What a change of the part keeps, each property for itself. -/
structure Keeps (d e : Device) : Prop where
  notices : NoticesAgree d → NoticesAgree e
  closing : CloseQueueWithin d → CloseQueueWithin e
  reports : ReportsWithin d → ReportsWithin e
  ports : PortsWithin d → PortsWithin e
  lanes : LanesWithin d → LanesWithin e
  ordered : LanesOrdered d → LanesOrdered e
  referenced : ReferencedSealed d → ReferencedSealed e
  pixels : PixelsCanonical d → PixelsCanonical e

theorem Keeps.refl (d : Device) : Keeps d d := ⟨id, id, id, id, id, id, id, id⟩

theorem Keeps.trans {d e f : Device} (h : Keeps d e) (k : Keeps e f) : Keeps d f :=
  ⟨k.notices ∘ h.notices, k.closing ∘ h.closing, k.reports ∘ h.reports, k.ports ∘ h.ports, k.lanes ∘ h.lanes,
    k.ordered ∘ h.ordered, k.referenced ∘ h.referenced, k.pixels ∘ h.pixels⟩

/-- `Keeps.trans` with the later change first, as the shape of an operation gives it. -/
theorem Keeps.after {d e f : Device} (k : Keeps e f) (h : Keeps d e) : Keeps d f := h.trans k

/-- Operations taken one after the other. -/
theorem Keeps.foldl {α : Type} {f : Device → α → Device} (h : ∀ d x, Keeps d (f d x)) (xs : List α) (d : Device) :
    Keeps d (xs.foldl f d) := by
  induction xs generalizing d with
  | nil => exact .refl d
  | cons x xs ih => exact (h d x).trans (ih _)

theorem Keeps.ite {d e f : Device} {P : Prop} [Decidable P] (h : P → Keeps d e) (k : ¬ P → Keeps d f) :
    Keeps d (if P then e else f) := by
  split
  · exact h ‹_›
  · exact k ‹_›

/-- What a change of one lane keeps but for its order. -/
def Lane.KeepsPlaces (L M : Lane) : Prop :=
  M.ports = L.ports ∧
    (L.openList.length ≤ 512 ∧ L.gate.queue.length ≤ 4 → M.openList.length ≤ 512 ∧ M.gate.queue.length ≤ 4) ∧
    ∀ i, M.Names i → L.Names i

theorem Lane.Keeps.places {L M : Lane} (h : L.Keeps M) : L.KeepsPlaces M := ⟨h.ports, h.within, h.names⟩

/-- What each property speaks of, one by one; the slots and the validation stand. -/
theorem Keeps.of_parts {d e : Device} (lanes : ∀ l, (d.lane l).KeepsPlaces (e.lane l))
    (cond : NoticesAgree d → NoticesAgree e) (closing : CloseQueueWithin d → CloseQueueWithin e)
    (reports : ReportsWithin d → ReportsWithin e) (ordered : LanesOrdered d → LanesOrdered e) (slots : e.slots = d.slots)
    (validation : e.validation = d.validation)
    (crops : (∀ s ∈ d.crops, s.planes.wf = true) → ∀ s ∈ e.crops, s.planes.wf = true) : Keeps d e where
  notices := cond
  closing := closing
  reports := reports
  ports := by simp only [PortsWithin, Device.port, (lanes _).1]; exact id
  lanes := fun h l => (lanes l).2.1 (h l)
  ordered := ordered
  referenced := fun ⟨hsealed, hval⟩ => by
    have hslot : ∀ i, e.slot i = d.slot i := fun i => by rw [Device.slot, slots]; rfl
    refine ⟨fun i hi => ?_, fun v hv => ?_⟩
    · obtain ⟨l, h⟩ := (e.referenced_iff i).mp hi
      rw [hslot]
      exact hsealed i ((d.referenced_iff i).mpr ⟨l, (lanes l).2.2 i h⟩)
    · rw [hslot]; exact hval v (validation ▸ hv)
  pixels := fun ⟨hp, hc⟩ => ⟨fun p => by rw [Device.port, (lanes _).1]; exact hp p, crops hc⟩

/-- The fields of the part that its properties speak of; conditions, reports and the order of the lanes are left open. -/
theorem Keeps.of_places {d e : Device} (lanes : ∀ l, (d.lane l).KeepsPlaces (e.lane l))
    (cond : NoticesAgree d → NoticesAgree e) (reports : ReportsWithin d → ReportsWithin e)
    (ordered : LanesOrdered d → LanesOrdered e) (slots : e.slots = d.slots) (validation : e.validation = d.validation)
    (crops : e.crops = d.crops) (closeQueue : e.closeQueue = d.closeQueue) (waiting : e.waiting = d.waiting) :
    Keeps d e :=
  .of_parts lanes cond (by simp only [CloseQueueWithin, closeQueue, waiting]; exact id) reports ordered slots validation
    (by rw [crops]; exact id)

theorem LanesOrdered.of_lanes {d e : Device} (lanes : ∀ l, (d.lane l).Keeps (e.lane l))
    (retireOrder : e.retireOrder = d.retireOrder) (h : LanesOrdered d) : LanesOrdered e := by
  obtain ⟨hl, hnodup, hret⟩ := h
  refine ⟨fun l => (lanes l).ordered (hl l), retireOrder ▸ hnodup, fun r hr => ?_⟩
  obtain ⟨c, hc, hnum, hs⟩ := hret r (retireOrder ▸ hr)
  obtain ⟨x, hx, hxnum, hxs⟩ := (lanes r.1).retiring (hl r.1) c hc hs
  exact ⟨x, hx, hxnum.trans hnum, hxs⟩

/-- The fields of the part that its properties speak of; lanes and conditions are left open. -/
theorem Keeps.of_lanes_cond {d e : Device} (lanes : ∀ l, (d.lane l).Keeps (e.lane l))
    (cond : NoticesAgree d → NoticesAgree e) (slots : e.slots = d.slots) (validation : e.validation = d.validation)
    (crops : e.crops = d.crops) (closeQueue : e.closeQueue = d.closeQueue) (waiting : e.waiting = d.waiting)
    (retireOrder : e.retireOrder = d.retireOrder) (verdicts : e.trunk.verdicts = d.trunk.verdicts)
    (panelReports : e.trunk.panelReports = d.trunk.panelReports) : Keeps d e :=
  .of_places (fun l => (lanes l).places) cond (by simp only [ReportsWithin, verdicts, panelReports, retireOrder]; exact id)
    (.of_lanes lanes retireOrder) slots validation crops closeQueue waiting

/-- One lane changes. -/
theorem Keeps.setLane (d : Device) (l : LaneId) {L : Lane} (h : (d.lane l).Keeps L) : Keeps d (d.setLane l L) :=
  .of_lanes_cond
    (fun m => by
      rw [Device.lane_setLane_of]
      split
      · next hm => exact hm ▸ h
      · exact .refl _)
    id rfl rfl rfl rfl rfl rfl rfl rfl

theorem Keeps.modLane (d : Device) (l : LaneId) {f : Lane → Lane} (h : (d.lane l).Keeps (f (d.lane l))) :
    Keeps d (d.modLane l f) := Keeps.setLane d l h

/-- The trunk changes in another place than its two report queues. -/
theorem Keeps.modTrunk (d : Device) {f : Trunk → Trunk} (verdicts : (f d.trunk).verdicts = d.trunk.verdicts)
    (panelReports : (f d.trunk).panelReports = d.trunk.panelReports) : Keeps d (d.modTrunk f) :=
  .of_lanes_cond (fun _ => .refl _) id rfl rfl rfl rfl rfl rfl verdicts panelReports

theorem Keeps.reply (d : Device) (tag code : Byte) (oc : ReplyCode) (body : List Byte) :
    Keeps d (d.reply tag code oc body) := Keeps.modTrunk d rfl rfl

theorem Keeps.settleStall (d : Device) : Keeps d d.settleStall :=
  .of_lanes_cond (fun l => by rw [Device.settleStall_lane]; exact .refl _)
    (by simp only [NoticesAgree, Device.settleStall_cond]; exact id) (by simp) (by simp) (by simp) (by simp) (by simp)
    (by simp) (by simp) (by simp)

/-! ## Conditions (R177, R179) -/

/-- A change of the condition unit that queues and unqueues no notice. -/
def CondUnit.SameNotices (u v : CondUnit) : Prop :=
  v.noticeQueue = u.noticeQueue ∧ ∀ i, (v.get i).noticePending = (u.get i).noticePending

theorem CondUnit.SameNotices.trans {u v w : CondUnit} (h : u.SameNotices v) (k : v.SameNotices w) : u.SameNotices w :=
  ⟨k.1.trans h.1, fun i => (k.2 i).trans (h.2 i)⟩

/-- A change of one set that keeps its notice pending mark. -/
theorem CondUnit.sameNotices_mod (u : CondUnit) (i : SetId) {f : CondSet → CondSet}
    (h : ∀ c, (f c).noticePending = c.noticePending) : u.SameNotices (u.mod i f) := by
  refine ⟨CondUnit.set_noticeQueue _ _ _, fun j => ?_⟩
  rw [CondUnit.mod, CondUnit.get_set]
  split
  · next hj => rw [h, hj]
  · rfl

/-- The notice queue holds the sets whose notice is pending, each once. -/
def CondUnit.NoticesAgree (u : CondUnit) : Prop :=
  u.noticeQueue.Nodup ∧ ∀ i : SetId, (u.get i).noticePending = true ↔ i ∈ u.noticeQueue

theorem CondUnit.SameNotices.agree {u v : CondUnit} (h : u.SameNotices v) (hu : u.NoticesAgree) : v.NoticesAgree := by
  obtain ⟨hq, hp⟩ := h
  exact ⟨hq ▸ hu.1, fun i => by rw [hp, hq]; exact hu.2 i⟩

theorem CondUnit.queueNotice_agree (u : CondUnit) (i : SetId) (hu : u.NoticesAgree) : (u.queueNotice i).NoticesAgree := by
  unfold CondUnit.queueNotice
  split
  · exact hu
  · next hclear =>
    obtain ⟨hnodup, hpending⟩ := hu
    have hnew : i ∉ u.noticeQueue := fun hi => hclear ((hpending i).mpr hi)
    refine ⟨List.nodup_append.mpr ⟨hnodup, List.nodup_singleton i, fun a ha b hb => ?_⟩, fun j => ?_⟩
    · rintro rfl
      exact hnew (List.mem_singleton.mp hb ▸ ha)
    · change ((u.set i _).get j).noticePending = true ↔ j ∈ u.noticeQueue ++ [i]
      rw [CondUnit.get_set, List.mem_append, List.mem_singleton, ← hpending j]
      by_cases hj : j = i <;> simp [hj]

theorem CondUnit.settle_agree (old new : CondUnit) (h : new.NoticesAgree) : (old.settle new).NoticesAgree := by
  unfold CondUnit.settle
  generalize setsUpward.filter _ = is
  induction is generalizing new with
  | nil => exact h
  | cons i is ih => exact ih _ (new.queueNotice_agree i h)

/-- A change of conditions, masks or snapshots with the notices it brings. -/
theorem Keeps.updateConds (d : Device) {f : CondUnit → CondUnit} (h : d.cond.SameNotices (f d.cond)) :
    Keeps d (d.updateConds f) :=
  .of_lanes_cond (fun _ => .refl _) (fun hd => CondUnit.settle_agree _ _ (h.agree hd)) rfl rfl rfl rfl rfl rfl rfl rfl

theorem Keeps.raise (d : Device) (i : SetId) (list : Word16) : Keeps d (d.raise i list) :=
  Keeps.updateConds d (d.cond.sameNotices_mod i fun _ => rfl)

theorem Keeps.raiseDevice (d : Device) (c : DeviceCond) : Keeps d (d.raiseDevice c) := Keeps.raise d _ _

theorem Keeps.raiseLane (d : Device) (l : LaneId) (c : LaneCond) : Keeps d (d.raiseLane l c) := Keeps.raise d _ _

/-- A fault changes gate marks and conditions (R156, R158). -/
theorem Keeps.fault (d : Device) (l : LaneId) (k : FaultKind) : Keeps d (d.fault l k) := by
  have hqueue : (if (d.lane l).mode = .off then (d.lane l).gate.count k else ((d.lane l).gate.count k).answer k).queue =
      (d.lane l).gate.queue := by split <;> rfl
  unfold Device.fault
  dsimp only
  generalize (if (d.lane l).mode = .off then _ else _ : Gate) = g at hqueue ⊢
  have hgate : Keeps d (d.setLane l { d.lane l with gate := g }) :=
    .setLane d l (.of_same rfl rfl (congrArg List.length hqueue) rfl rfl id id rfl rfl)
  have hforced : Keeps d (if g.forced ≠ (d.lane l).gate.forced ∨ g.hold ≠ (d.lane l).gate.hold then
      (d.setLane l { d.lane l with gate := g }).raiseLane l .forced else d.setLane l { d.lane l with gate := g }) :=
    .ite (fun _ => hgate.trans (.raiseLane _ _ _)) (fun _ => hgate)
  split
  · exact hforced.trans (.raiseLane _ _ _)
  · exact hforced

end Sys2Proof.Machine

/-! # Contexts: what a change of a context, its decision and its retirement keep (sections 7.2, 7.5, 7.7) -/

namespace Sys2Proof.Machine

/-! ## A change of one context -/

theorem Lane.mem_of_ctx {L : Lane} {n : Fin 4} {c : Context} (hc : L.ctx n = some c) : c ∈ L.live :=
  List.mem_of_find?_eq_some hc

/-- An ordered lane has one context of a number. -/
theorem Lane.Ordered.eq_of_num {L : Lane} (h : L.Ordered) {x y : Context} (hx : x ∈ L.live) (hy : y ∈ L.live)
    (hnum : x.num = y.num) : x = y := List.inj_on_of_nodup_map h.1 hx hy hnum

theorem Lane.Ordered.eq_of_ctx {L : Lane} (h : L.Ordered) {n : Fin 4} {c x : Context} (hc : L.ctx n = some c)
    (hx : x ∈ L.live) (hn : x.num = n) : x = c :=
  h.eq_of_num hx (Lane.mem_of_ctx hc) (hn.trans (Lane.num_of_ctx hc).symm)

/-- An ordered lane has one Scanning context. -/
theorem Lane.Ordered.eq_of_scanning {L : Lane} (h : L.Ordered) {x y : Context} (hx : x ∈ L.live) (hy : y ∈ L.live)
    (hsx : x.state = .scanning) (hsy : y.state = .scanning) : x = y := by
  have hone := h.2.2.1
  have hx' : x ∈ L.live.filter (fun c => decide (c.state = .scanning)) := by simp [hx, hsx]
  have hy' : y ∈ L.live.filter (fun c => decide (c.state = .scanning)) := by simp [hy, hsy]
  match hf : L.live.filter (fun c => decide (c.state = .scanning)) with
  | [] => simp [hf] at hx'
  | [z] => rw [hf, List.mem_singleton] at hx' hy'; rw [hx', hy']
  | _ :: _ :: _ => simp [hf] at hone

/-- A change of the contexts of a number that keeps number and recipe, makes none Scanning or no longer Scanning, and lets
the Retiring ones stand. -/
theorem Lane.Keeps.modCtx (L : Lane) (n : Fin 4) {f : Context → Context} (num : ∀ c, (f c).num = c.num)
    (slot : ∀ c, (f c).slot = c.slot)
    (scanning : L.Ordered → ∀ c ∈ L.live, c.num = n → ((f c).state = .scanning ↔ c.state = .scanning))
    (retiring : L.Ordered → ∀ c ∈ L.live, c.num = n → c.state = .retiring → (f c).state = .retiring) :
    L.Keeps (L.modCtx n f) where
  ports := rfl
  within := id
  ordered := fun h => by
    have hscan : ∀ c ∈ L.live, (if c.num = n then f c else c).state = .scanning ↔ c.state = .scanning := fun c hc => by
      split
      · next hn => exact scanning h c hc hn
      · exact Iff.rfl
    have hnums : (L.modCtx n f).live.map (fun c => c.num) = L.live.map (fun c => c.num) := by
      simp only [Lane.modCtx, List.map_map]
      exact List.map_congr_left fun c _ => by simp only [Function.comp]; split <;> simp only [num]
    obtain ⟨hnum, hmode, hone, htimers⟩ := h
    refine ⟨hnums ▸ hnum, ?_, ?_, htimers⟩
    · simp only [Lane.modCtx, List.mem_map, hmode]
      constructor
      · rintro ⟨c, hc, hs⟩
        exact ⟨_, ⟨c, hc, rfl⟩, (hscan c hc).mpr hs⟩
      · rintro ⟨_, ⟨c, hc, rfl⟩, hs⟩
        exact ⟨c, hc, (hscan c hc).mp hs⟩
    · have heq : L.live.filter ((fun c : Context => decide (c.state = .scanning)) ∘ fun c => if c.num = n then f c else c) =
          L.live.filter (fun c => decide (c.state = .scanning)) :=
        List.filter_congr fun c hc => by simp only [Function.comp, hscan c hc]
      simpa only [Lane.modCtx, List.filter_map, List.length_map, heq] using hone
  retiring := fun h c hc hs =>
    ⟨_, List.mem_map.mpr ⟨c, hc, rfl⟩, by split <;> simp only [num], by
      split
      · next hn => exact retiring h c hc hn hs
      · exact hs⟩
  names := fun i => by
    rintro (h | h | ⟨x, hx, hs⟩)
    · exact .inl h
    · exact .inr (.inl h)
    · obtain ⟨c, hc, rfl⟩ := List.mem_map.mp hx
      refine .inr (.inr ⟨c, hc, ?_⟩)
      split at hs
      · exact (slot c).symm.trans hs
      · exact hs

/-- A change of a context's counts and marks. -/
theorem Keeps.modCtx (d : Device) (l : LaneId) (n : Fin 4) {f : Context → Context} (num : ∀ c, (f c).num = c.num)
    (slot : ∀ c, (f c).slot = c.slot) (state : ∀ c, (f c).state = c.state) : Keeps d (d.modCtx l n f) :=
  .modLane d l (.modCtx _ n num slot (fun _ c _ _ => by rw [state]) (fun _ c _ _ hs => (state c).trans hs))

/-- The number and state of each live context of a lane. -/
def Device.states (d : Device) (l : LaneId) : List (Fin 4 × CtxState) := (d.lane l).live.map fun c => (c.num, c.state)

theorem Device.states_of_mem {d : Device} {l : LaneId} {c : Context} (hc : c ∈ (d.lane l).live) :
    (c.num, c.state) ∈ d.states l := List.mem_map_of_mem hc

theorem Device.states_of_ctx {d : Device} {l : LaneId} {n : Fin 4} {c : Context} (hc : (d.lane l).ctx n = some c) :
    (n, c.state) ∈ d.states l := Lane.num_of_ctx hc ▸ Device.states_of_mem (Lane.mem_of_ctx hc)

theorem Device.states_congr {d e : Device} {l : LaneId} (h : (e.lane l).live = (d.lane l).live) :
    e.states l = d.states l := congrArg (List.map _) h

/-- In an ordered lane every context of a number has the one state noted for it. -/
theorem Device.state_of_states {d : Device} {l : LaneId} {n : Fin 4} {s : CtxState} (h : (n, s) ∈ d.states l)
    (ho : (d.lane l).Ordered) {x : Context} (hx : x ∈ (d.lane l).live) (hn : x.num = n) : x.state = s := by
  obtain ⟨c, hc, hcs⟩ := List.mem_map.mp h
  obtain ⟨hnum, hs⟩ := Prod.mk.inj hcs
  rw [ho.eq_of_num hx hc (hn.trans hnum.symm), hs]

theorem Device.states_modCtx (d : Device) (l m : LaneId) (n : Fin 4) {f : Context → Context}
    (num : ∀ c, (f c).num = c.num) (state : ∀ c, (f c).state = c.state) : (d.modCtx l n f).states m = d.states m := by
  unfold Device.states Device.modCtx
  rw [Device.lane_modLane_of]
  split
  · next hm =>
    subst hm
    simp only [Lane.modCtx, List.map_map]
    exact List.map_congr_left fun c _ => by simp only [Function.comp]; split <;> simp only [num, state]
  · rfl

/-- A change of the state of a context that is neither Scanning nor Retiring into one that is not Scanning. -/
theorem Keeps.modCtx_state {d : Device} {l : LaneId} {n : Fin 4} {s : CtxState} (hs : (n, s) ∈ d.states l)
    {f : Context → Context} (num : ∀ c, (f c).num = c.num) (slot : ∀ c, (f c).slot = c.slot)
    (before : s ≠ .scanning ∧ s ≠ .retiring) (after : ∀ c, (f c).state ≠ .scanning) : Keeps d (d.modCtx l n f) := by
  refine .modLane d l (.modCtx _ n num slot (fun ho x hx hn => ?_) (fun ho x hx hn hxs => ?_))
  · rw [d.state_of_states hs ho hx hn]
    exact iff_of_false (after x) before.1
  · exact absurd ((d.state_of_states hs ho hx hn).symm.trans hxs) before.2

/-! ## Retirement (R142, R143) -/

/-- A lane without the contexts of a number. -/
def Lane.dropCtx (L : Lane) (n : Fin 4) : Lane := { L with live := L.live.filter (fun x => decide (x.num ≠ n)) }

theorem Lane.mem_dropCtx {L : Lane} {n : Fin 4} {x : Context} : x ∈ (L.dropCtx n).live ↔ x ∈ L.live ∧ x.num ≠ n := by
  simp [Lane.dropCtx]

theorem Lane.keepsPlaces_dropCtx (L : Lane) (n : Fin 4) : L.KeepsPlaces (L.dropCtx n) :=
  ⟨rfl, id, fun i => by
    rintro (h | h | ⟨x, hx, hs⟩)
    exacts [.inl h, .inr (.inl h), .inr (.inr ⟨x, (Lane.mem_dropCtx.mp hx).1, hs⟩)]⟩

/-- A lane stays ordered when a context that is not Scanning is dropped. -/
theorem Lane.Ordered.dropCtx {L : Lane} (h : L.Ordered) (n : Fin 4)
    (hs : ∀ c ∈ L.live, c.num = n → c.state ≠ .scanning) : (L.dropCtx n).Ordered := by
  obtain ⟨hnum, hmode, hone, htimers⟩ := h
  refine ⟨hnum.sublist (List.filter_sublist.map _), ?_, ?_, htimers⟩
  · refine hmode.trans ⟨fun ⟨c, hc, hcs⟩ => ⟨c, Lane.mem_dropCtx.mpr ⟨hc, fun hn => hs c hc hn hcs⟩, hcs⟩, ?_⟩
    rintro ⟨c, hc, hcs⟩
    exact ⟨c, (Lane.mem_dropCtx.mp hc).1, hcs⟩
  · exact ((List.filter_sublist.filter _).length_le).trans hone

theorem Device.retireNow_lane (d : Device) (l m : LaneId) (n : Fin 4) :
    (d.retireNow l n).lane m = if m = l then (d.lane l).dropCtx n else d.lane m := by
  cases hc : (d.lane l).ctx n with
  | some c => rw [Device.retireNow_of_ctx hc, Device.modTrunk_lane, Device.lane_modLane_of]; rfl
  | none =>
    have hall : ∀ x ∈ (d.lane l).live, x.num ≠ n := by simpa [Lane.ctx, List.find?_eq_none] using hc
    have hdrop : (d.lane l).dropCtx n = d.lane l := by
      rw [Lane.dropCtx, List.filter_eq_self.mpr fun x hx => by simpa using hall x hx]
    have hnow : d.retireNow l n = d := by simp only [Device.retireNow, hc]
    rw [hdrop, hnow]
    split
    · next h => rw [h]
    · rfl

theorem Device.retireNow_keepsPlaces (d : Device) (l m : LaneId) (n : Fin 4) :
    (d.lane m).KeepsPlaces ((d.retireNow l n).lane m) := by
  rw [Device.retireNow_lane]
  split
  · next h => exact h ▸ Lane.keepsPlaces_dropCtx _ n
  · exact (Lane.Keeps.refl _).places

theorem Device.retireNow_panelReports_le (d : Device) (l : LaneId) (n : Fin 4) :
    (d.retireNow l n).trunk.panelReports.length ≤ d.trunk.panelReports.length + 1 := by
  cases hc : (d.lane l).ctx n with
  | some c => rw [Device.retireNow_panelReports hc, List.length_append]; rfl
  | none => simp only [Device.retireNow, hc]; omega

/-- The lanes stay ordered when the first of the retire order retires. -/
theorem LanesOrdered.retireNow {d : Device} {l : LaneId} {n : Fin 4} (h : LanesOrdered d)
    (hs : ∀ c ∈ (d.lane l).live, c.num = n → c.state ≠ .scanning) {rs : List (LaneId × Fin 4)} (hrs : rs.Nodup)
    (hsub : ∀ r ∈ rs, r ∈ d.retireOrder) (hother : (l, n) ∉ rs) :
    LanesOrdered { d.retireNow l n with retireOrder := rs } := by
  obtain ⟨hl, -, hret⟩ := h
  refine ⟨fun m => ?_, hrs, fun r hr => ?_⟩
  · show ((d.retireNow l n).lane m).Ordered
    rw [Device.retireNow_lane]
    split
    · exact (hl l).dropCtx n hs
    · exact hl m
  · obtain ⟨c, hc, hnum, hcs⟩ := hret r (hsub r hr)
    refine ⟨c, ?_, hnum, hcs⟩
    show c ∈ ((d.retireNow l n).lane r.1).live
    rw [Device.retireNow_lane]
    split
    · next hrl =>
      refine Lane.mem_dropCtx.mpr ⟨hrl ▸ hc, fun hn => hother ?_⟩
      rwa [← hrl, ← hn, hnum]
    · exact hc

/-- A context that is neither Scanning nor Retiring yet retires at once or joins the retire order (R142). -/
theorem Keeps.retire {d : Device} {l : LaneId} {n : Fin 4} {s : CtxState} (hn : (n, s) ∈ d.states l)
    (hs : s ≠ .scanning ∧ s ≠ .retiring) : Keeps d (d.retire l n) := by
  unfold Device.retire
  split
  · next hroom =>
    obtain ⟨hnone, hfew⟩ : d.retireOrder = [] ∧ d.trunk.panelReports.length < 8 := by simpa using hroom
    refine .of_places (fun m => d.retireNow_keepsPlaces l m n) (by simp only [NoticesAgree, Device.retireNow_cond]; exact id)
      (fun ⟨hv, _, _⟩ => ⟨by simpa using hv, (d.retireNow_panelReports_le l n).trans (by omega), ?_⟩) (fun ho => ?_)
      (by simp) (by simp) (by simp) (by simp) (by simp)
    · simp [hnone]
    · have := ho.retireNow (fun x hx hxn => d.state_of_states hn (ho.1 l) hx hxn ▸ hs.1) List.nodup_nil (by simp) (by simp)
      rwa [show ({ d.retireNow l n with retireOrder := [] } : Device) = d.retireNow l n by
        rw [← hnone, ← d.retireNow_retireOrder l n]] at this
  · next hwait =>
    have hfull : d.retireOrder = [] → 8 ≤ d.trunk.panelReports.length := by simpa using hwait
    refine .of_places (fun m => ?_) id (fun ⟨hv, hp, hw⟩ => ⟨hv, hp, fun _ => ?_⟩) (fun ho => ?_) rfl rfl rfl rfl rfl
    · show (d.lane m).KeepsPlaces ((d.modCtx l n _).lane m)
      rw [Device.modCtx, Device.lane_modLane_of]
      split
      · next hm =>
        refine hm ▸ ⟨rfl, id, ?_⟩
        rintro i (h | h | ⟨x, hx, hslot⟩)
        · exact .inl h
        · exact .inr (.inl h)
        · obtain ⟨y, hy, rfl⟩ := List.mem_map.mp hx
          exact .inr (.inr ⟨y, hy, by split at hslot <;> exact hslot⟩)
      · exact (Lane.Keeps.refl _).places
    · by_cases hnone : d.retireOrder = []
      · exact Nat.le_antisymm hp (hfull hnone)
      · exact hw hnone
    · have hmod := (Keeps.modCtx_state hn (f := fun x => { x with state := .retiring }) (fun _ => rfl) (fun _ => rfl) hs
        (by simp)).ordered ho
      have hnew : (l, n) ∉ d.retireOrder := fun hmem => by
        obtain ⟨x, hx, hnum, hxs⟩ := ho.2.2 _ hmem
        exact hs.2 ((d.state_of_states hn (ho.1 l) hx hnum).symm.trans hxs)
      refine ⟨hmod.1, List.nodup_append.mpr ⟨ho.2.1, List.nodup_singleton _, ?_⟩, fun r hr => ?_⟩
      · rintro a ha b hb rfl
        exact hnew (List.mem_singleton.mp hb ▸ ha)
      · rcases List.mem_append.mp hr with hr | hr
        · exact hmod.2.2 r hr
        · rw [List.mem_singleton.mp hr]
          obtain ⟨c, hc, hcs⟩ := List.mem_map.mp hn
          have hcn : c.num = n := (Prod.mk.inj hcs).1
          refine ⟨{ c with state := .retiring }, ?_, hcn, rfl⟩
          have hlane : ((d.modCtx l n fun x => { x with state := .retiring }).lane l).live =
              (d.lane l).live.map fun x => if x.num = n then { x with state := .retiring } else x := by
            rw [Device.modCtx, Device.lane_modLane]; rfl
          exact hlane ▸ List.mem_map.mpr ⟨c, hc, if_pos hcn⟩

/-- What retiring one context and setting the retire order leave, the walk of the retire order leaves. -/
theorem Device.retireFrom_kept {α : Type} (g : Device → α) (hnow : ∀ d l n, g (d.retireNow l n) = g d)
    (horder : ∀ (d : Device) rs, g { d with retireOrder := rs } = g d) (rs : List (LaneId × Fin 4)) (d : Device) :
    g (Device.retireFrom rs d) = g d := by
  induction rs generalizing d with
  | nil => exact horder d []
  | cons r rest ih =>
    unfold Device.retireFrom
    split
    · rw [ih, hnow]
    · exact horder d _

theorem Device.retireFrom_keepsPlaces (rs : List (LaneId × Fin 4)) (d : Device) (m : LaneId) :
    (d.lane m).KeepsPlaces ((Device.retireFrom rs d).lane m) := by
  induction rs generalizing d with
  | nil => exact (Lane.Keeps.refl _).places
  | cons r rest ih =>
    unfold Device.retireFrom
    split
    · obtain ⟨hp, hw, hn⟩ := d.retireNow_keepsPlaces r.1 m r.2
      obtain ⟨kp, kw, kn⟩ := ih (d.retireNow r.1 r.2)
      exact ⟨kp.trans hp, kw ∘ hw, fun i => hn i ∘ kn i⟩
    · exact (Lane.Keeps.refl _).places

/-- Once the retire order has been walked it is empty or the panel report queue is full. -/
theorem Device.retireFrom_reports (rs : List (LaneId × Fin 4)) (d : Device) (hv : d.trunk.verdicts.length ≤ 1024)
    (hp : d.trunk.panelReports.length ≤ 8) : ReportsWithin (Device.retireFrom rs d) := by
  induction rs generalizing d with
  | nil => exact ⟨hv, hp, fun h => absurd rfl h⟩
  | cons r rest ih =>
    unfold Device.retireFrom
    split
    · exact ih _ (by simpa using hv) ((d.retireNow_panelReports_le r.1 r.2).trans (by omega))
    · exact ⟨hv, hp, fun _ => by show d.trunk.panelReports.length = 8; omega⟩

theorem Device.retireFrom_order (rs : List (LaneId × Fin 4)) (d : Device)
    (h : LanesOrdered { d with retireOrder := rs }) : LanesOrdered (Device.retireFrom rs d) := by
  induction rs generalizing d with
  | nil => exact h
  | cons r rest ih =>
    unfold Device.retireFrom
    split
    · refine ih _ ?_
      obtain ⟨hne, hnodup⟩ := List.nodup_cons.mp h.2.1
      have hret : ∀ c ∈ (d.lane r.1).live, c.num = r.2 → c.state ≠ .scanning := fun c hc hn hcs => by
        obtain ⟨x, hx, hnum, hxs⟩ := h.2.2 r List.mem_cons_self
        rw [(h.1 r.1).eq_of_num hc hx (hn.trans hnum.symm)] at hcs
        simp [hxs] at hcs
      have := LanesOrdered.retireNow (l := r.1) (n := r.2) h hret hnodup (fun x hx => List.mem_cons_of_mem _ hx) hne
      rwa [show ({ ({ d with retireOrder := r :: rest } : Device).retireNow r.1 r.2 with retireOrder := rest } : Device) =
        { d.retireNow r.1 r.2 with retireOrder := rest } from by
          unfold Device.retireNow
          simp only [show ({ d with retireOrder := r :: rest } : Device).lane r.1 = d.lane r.1 from rfl]
          cases (d.lane r.1).ctx r.2 <;> rfl] at this
    · exact h

/-- The gate unit of a lane changes. -/
theorem Lane.Keeps.setGate (L : Lane) {g : Gate} (h : L.gate.queue.length ≤ 4 → g.queue.length ≤ 4) :
    L.Keeps { L with gate := g } where
  ports := rfl
  within := fun ⟨ho, hq⟩ => ⟨ho, h hq⟩
  ordered := id
  retiring := fun _ c hc hs => ⟨c, hc, rfl, hs⟩
  names := fun _ => id

/-! ## The decision (R139, R140) -/

theorem Keeps.tryDecide (d : Device) (l : LaneId) (n : Fin 4) : Keeps d (d.tryDecide l n) := by
  cases hc : (d.lane l).ctx n with
  | none => simp only [Device.tryDecide, hc]; exact .refl d
  | some c =>
    have hnote : ∀ (e : Device) (dec : Decision), Keeps e (e.noteDecision l dec) := fun e dec =>
      .ite (fun _ => .raiseLane _ _ _) (fun _ => .refl _)
    by_cases hall : c.accounted = d.jointCount c
    · by_cases hsettling : c.state = .settling
      · rw [Device.tryDecide_of_settling hc hall hsettling]
        refine .trans ?_ (hnote _ _)
        exact .modCtx_state (d.states_of_ctx hc) (fun _ => rfl) (fun _ => rfl) (by simp [hsettling]) (by simp)
      · by_cases hpassed : c.state = .passed
        · rw [Device.tryDecide_of_passed hc hall hpassed]
          refine .trans (.trans ?_ (hnote _ _)) (.retire (Device.states_of_ctx (d.ctx_of_decision_written _ hc)) (by simp [hpassed]))
          exact .modCtx d l n (fun _ => rfl) (fun _ => rfl) (fun _ => rfl)
        · rw [Device.tryDecide_of_other_state hc ⟨hsettling, hpassed⟩]; exact .refl d
    · rw [Device.tryDecide_of_not_accounted hc hall]; exact .refl d

/-! ## The gate (sections 8.2 and 8.3) -/

theorem Keeps.passGateEntry (d : Device) (l : LaneId) (e : GateEntry) : Keeps d (d.passGateEntry l e) := by
  unfold Device.passGateEntry
  dsimp only
  split
  · next hroom => exact .setLane d l (.setGate _ fun _ => by rw [List.length_append]; exact hroom)
  · split
    · exact (Keeps.fault d l _).trans (.modCtx _ l _ (fun _ => rfl) (fun _ => rfl) (fun _ => rfl))
    · exact .fault d l _

theorem Keeps.gateAct {d : Device} {l : LaneId} {n : Fin 4} {c : Context} (code : Decision)
    (hc : (d.lane l).ctx n = some c) : Keeps d (d.gateAct l c code) := by
  unfold Device.gateAct
  rw [Lane.num_of_ctx hc]
  cases hs : c.state with
  | decided =>
    refine .trans ?_ (.retire (Device.states_of_ctx (Device.ctx_of_code_written code hc)) (by simp [hs]))
    exact .modCtx d l n (fun _ => rfl) (fun _ => rfl) (fun _ => rfl)
  | settling =>
    refine .trans ?_ (.raiseLane _ l _)
    exact .modCtx_state (d.states_of_ctx hc) (fun _ => rfl) (fun _ => rfl) (by simp [hs]) (by simp)
  | waiting | scanning =>
    refine .trans ?_ (.raiseLane _ l _)
    exact .modCtx d l n (fun _ => rfl) (fun _ => rfl) (fun _ => rfl)
  | passed | retiring => exact .refl d

theorem Lane.ctx_of_entryCtx {L : Lane} {e : GateEntry} {c : Context} (h : L.entryCtx e = some c) :
    L.ctx c.num = some c := by
  unfold Lane.entryCtx at h
  split at h
  · next n _ => rw [Lane.num_of_ctx h, h]
  · cases h

theorem Keeps.gateArrival (d : Device) (l : LaneId) : Keeps d (d.gateArrival l) := by
  cases hq : (d.lane l).gate.queue with
  | nil => simp only [Device.gateArrival, hq]; exact .refl d
  | cons e rest =>
    rw [Device.gateArrival_of_queue hq]
    have htake : Keeps d (d.takeGateEntry l rest ((d.lane l).effectiveCode e)) :=
      .setLane d l (.setGate _ fun h => by rw [hq] at h; exact Nat.le_of_succ_le h)
    cases hc : (d.lane l).entryCtx e with
    | none => exact htake
    | some c =>
      refine htake.trans (.gateAct (n := c.num) _ ?_)
      rw [Device.takeGateEntry_ctx]
      exact Lane.ctx_of_entryCtx hc

theorem Keeps.gateArrivals (l : LaneId) (fuel : Nat) (d : Device) : Keeps d (Device.gateArrivals l fuel d) := by
  induction fuel generalizing d with
  | zero => exact .refl d
  | succ fuel ih => exact .ite (fun _ => (Keeps.gateArrival d l).trans (ih _)) (fun _ => .refl d)

end Sys2Proof.Machine

/-! # Ports: the outstanding list, the FIFO and the pattern line under every operation of a port (chapter 3) -/

namespace Sys2Proof.Machine

/-- What an operation of a port keeps: its list and FIFO stay within their sizes, its pattern line stands. -/
def PortRun.Keeps (r q : PortRun) : Prop := (r.1.Within → q.1.Within) ∧ q.1.pattern = r.1.pattern

theorem PortRun.Keeps.refl (r : PortRun) : r.Keeps r := ⟨id, rfl⟩

theorem PortRun.Keeps.trans {r q p : PortRun} (h : r.Keeps q) (k : q.Keeps p) : r.Keeps p :=
  ⟨k.1 ∘ h.1, k.2.trans h.2⟩

/-- `PortRun.Keeps.trans` with the later change first, as the shape of an operation gives it. -/
theorem PortRun.Keeps.after {r q p : PortRun} (k : q.Keeps p) (h : r.Keeps q) : r.Keeps p := h.trans k

theorem PortRun.Keeps.ite {r q p : PortRun} {P : Prop} [Decidable P] (h : r.Keeps q) (k : r.Keeps p) :
    r.Keeps (if P then q else p) := by
  split
  exacts [h, k]

theorem PortRun.Keeps.foldl {α : Type} {f : PortRun → α → PortRun} (h : ∀ (r : PortRun) x, r.Keeps (f r x)) (xs : List α)
    (r : PortRun) : r.Keeps (xs.foldl f r) := by
  induction xs generalizing r with
  | nil => exact .refl r
  | cons x xs ih => exact (h r x).trans (ih _)

/-- The fields of a port that its sizes and its pattern line rest on. -/
theorem PortRun.Keeps.of_same {r q : PortRun} (outstanding : q.1.outstanding = r.1.outstanding)
    (fifo : q.1.fifo = r.1.fifo) (pattern : q.1.pattern = r.1.pattern) : r.Keeps q :=
  ⟨fun h => by simpa only [Port.Within, outstanding, fifo] using h, pattern⟩

/-- Entries leave the front of the list, and items that are no packets join the FIFO. -/
theorem PortRun.Keeps.of_drop {r q : PortRun} {k : Nat} {xs : List Item}
    (outstanding : q.1.outstanding = r.1.outstanding.drop k) (fifo : q.1.fifo = r.1.fifo ++ xs)
    (lost : ∀ x ∈ xs, x.isPacket = false) (pattern : q.1.pattern = r.1.pattern) : r.Keeps q := by
  refine ⟨fun ⟨ho, hf⟩ => ⟨?_, ?_⟩, pattern⟩
  · rw [outstanding, List.length_drop]; omega
  · have hnone : xs.filter Item.isPacket = [] := List.filter_eq_nil_iff.mpr fun x hx => by simp [lost x hx]
    rwa [fifo, List.filter_append, hnone, List.append_nil]

@[simp] theorem Entry.marker_isPacket (e : Entry) : e.marker.isPacket = false := rfl

@[simp] theorem Port.oneShotResolved_outstanding (p : Port) (e : Entry) :
    (p.oneShotResolved e).outstanding = p.outstanding := by unfold Port.oneShotResolved; split <;> rfl
@[simp] theorem Port.oneShotResolved_fifo (p : Port) (e : Entry) : (p.oneShotResolved e).fifo = p.fifo := by
  unfold Port.oneShotResolved; split <;> rfl
@[simp] theorem Port.oneShotResolved_pattern (p : Port) (e : Entry) : (p.oneShotResolved e).pattern = p.pattern := by
  unfold Port.oneShotResolved; split <;> rfl
@[simp] theorem Port.oneShotJoined_outstanding (p : Port) (e : Entry) :
    (p.oneShotJoined e).outstanding = p.outstanding := by unfold Port.oneShotJoined; (repeat' split) <;> rfl
@[simp] theorem Port.oneShotJoined_fifo (p : Port) (e : Entry) : (p.oneShotJoined e).fifo = p.fifo := by
  unfold Port.oneShotJoined; (repeat' split) <;> rfl
@[simp] theorem Port.oneShotJoined_pattern (p : Port) (e : Entry) : (p.oneShotJoined e).pattern = p.pattern := by
  unfold Port.oneShotJoined; (repeat' split) <;> rfl

theorem PortRun.Keeps.emit (c : PortCond) (r : PortRun) : r.Keeps (PortRun.emit c r) := .of_same rfl rfl rfl

/-! ## Resolving and joining (R58 to R60) -/

theorem PortRun.resolve_pattern (r : PortRun) (e : Entry) : (r.resolve e).1.pattern = r.1.pattern := by
  unfold PortRun.resolve PortRun.emit
  split <;> simp [Port.put]

theorem PortRun.foldl_resolve_pattern (es : List Entry) (r : PortRun) :
    (es.foldl PortRun.resolve r).1.pattern = r.1.pattern := by
  induction es generalizing r with
  | nil => rfl
  | cons e es ih => rw [List.foldl_cons, ih, PortRun.resolve_pattern]

theorem PortRun.resolveFirst_pattern (k : Nat) (r : PortRun) : (PortRun.resolveFirst k r).1.pattern = r.1.pattern :=
  PortRun.foldl_resolve_pattern _ _

theorem PortRun.Keeps.resolveFirst (k : Nat) (r : PortRun) : r.Keeps (PortRun.resolveFirst k r) :=
  .of_drop (PortRun.resolveFirst_outstanding k r) (PortRun.resolveFirst_fifo k r) (fun x hx => by
    obtain ⟨e, -, rfl⟩ := List.mem_map.mp hx; rfl)
    (PortRun.resolveFirst_pattern k r)

theorem PortRun.Keeps.settleFront (r : PortRun) : r.Keeps (PortRun.settleFront r) := .resolveFirst _ r

theorem PortRun.Keeps.declareAll (r : PortRun) : r.Keeps (PortRun.declareAll r) := .resolveFirst _ r

theorem PortRun.settleFront_length_le (r : PortRun) :
    (PortRun.settleFront r).1.outstanding.length ≤ r.1.outstanding.length := by
  unfold PortRun.settleFront
  rw [PortRun.resolveFirst_outstanding, List.length_drop]
  exact Nat.sub_le _ _

theorem PortRun.Keeps.makeWay (e : Entry) (r : PortRun) : r.Keeps (PortRun.makeWay e r) := by
  unfold PortRun.makeWay
  split
  · exact (PortRun.Keeps.resolveFirst _ r).trans (.settleFront _)
  · exact .ite ((PortRun.Keeps.resolveFirst _ r).trans (.settleFront _)) (.refl r)

/-- Once way is made for an entry the list has a free place (R59). -/
theorem PortRun.makeWay_length (e : Entry) (r : PortRun) (h : r.1.outstanding.length ≤ 16) :
    (PortRun.makeWay e r).1.outstanding.length ≤ 15 := by
  unfold PortRun.makeWay
  split
  · refine (PortRun.settleFront_length_le _).trans ?_
    rw [PortRun.resolveFirst_outstanding, List.length_drop]
    omega
  · split
    · refine (PortRun.settleFront_length_le _).trans ?_
      rw [PortRun.resolveFirst_outstanding, List.length_drop]
      omega
    · omega

theorem PortRun.Keeps.join (r : PortRun) (e : Entry) : r.Keeps (PortRun.join r e) := by
  have hway := PortRun.Keeps.makeWay e r
  refine .after (.settleFront _) ⟨fun h => ?_, ?_⟩
  · obtain ⟨-, hfifo⟩ := hway.1 h
    have := PortRun.makeWay_length e r h.1
    simp only [Port.Within, Port.oneShotJoined_outstanding, Port.oneShotJoined_fifo, List.length_append,
      List.length_singleton]
    exact ⟨by omega, hfifo⟩
  · simpa using hway.2

theorem PortRun.Keeps.trigger (e : Entry) (r : PortRun) : r.Keeps (PortRun.trigger e r) := by
  have hjoin : r.Keeps (PortRun.join ({ r.1 with trigSent := some (triggerWord e.lineTag e.phase) }, r.2) e) :=
    .after (.join _ e) (.of_same rfl rfl rfl)
  unfold PortRun.trigger
  dsimp only
  split
  · exact hjoin.trans (.declareAll _)
  · exact hjoin.trans (.declareAll _)
  all_goals exact hjoin

theorem PortRun.Keeps.hold (e : Entry) (r : PortRun) : r.Keeps (PortRun.hold e r) := .of_same rfl rfl rfl

theorem PortRun.Keeps.joinHeld (r : PortRun) : r.Keeps (PortRun.joinHeld r) :=
  .after (.foldl PortRun.Keeps.join _ _) (.of_same rfl rfl rfl)

/-! ## Matching (R60, R62) -/

theorem PortRun.Keeps.enter (e : Entry) (pixels : List Byte) (r : PortRun) : r.Keeps (PortRun.enter e pixels r) := by
  unfold PortRun.enter
  split
  · exact .after (.emit _ _) (.of_drop (k := 0) (xs := [e.marker]) rfl rfl (by simp) rfl)
  · next hroom =>
    refine ⟨fun ⟨ho, _⟩ => ⟨ho, ?_⟩, rfl⟩
    have : ∀ xs : List Item, (xs.filter Item.isPacket).length ≤ xs.length := fun xs => List.length_filter_le _ _
    simp only [Port.put, List.filter_append, List.length_append]
    exact Nat.le_trans (Nat.add_le_add_left (this _) _) (by simp only [List.length_singleton]; omega)

theorem PortRun.Keeps.matchPacket (t : Word16) (p : Phase) (pixels : List Byte) (r : PortRun) :
    r.Keeps (PortRun.matchPacket t p pixels r) := by
  unfold PortRun.matchPacket
  dsimp only
  split
  · next k e _ _ =>
    let dropped : PortRun :=
      ({ (PortRun.resolveFirst k r).1 with outstanding := (PortRun.resolveFirst k r).1.outstanding.drop 1 },
        (PortRun.resolveFirst k r).2)
    have hdropped : (PortRun.resolveFirst k r).Keeps dropped := .of_drop (k := 1) (xs := []) rfl (by simp [dropped]) (by simp) rfl
    have hentered := (PortRun.Keeps.resolveFirst k r).trans (hdropped.trans (.enter e pixels dropped))
    exact .after (.settleFront _) (hentered.trans (.of_same (by simp [dropped]) (by simp [dropped]) (by simp [dropped])))
  · exact .emit _ r

/-! ## The stream state and the words (R47 to R56) -/

theorem PortRun.Keeps.enterStream (st : Stream) (r : PortRun) : r.Keeps (PortRun.enterStream st r) := by
  unfold PortRun.enterStream
  split
  · exact .refl r
  · cases st with
    | unknown => dsimp only; split <;> exact .of_same rfl rfl rfl
    | dark | noise => exact .after (.declareAll _) (.of_same rfl rfl rfl)
    | idle | active => exact .of_same rfl rfl rfl

theorem PortRun.Keeps.countNoise (r : PortRun) : r.Keeps (PortRun.countNoise r) :=
  .ite (.refl r) (.ite (.of_same rfl rfl rfl) (.of_same rfl rfl rfl))

theorem PortRun.Keeps.countBadCheck (r : PortRun) : r.Keeps (PortRun.countBadCheck r) :=
  .ite (.refl r) (.ite (.of_same rfl rfl rfl) (.of_same rfl rfl rfl))

theorem PortRun.Keeps.noiseEvent (r : PortRun) : r.Keeps (PortRun.noiseEvent r) := by
  have hcount : r.Keeps (PortRun.countNoise
      ({ r.1 with assembly := none, fillRun := 0, noiseCount := min 16 (r.1.noiseCount + 1) }, r.2)) :=
    .after (.countNoise _) (.of_same rfl rfl rfl)
  unfold PortRun.noiseEvent
  dsimp only
  split
  · exact .ite (hcount.trans (.enterStream _ _)) hcount
  · exact hcount.trans (.enterStream _ _)
  · exact hcount.trans (.enterStream _ _)
  all_goals exact hcount

theorem PortRun.Keeps.fill (r : PortRun) : r.Keeps (PortRun.fill r) := by
  have hrun : r.Keeps ({ r.1 with fillRun := min 4 (r.1.fillRun + 1) }, r.2) := .of_same rfl rfl rfl
  unfold PortRun.fill
  dsimp only
  split
  · split
    iterate 3 exact hrun.trans (.enterStream _ _)
    all_goals exact hrun
  · exact hrun

theorem PortRun.Keeps.start (t : Word16) (p : Phase) (r : PortRun) : r.Keeps (PortRun.start t p r) := by
  unfold PortRun.start
  dsimp only
  split
  · exact .after (.enterStream _ _) (.of_same rfl rfl rfl)
  · exact .of_same rfl rfl rfl
  all_goals exact .refl r

theorem PortRun.Keeps.finish (active : Bool) (check : Word16) (r : PortRun) :
    r.Keeps (PortRun.finish active check r) := by
  unfold PortRun.finish
  split
  · exact .refl r
  · next a _ =>
    have hnone : r.Keeps ({ r.1 with assembly := none }, r.2) := .of_same rfl rfl rfl
    exact .ite (hnone.trans (.countBadCheck _)) (.ite (hnone.trans (.matchPacket _ _ _ _)) hnone)

/-- A word other than Fill ends the fill run (R51). -/
def PortRun.endFill (r : PortRun) : PortRun := ({ r.1 with fillRun := 0 }, r.2)

theorem PortRun.Keeps.word (active : Bool) (w : CamWord) (r : PortRun) : r.Keeps (PortRun.word active w r) := by
  have hbroken : r.Keeps (PortRun.endFill r) := .of_same rfl rfl rfl
  have haddPixel : ∀ px, (PortRun.endFill r).Keeps ((PortRun.endFill r).1.addPixel px, (PortRun.endFill r).2) := fun px => by
    unfold Port.addPixel
    split
    · exact .refl _
    · exact .of_same rfl rfl rfl
  cases w with
  | fill => exact .ite (.noiseEvent r) (.fill r)
  | start t p => exact .ite (.noiseEvent r) (hbroken.trans (.start t p _))
  | data px => exact .ite (.noiseEvent r) (hbroken.trans (haddPixel px))
  | lineEnd c => exact .ite (.noiseEvent r) (hbroken.trans (.finish active c _))
  | violation => exact .ite (.noiseEvent r) (.noiseEvent r)

/-! ## The port within the part -/

theorem Device.port_setPort (d : Device) (p q : PortId) (x : Port) :
    (d.setPort p x).port q = if q = p then x else d.port q := by
  obtain ⟨l, i⟩ := p
  obtain ⟨m, j⟩ := q
  simp only [Device.port, Device.setPort, Device.lane_modLane_of, PortId.mk.injEq]
  by_cases hm : m = l
  · subst hm
    simp [PerPort.get_set]
  · simp [hm]

/-- One port changes, within its sizes and with its pattern line canonical. -/
theorem Keeps.setPort (d : Device) (p : PortId) {x : Port} (within : (d.port p).Within → x.Within)
    (wf : (d.port p).pattern.wf = true → x.pattern.wf = true) : Keeps d (d.setPort p x) := by
  have hlane : ∀ m, ∃ ports, (d.setPort p x).lane m = { d.lane m with ports := ports } := fun m => by
    rw [Device.setPort, Device.lane_modLane_of]
    split
    · next hm => subst hm; exact ⟨_, rfl⟩
    · exact ⟨(d.lane m).ports, rfl⟩
  refine ⟨id, id, id, fun h q => ?_, fun h m => ?_, fun h => ⟨fun m => ?_, h.2.1, fun r hr => ?_⟩,
    fun h => ⟨fun i hi => ?_, h.2⟩, fun h => ⟨fun q => ?_, h.2⟩⟩
  · rw [Device.port_setPort]
    split
    · exact within (h p)
    · exact h q
  · obtain ⟨ports, hm⟩ := hlane m
    rw [hm]; exact h m
  · obtain ⟨ports, hm⟩ := hlane m
    rw [hm]; exact h.1 m
  · obtain ⟨ports, hm⟩ := hlane r.1
    rw [hm]; exact h.2.2 r hr
  · refine h.1 i ((d.referenced_iff i).mpr ?_)
    obtain ⟨m, hn⟩ := ((d.setPort p x).referenced_iff i).mp hi
    obtain ⟨ports, hm⟩ := hlane m
    rw [hm] at hn; exact ⟨m, hn⟩
  · rw [Device.port_setPort]
    split
    · exact wf (h.1 p)
    · exact h.1 q

theorem Keeps.onPort (d : Device) (p : PortId) {f : PortRun → PortRun} (h : ∀ r : PortRun, r.Keeps (f r)) :
    Keeps d (d.onPort p f) :=
  .after (.raise _ _ _) (.setPort d p (h (d.port p, 0)).1 fun hwf => by rw [(h (d.port p, 0)).2]; exact hwf)

theorem Keeps.onStream (d : Device) (p : PortId) {f : PortRun → PortRun} (h : ∀ r : PortRun, r.Keeps (f r)) :
    Keeps d (d.onStream p f) :=
  .ite (fun _ => .after (.fault _ _ _) (.onPort d p h)) (fun _ => .onPort d p h)

theorem Keeps.onPortSet (d : Device) (l : LaneId) (set : Byte) {f : PortRun → PortRun}
    (h : ∀ r : PortRun, r.Keeps (f r)) : Keeps d (d.onPortSet l set f) := by
  have hfirst : Keeps d (if portIn set .p0 then d.onPort ⟨l, .p0⟩ f else d) :=
    .ite (fun _ => .onPort d _ h) (fun _ => .refl d)
  exact .ite (fun _ => .after (.onPort _ _ h) hfirst) (fun _ => hfirst)

theorem Keeps.camWord (d : Device) (p : PortId) (w : CamWord) : Keeps d (d.camWord p w) :=
  .ite (fun _ => .onStream d p (.word _ w)) (fun _ => .refl d)

theorem Keeps.camSd (d : Device) (p : PortId) (level : Bool) : Keeps d (d.setPort p { d.port p with camSd := level }) :=
  .setPort d p id id

theorem Keeps.camSdFalls (d : Device) (p : PortId) : Keeps d (d.camSdFalls p) :=
  .ite (fun _ => .camSd d p false) (fun _ => .after (.onStream _ p (.enterStream .dark)) (.camSd d p false))

theorem Keeps.camSdRises (d : Device) (p : PortId) : Keeps d (d.camSdRises p) :=
  .ite (fun _ => .camSd d p true) (fun _ =>
    .ite (fun _ => .after (.onStream _ p (.enterStream .unknown)) (.camSd d p true)) (fun _ => .camSd d p true))

/-! ## Port orders -/

theorem Keeps.takeConfigurePort (tag port noise check : Byte) (d : Device) :
    Keeps d (takeConfigurePort tag port noise check d) := by
  unfold Machine.takeConfigurePort
  split
  · exact .reply d _ _ _ _
  · exact .ite (fun _ => .reply d _ _ _ _) (fun _ => .after (.reply _ _ _ _ _) (.setPort d _ id id))

theorem Keeps.takeLoadPattern (tag port : Byte) (offset count : Word16) (pixels : List Byte) (d : Device) :
    Keeps d (takeLoadPattern tag port offset count pixels d) := by
  unfold Machine.takeLoadPattern
  split
  · exact .reply d _ _ _ _
  · refine .ite (fun _ => .ite (fun _ => .after (.reply _ _ _ _ _) ?_) fun _ => .reply d _ _ _ _)
      fun _ => .reply d _ _ _ _
    exact .setPort d _ id (Memory.writeList_wf _ _)

theorem Keeps.takeReadPattern (tag port : Byte) (offset count : Word16) (d : Device) :
    Keeps d (takeReadPattern tag port offset count d) := by
  unfold Machine.takeReadPattern
  split
  · exact .reply d _ _ _ _
  · exact .ite (fun _ => .reply d _ _ _ _) fun _ => .reply d _ _ _ _

theorem Keeps.takeSetInjection (tag port mode : Byte) (n : Word16) (d : Device) :
    Keeps d (takeSetInjection tag port mode n d) := by
  unfold Machine.takeSetInjection
  split
  · exact .ite (fun _ => .after (.reply _ _ _ _ _) (.setPort d _ id id)) fun _ => .reply d _ _ _ _
  · exact .reply d _ _ _ _

theorem Keeps.takeReadPort (tag port : Byte) (d : Device) : Keeps d (takeReadPort tag port d) := by
  unfold Machine.takeReadPort
  split <;> exact .reply d _ _ _ _

end Sys2Proof.Machine

/-! # Registration, windows, crop store and judgement: what their operations keep (chapters 4 to 6) -/

namespace Sys2Proof.Machine

/-! ## The crop store (section 5.8) -/

theorem CropSlot.mem_modify {cs : List CropSlot} {i : Nat} {f : CropSlot → CropSlot} {s : CropSlot}
    (h : s ∈ cs.modify i f) : s ∈ cs ∨ ∃ t ∈ cs, s = f t := by
  obtain ⟨j, hj⟩ := List.mem_iff_getElem?.mp h
  rw [List.getElem?_modify] at hj
  obtain ⟨t, ht, hs⟩ := Option.map_eq_some_iff.mp hj
  have hmem : t ∈ cs := List.mem_of_getElem? ht
  split at hs
  · exact .inr ⟨t, hmem, hs.symm⟩
  · exact .inl (hs ▸ hmem)

/-- One crop slot changes, with its planes canonical. -/
theorem Keeps.modCrop (d : Device) (i : Nat) {f : CropSlot → CropSlot}
    (h : ∀ s, s.planes.wf = true → (f s).planes.wf = true) : Keeps d (d.modCrop i f) :=
  .of_parts (fun _ => (Lane.Keeps.refl _).places) id id id id rfl rfl fun hd s hs => by
    obtain hs | ⟨t, ht, rfl⟩ := CropSlot.mem_modify hs
    exacts [hd s hs, h t (hd t ht)]

/-- No property speaks of the crop queue, the evaluation or the number of free values. -/
theorem Keeps.setCropQueue (d : Device) (q : List Nat) : Keeps d { d with cropQueue := q } :=
  ⟨id, id, id, id, id, id, id, id⟩

theorem Keeps.setEvaluation (d : Device) (w : Option Window) : Keeps d { d with evaluation := w } :=
  ⟨id, id, id, id, id, id, id, id⟩

theorem Keeps.setFreeIndex (d : Device) (n : Nat) : Keeps d { d with freeIndex := n } :=
  ⟨id, id, id, id, id, id, id, id⟩

theorem Keeps.freeCrop (d : Device) (i : Nat) : Keeps d (d.freeCrop i) :=
  .after (.setCropQueue _ _) (.modCrop d i fun _ => id)

theorem Keeps.freeCropOf (d : Device) (w : Window) : Keeps d (d.freeCropOf w) := by
  unfold Device.freeCropOf
  split
  · exact .refl d
  · exact .freeCrop d _

theorem Keeps.takeCrop (d : Device) (w : Window) (i : Nat) : Keeps d (d.takeCrop w i) :=
  .modCrop d i fun _ _ => rfl

theorem Keeps.copyCrop (x : Item) (d : Device) (w : Window) : Keeps d (Device.copyCrop x d w) := by
  unfold Device.copyCrop
  split
  · exact .modCrop d _ fun _ => Memory.writeList_wf _ _
  · exact .refl d

theorem Keeps.holdCrop (d : Device) (i : Nat) : Keeps d (d.holdCrop i) :=
  .after (.setCropQueue _ _) (.modCrop d i fun _ => id)

/-! ## Registration (chapter 4) -/

@[simp] theorem Context.writeAbort_num (c : Context) (a : AbortCause) : (c.writeAbort a).num = c.num := by
  unfold Context.writeAbort; split <;> rfl
@[simp] theorem Context.writeAbort_slot (c : Context) (a : AbortCause) : (c.writeAbort a).slot = c.slot := by
  unfold Context.writeAbort; split <;> rfl
@[simp] theorem Context.writeAbort_state (c : Context) (a : AbortCause) : (c.writeAbort a).state = c.state := by
  unfold Context.writeAbort; split <;> rfl

/-- The registration unit of a lane changes. -/
theorem Lane.Keeps.setReg (L : Lane) (r : Option Registration) : L.Keeps { L with reg := r } :=
  .of_same rfl rfl rfl rfl rfl id id rfl rfl

theorem Keeps.endRegistration (d : Device) (l : LaneId) (r : Registration) (st : RegState) :
    Keeps d (d.endRegistration l r st) := by
  have hrecord : Keeps d ((d.modLane l (fun L => { L with reg := none })).modCtx l r.ctx (Context.recordReg r st)) :=
    .after (.modCtx _ l _ (fun _ => rfl) (fun _ => rfl) (fun _ => rfl)) (.modLane d l (.setReg _ none))
  unfold Device.endRegistration
  dsimp only
  split
  · refine .after (.raiseLane _ l _) (.after ?_ hrecord)
    exact .modCtx _ l _ (fun _ => by simp [Context.regFailed]) (fun _ => by simp [Context.regFailed])
      (fun _ => by simp [Context.regFailed])
  all_goals exact hrecord

theorem Keeps.registerItem (d : Device) (l : LaneId) (p : LocalPort) (x : Item) : Keeps d (d.registerItem l p x) := by
  unfold Device.registerItem
  split
  · exact .refl d
  · exact .ite (fun _ => .ite (fun _ => .endRegistration d l _ _) fun _ => .modLane d l (.setReg _ _)) fun _ => .refl d

theorem Keeps.registrationDeadline (d : Device) (l : LaneId) : Keeps d (d.registrationDeadline l) := by
  unfold Device.registrationDeadline
  split
  · exact .refl d
  · exact .endRegistration d l _ _

/-! ## Windows (sections 5.2 to 5.6) -/

/-- The open list of a lane changes and grows no longer than its size. -/
theorem Lane.Keeps.setOpenList (L : Lane) {ws : List Window} (h : L.openList.length ≤ 512 → ws.length ≤ 512) :
    L.Keeps { L with openList := ws } where
  ports := rfl
  within := fun ⟨ho, hq⟩ => ⟨h ho, hq⟩
  ordered := id
  retiring := fun _ c hc hs => ⟨c, hc, rfl, hs⟩
  names := fun _ => id

theorem insertWindow_length (w : Window) (ws : List Window) : (insertWindow w ws).length = ws.length + 1 := by
  induction ws with
  | nil => rfl
  | cons v ws ih =>
    unfold insertWindow
    split <;> simp [ih]

/-- The crop slot found for an opening window is taken, if one was (R100). -/
def Device.takeCropIf (d : Device) (w : Window) : Option Nat → Device
  | none => d
  | some i => d.takeCrop w i

theorem Keeps.takeCropIf (d : Device) (w : Window) (slot : Option Nat) : Keeps d (d.takeCropIf w slot) := by
  cases slot with
  | none => exact .refl d
  | some i => exact .takeCrop d w i

@[simp] theorem Device.takeCropIf_lane (d : Device) (w : Window) (slot : Option Nat) (m : LaneId) :
    (d.takeCropIf w slot).lane m = d.lane m := by cases slot <;> rfl

/-- The crop slot an opening joint gets: the Free one of lowest number, where the joint wants one (R100). -/
def Device.cropFor (d : Device) (e : JointEntry) : Option Nat := if e.crop = 1 then d.lowestFree else none

/-- A joint scheduled while the open list is full (R87). -/
def Context.noteOverflow (c : Context) : Context :=
  { c with causes := { c.causes with windowOverflow := c.causes.windowOverflow + 1 }, pointer := c.pointer + 1 }

/-- A joint scheduled with a window opened; `missed` is 1 where it found no crop slot (R86, R100). -/
def Context.noteOpened (missed : Nat) (c : Context) : Context :=
  { c with opened := c.opened + 1, pointer := c.pointer + 1, cropsMissed := c.cropsMissed + missed }

theorem Device.scheduleJoint_of_full {d : Device} {l : LaneId} (c : Context) (e : JointEntry) (dx dy : Int)
    (h : 512 ≤ (d.lane l).openList.length) :
    d.scheduleJoint l c e dx dy = (d.modCtx l c.num Context.noteOverflow).raiseLane l .windowOverflow := if_pos h

theorem Device.scheduleJoint_of_room {d : Device} {l : LaneId} (c : Context) (e : JointEntry) (dx dy : Int)
    (h : (d.lane l).openList.length < 512) :
    d.scheduleJoint l c e dx dy =
      ((d.takeCropIf (openedWindow l c e dx dy) (d.cropFor e)).modLane l (fun L =>
        { L with openList := insertWindow { openedWindow l c e dx dy with crop := d.cropFor e } L.openList })).modCtx l
        c.num (Context.noteOpened (if e.crop = 1 ∧ d.cropFor e = none then 1 else 0)) := by
  have hroom : ¬ openListPlaces ≤ (d.lane l).openList.length := Nat.not_le_of_lt h
  simp only [Device.scheduleJoint, if_neg hroom, ← Device.cropFor.eq_1]
  cases d.cropFor e <;> rfl

theorem Keeps.scheduleJoint (d : Device) (l : LaneId) (c : Context) (e : JointEntry) (dx dy : Int) :
    Keeps d (d.scheduleJoint l c e dx dy) := by
  rcases Nat.lt_or_ge (d.lane l).openList.length 512 with hroom | hfull
  · rw [Device.scheduleJoint_of_room c e dx dy hroom]
    refine .after (.modCtx _ l _ (fun _ => rfl) (fun _ => rfl) (fun _ => rfl))
      (.after (.modLane _ l ?_) (.takeCropIf d _ _))
    refine .setOpenList _ fun _ => ?_
    rw [insertWindow_length, Device.takeCropIf_lane]
    exact hroom
  · rw [Device.scheduleJoint_of_full c e dx dy hfull]
    exact .after (.raiseLane _ l _) (.modCtx d l _ (fun _ => rfl) (fun _ => rfl) (fun _ => rfl))

theorem Keeps.openJoints (l : LaneId) (n : Fin 4) (line fuel : Nat) (d : Device) :
    Keeps d (Device.openJoints l n line fuel d) := by
  induction fuel generalizing d with
  | zero => exact .refl d
  | succ fuel ih =>
    unfold Device.openJoints
    split
    · exact .refl d
    · split
      · exact .refl d
      · exact .refl d
      · exact .ite (fun _ => .after (ih _) (.scheduleJoint d l _ _ _ _)) fun _ => .refl d

theorem Keeps.feedWindows (d : Device) (l : LaneId) (p : LocalPort) (x : Item) : Keeps d (d.feedWindows l p x) :=
  .after (.foldl (Keeps.copyCrop x) _ _) (.modLane d l (.setOpenList _ (by simp)))

theorem Device.moveToClose_lane (d : Device) (w : Window) (m : LaneId) :
    (d.moveToClose w).lane m =
      if m = w.lane then
        { d.lane w.lane with openList := (d.lane w.lane).openList.filter (fun v => decide (v.key ≠ w.key)) }
      else d.lane m :=
  Device.lane_modLane_of d w.lane m (fun L => { L with openList := L.openList.filter (fun v => decide (v.key ≠ w.key)) })

theorem Keeps.offerClose (d : Device) (w : Window) : Keeps d (d.offerClose w) := by
  unfold Device.offerClose
  split
  · next hroom =>
    obtain ⟨hnone, hfew⟩ : d.waiting = [] ∧ d.closeQueue.length < closeQueuePlaces := by simpa using hroom
    have hmoved := Keeps.modLane d w.lane (f := fun L => { L with openList := L.openList.filter (fun v => decide (v.key ≠ w.key)) })
      (.setOpenList _ (List.length_filter_le _ _).trans)
    refine ⟨hmoved.notices, fun h => ⟨?_, fun hw => absurd hnone hw⟩, hmoved.reports, hmoved.ports, hmoved.lanes,
      hmoved.ordered, hmoved.referenced, hmoved.pixels⟩
    show (d.closeQueue ++ [w]).length ≤ 128
    rw [List.length_append]
    exact hfew
  · next hwait =>
    have hfull : d.waiting = [] → 128 ≤ d.closeQueue.length := fun hnone =>
      Nat.le_of_not_lt fun hfew => hwait (by simp [hnone, closeQueuePlaces, hfew])
    refine .after (.raiseDevice _ _) ⟨id, fun h => ⟨h.1, fun _ => ?_⟩, id, id, id, id, id, id⟩
    by_cases hnone : d.waiting = []
    · exact Nat.le_antisymm h.1 (hfull hnone)
    · exact h.2 hnone

/-- What moving a window and setting the waiting order leave, the refilling of the close queue leaves. -/
theorem Device.refillFrom_kept {α : Type} (g : Device → α) (hmove : ∀ d w, g (d.moveToClose w) = g d)
    (hwait : ∀ (d : Device) ks, g { d with waiting := ks } = g d) (ks : List WindowKey) (d : Device) :
    g (Device.refillFrom ks d) = g d := by
  induction ks generalizing d with
  | nil => exact hwait d []
  | cons k rest ih =>
    unfold Device.refillFrom
    split
    · split
      · exact ih d
      · rw [ih, hmove]
    · exact hwait d _

theorem Device.refillFrom_lane_keeps (ks : List WindowKey) (d : Device) (m : LaneId) :
    (d.lane m).Keeps ((Device.refillFrom ks d).lane m) := by
  induction ks generalizing d with
  | nil => exact .refl _
  | cons k rest ih =>
    unfold Device.refillFrom
    split
    · split
      · exact ih d
      · next w _ =>
        refine .trans ?_ (ih _)
        rw [Device.moveToClose_lane]
        split
        · next hm => subst hm; exact .setOpenList _ (List.length_filter_le _ _).trans
        · exact .refl _
    · exact .refl _

/-- Once the close queue has been refilled nothing waits or it is full. -/
theorem Device.refillFrom_closing (ks : List WindowKey) (d : Device) (h : d.closeQueue.length ≤ 128) :
    CloseQueueWithin (Device.refillFrom ks d) := by
  induction ks generalizing d with
  | nil => exact ⟨h, fun hw => absurd rfl hw⟩
  | cons k rest ih =>
    unfold Device.refillFrom
    split
    · next hroom =>
      split
      · exact ih d h
      · refine ih _ ?_
        show (d.closeQueue ++ [_]).length ≤ 128
        rw [List.length_append]
        exact hroom
    · next hfull => exact ⟨h, fun _ => Nat.le_antisymm h (Nat.le_of_not_lt hfull)⟩

/-- A refilling after places of the close queue were freed and windows left the waiting order. -/
theorem Keeps.refillClose {d e : Device}
    (h : Keeps d { e with closeQueue := d.closeQueue, waiting := d.waiting })
    (hlen : e.closeQueue.length ≤ d.closeQueue.length) : Keeps d e.refillClose := by
  have hrefill : Keeps { e with closeQueue := d.closeQueue, waiting := d.waiting } e.refillClose := by
    have hkept : ∀ {α : Type} (g : Device → α), (∀ d w, g (d.moveToClose w) = g d) →
        (∀ (d : Device) ks, g { d with waiting := ks } = g d) → g e.refillClose = g e :=
      fun g hm hw => Device.refillFrom_kept g hm hw _ e
    have hlanes : ∀ m, (e.lane m).Keeps (e.refillClose.lane m) := Device.refillFrom_lane_keeps _ e
    have hcond := hkept Device.cond (fun _ _ => rfl) (fun _ _ => rfl)
    have htrunk := hkept Device.trunk (fun _ _ => rfl) (fun _ _ => rfl)
    have horder := hkept Device.retireOrder (fun _ _ => rfl) (fun _ _ => rfl)
    refine .of_parts (fun m => (hlanes m).places) ?_
      (fun hc => Device.refillFrom_closing _ e (hlen.trans hc.1)) ?_ (.of_lanes hlanes horder)
      (hkept Device.slots (fun _ _ => rfl) (fun _ _ => rfl)) (hkept Device.validation (fun _ _ => rfl) (fun _ _ => rfl)) ?_
    · simp only [NoticesAgree, hcond]; exact id
    · simp only [ReportsWithin, htrunk, horder]; exact id
    · rw [hkept Device.crops (fun _ _ => rfl) (fun _ _ => rfl)]; exact id
  exact h.trans hrefill

theorem Keeps.resolveItem (d : Device) (l : LaneId) (p : LocalPort) (x : Item) : Keeps d (d.resolveItem l p x) :=
  .after (.foldl Keeps.offerClose _ _)
    (.modLane d l (.of_same rfl (List.length_map _) rfl rfl rfl id id rfl rfl))

theorem Keeps.handleItem (d : Device) (l : LaneId) (p : LocalPort) (x : Item) : Keeps d (d.handleItem l p x) :=
  ((Keeps.registerItem d l p x).trans (.feedWindows _ l p x)).trans (.resolveItem _ l p x)

theorem Keeps.takeItem (d : Device) (l : LaneId) : Keeps d (d.takeItem l) := by
  unfold Device.takeItem
  split
  · exact .refl d
  · next p _ =>
    dsimp only
    split
    · exact .refl d
    · next x rest hfifo =>
      refine .after (.handleItem _ l p x) (.after (.modLane _ l ?_) (.setPort d _ (fun ⟨ho, hf⟩ => ⟨ho, ?_⟩) id))
      · exact .of_same rfl rfl rfl rfl rfl id id rfl rfl
      · rw [hfifo] at hf
        exact ((List.sublist_cons_self x rest).filter _).length_le.trans hf

/-- Windows leave the waiting order. -/
theorem Keeps.filterWaiting (d : Device) (p : WindowKey → Bool) : Keeps d { d with waiting := d.waiting.filter p } :=
  ⟨id, fun ⟨hlen, hfull⟩ => ⟨hlen, fun hw => hfull fun hnone => hw (by rw [hnone]; rfl)⟩, id, id, id, id, id, id⟩

theorem Keeps.abortWindows (d : Device) (l : LaneId) (c : Context) : Keeps d (d.abortWindows l c) := by
  unfold Device.abortWindows
  dsimp only
  refine .after (.modCtx _ l _ (fun _ => rfl) (fun _ => rfl) (fun _ => rfl))
    (.after (.filterWaiting _ _) (.after (.modLane _ l ?_) (.foldl Keeps.freeCropOf _ d)))
  exact .setOpenList _ (List.length_filter_le _ _).trans

/-! ## Judgement (chapter 6) -/

@[simp] theorem Context.countVerdict_num (v : Verdict) (b : Bool) (c : Context) : (c.countVerdict v b).num = c.num := by
  cases v <;> rfl
@[simp] theorem Context.countVerdict_slot (v : Verdict) (b : Bool) (c : Context) : (c.countVerdict v b).slot = c.slot := by
  cases v <;> rfl
@[simp] theorem Context.countVerdict_state (v : Verdict) (b : Bool) (c : Context) :
    (c.countVerdict v b).state = c.state := by cases v <;> rfl

theorem Keeps.offerReport (d : Device) (c : Context) (w : Window) (j : Judged) : Keeps d (d.offerReport c w j) := by
  unfold Device.offerReport
  split
  · next hroom =>
    have hjoined : Keeps d (d.modTrunk (fun t => { t with verdicts := t.verdicts ++
        [d.buildReport c w j (keepsCrop j.verdict && w.crop.isSome)] })) :=
      ⟨id, id, fun ⟨_, hp, hw⟩ => ⟨by
        show (d.trunk.verdicts ++ [_]).length ≤ 1024
        rw [List.length_append]; exact hroom, hp, hw⟩, id, id, id, id, id⟩
    dsimp only
    split
    · exact hjoined
    · exact .ite (fun _ => hjoined.trans (.holdCrop _ _)) fun _ => hjoined.trans (.freeCrop _ _)
  · refine .after (.freeCropOf _ w) (.after (.fault _ _ _) (.after (.raiseDevice _ _) ?_))
    exact .modCtx d _ _ (fun _ => rfl) (fun _ => rfl) (fun _ => rfl)

theorem Keeps.completeEvaluation (d : Device) : Keeps d d.completeEvaluation := by
  unfold Device.completeEvaluation
  split
  · exact .refl d
  · next w _ =>
    dsimp only
    split
    · exact .after (.freeCropOf _ w) (.setEvaluation d none)
    · next c _ =>
      have hcounted : Keeps d ((({ d with evaluation := none } : Device).modCtx w.lane c.num
          (Context.countVerdict (judge ((d.slot c.slot).rule w.rule) w).verdict w.injected))) :=
        .after (.modCtx _ _ _ (by simp) (by simp) (by simp)) (.setEvaluation d none)
      exact .after (.tryDecide _ _ _)
        (.ite (fun _ => .after (.offerReport _ c w _) hcounted) fun _ => .after (.freeCropOf _ w) hcounted)

theorem Keeps.takeEvaluation (d : Device) : Keeps d d.takeEvaluation := by
  unfold Device.takeEvaluation
  split
  · next w rest hnone hq =>
    exact .refillClose (.setEvaluation d _) (by rw [hq]; exact Nat.le_succ _)
  · exact .refl d

theorem Keeps.takeSetReportMode (tag lane mode detail : Byte) (d : Device) :
    Keeps d (takeSetReportMode tag lane mode detail d) := by
  unfold Machine.takeSetReportMode
  split
  · exact .after (.reply _ _ _ _ _) (.modLane d _ (.of_same rfl rfl rfl rfl rfl id id rfl rfl))
  · exact .reply d _ _ _ _

theorem Keeps.takeReadWindows (tag lane : Byte) (start : Word16) (count : Byte) (d : Device) :
    Keeps d (takeReadWindows tag lane start count d) := by
  unfold Machine.takeReadWindows
  split
  · exact .reply d _ _ _ _
  · exact .ite (fun _ => .reply d _ _ _ _) fun _ => .reply d _ _ _ _

end Sys2Proof.Machine

/-! # Conveyor motion, strobe sequencer and lane states: what their operations keep (chapters 2 and 7) -/

namespace Sys2Proof.Machine

/-! ## What leaves a lane's work alone -/

/-- Two lanes that differ in their ports, strobe sequencer and gate unit alone. -/
def Lane.SameWork (L M : Lane) : Prop :=
  ∃ (ports : PerPort Port) (strobe : Strobe) (gate : Gate), M = { L with ports := ports, strobe := strobe, gate := gate }

theorem Lane.SameWork.refl (L : Lane) : L.SameWork L := ⟨_, _, _, rfl⟩

theorem Lane.SameWork.trans {L M N : Lane} (h : L.SameWork M) (k : M.SameWork N) : L.SameWork N := by
  obtain ⟨_, _, _, rfl⟩ := h
  obtain ⟨_, _, _, rfl⟩ := k
  exact ⟨_, _, _, rfl⟩

theorem Lane.SameWork.live {L M : Lane} (h : L.SameWork M) : M.live = L.live := by obtain ⟨_, _, _, rfl⟩ := h; rfl
theorem Lane.SameWork.mode {L M : Lane} (h : L.SameWork M) : M.mode = L.mode := by obtain ⟨_, _, _, rfl⟩ := h; rfl

theorem Device.fault_sameWork (d : Device) (l : LaneId) (k : FaultKind) (m : LaneId) :
    (d.lane m).SameWork ((d.fault l k).lane m) := by
  rw [Device.fault_lane]
  split
  · next hm => subst hm; exact ⟨_, _, _, rfl⟩
  · exact .refl _

theorem Device.setPort_sameWork (d : Device) (p : PortId) (x : Port) (m : LaneId) :
    (d.lane m).SameWork ((d.setPort p x).lane m) := by
  rw [Device.setPort, Device.lane_modLane_of]
  split
  · next hm => subst hm; exact ⟨_, _, _, rfl⟩
  · exact .refl _

theorem Device.onPort_sameWork (d : Device) (p : PortId) (f : PortRun → PortRun) (m : LaneId) :
    (d.lane m).SameWork ((d.onPort p f).lane m) := d.setPort_sameWork p _ m

theorem Device.onPortSet_sameWork (d : Device) (l : LaneId) (set : Byte) (f : PortRun → PortRun) (m : LaneId) :
    (d.lane m).SameWork ((d.onPortSet l set f).lane m) := by
  unfold Device.onPortSet
  dsimp only
  split <;> split
  · exact (d.onPort_sameWork _ f m).trans (Device.onPort_sameWork _ _ f m)
  · exact d.onPort_sameWork _ f m
  · exact d.onPort_sameWork _ f m
  · exact .refl _

theorem Device.setStrobe_sameWork (d : Device) (l : LaneId) (f : Lane → Strobe) (m : LaneId) :
    (d.lane m).SameWork ((d.modLane l (fun L => { L with strobe := f L })).lane m) := by
  rw [Device.lane_modLane_of]
  split
  · next hm => subst hm; exact ⟨_, _, _, rfl⟩
  · exact .refl _

theorem Device.enterFlash_sameWork (d : Device) (l : LaneId) (r : LineRun) (p : Phase) (m : LaneId) :
    (d.lane m).SameWork ((d.enterFlash l r p).lane m) :=
  (d.setStrobe_sameWork l _ m).trans (Device.onPortSet_sameWork _ l _ _ m)

theorem Device.strobeLine_sameWork (d : Device) (l : LaneId) (r : LineRun) (m : LaneId) :
    (d.lane m).SameWork ((d.strobeLine l r).lane m) := by
  unfold Device.strobeLine
  split
  · split
    · exact .refl _
    · exact d.enterFlash_sameWork l r _ m
  · exact Device.onPortSet_sameWork (d.raiseLane l .overspeed) l r.portSet _ m

/-! ## The strobe sequencer (section 2.4) -/

theorem Lane.Keeps.setStrobe (L : Lane) (x : Strobe) : L.Keeps { L with strobe := x } :=
  .of_same rfl rfl rfl rfl rfl id id rfl rfl

theorem Keeps.enterFlash (d : Device) (l : LaneId) (r : LineRun) (p : Phase) : Keeps d (d.enterFlash l r p) :=
  .after (.onPortSet _ l _ (.trigger _)) (.modLane d l (.setStrobe _ _))

theorem Keeps.strobeLine (d : Device) (l : LaneId) (r : LineRun) : Keeps d (d.strobeLine l r) := by
  unfold Device.strobeLine
  split
  · split
    · exact .refl d
    · exact .enterFlash d l r _
  · exact .after (.onPortSet _ l _ fun x => .foldl (fun x p => .hold _ x) _ x) (.raiseLane d l _)

theorem Keeps.flashEnds (d : Device) (l : LaneId) : Keeps d (d.flashEnds l) := by
  unfold Device.flashEnds
  split
  · exact .modLane d l (.setStrobe _ _)
  all_goals exact .refl d

theorem Keeps.sequenceEnds (d : Device) (l : LaneId) : Keeps d (d.sequenceEnds l) :=
  .after (.onPort _ _ .joinHeld) (.after (.onPort _ _ .joinHeld) (.modLane d l (.setStrobe _ _)))

theorem Keeps.settleExpires (d : Device) (l : LaneId) : Keeps d (d.settleExpires l) := by
  unfold Device.settleExpires
  split
  · next p _ =>
    dsimp only
    have hzero : Keeps d (d.modLane l (fun L => { L with strobe := { L.strobe with settle := L.strobe.settle.set p 0 } })) :=
      .modLane d l (.setStrobe _ _)
    split
    · exact hzero.trans (.sequenceEnds _ l)
    · split
      · exact hzero.trans (.enterFlash _ l _ _)
      · exact hzero.trans (.sequenceEnds _ l)
  all_goals exact .refl d

/-! ## Lane state and timers (R45, R128 to R130) -/

/-- A change that leaves the live contexts as they are. -/
theorem Lane.Keeps.of_live {L M : Lane} (places : L.KeepsPlaces M) (live : M.live = L.live)
    (ordered : L.Ordered → M.Ordered) : L.Keeps M :=
  ⟨places.1, places.2.1, ordered, fun _ c hc hs => ⟨c, live ▸ hc, rfl, hs⟩, places.2.2⟩

/-- Loading the idle timer touches nothing but that timer, and only on a lane that is Ready. -/
theorem Lane.loadIdle_eq (L : Lane) :
    L.loadIdle = L ∨ L.mode = .ready ∧ L.loadIdle = { L with idleLeft := some (L.settings.idleTimeout.toNat * 1000000) } := by
  unfold Lane.loadIdle
  split
  · next h => exact .inr ⟨h.2.1, rfl⟩
  · exact .inl rfl

theorem Lane.Keeps.loadIdle (L : Lane) : L.Keeps L.loadIdle := by
  rcases L.loadIdle_eq with h | ⟨hready, h⟩
  · rw [h]; exact .refl L
  · rw [h]
    exact .of_live ⟨rfl, id, fun _ => id⟩ rfl fun ⟨hnum, hscan, hone, hw, _⟩ => ⟨hnum, hscan, hone, hw, fun _ => hready⟩

/-- A lane with no Scanning context and its warm-up timer stopped is ordered once it is Ready. -/
theorem Lane.Ordered.enterReady {L : Lane} (hnum : (L.live.map fun c => c.num).Nodup)
    (hnone : ∀ c ∈ L.live, c.state ≠ .scanning) (hw : L.warmupLeft = none) : L.enterReady.Ordered := by
  refine (Lane.Keeps.loadIdle _).ordered ⟨hnum, ?_, ?_, ?_, fun _ => rfl⟩
  · exact iff_of_false (by simp) fun ⟨c, hc, hs⟩ => hnone c hc hs
  · rw [List.filter_eq_nil_iff.mpr fun c hc => by simpa using hnone c hc]; exact Nat.zero_le 1
  · simp [hw]

theorem Lane.enterReady_places (L : Lane) : L.KeepsPlaces L.enterReady := (Lane.Keeps.loadIdle { L with mode := .ready, light := .ready }).places

theorem Lane.loadIdle_live (L : Lane) : L.loadIdle.live = L.live := by
  rcases L.loadIdle_eq with h | ⟨_, h⟩ <;> rw [h]

theorem Lane.enterReady_live (L : Lane) : L.enterReady.live = L.live := Lane.loadIdle_live _

/-- In an ordered lane that is not Scanning no context is. -/
theorem Lane.Ordered.none_scanning {L : Lane} (h : L.Ordered) (hmode : L.mode ≠ .scanning) :
    ∀ c ∈ L.live, c.state ≠ .scanning := fun c hc hs => hmode (h.2.1.mpr ⟨c, hc, hs⟩)

theorem Lane.Keeps.warmupExpires (L : Lane) (hmode : L.mode ≠ .scanning) : L.Keeps L.warmupExpires :=
  .of_live (Lane.enterReady_places { L with warmupLeft := none }) (Lane.enterReady_live _) fun h =>
    Lane.Ordered.enterReady h.1 (h.none_scanning hmode) rfl

theorem Lane.Keeps.enterWarming {L : Lane} (hmode : L.mode = .standby) : L.Keeps L.enterWarming := by
  have hwarming : L.Keeps { L with mode := .warming, light := .warming,
                                   warmupLeft := some (L.settings.warmupTime.toNat * 1000) } :=
    .of_live ⟨rfl, id, fun _ => id⟩ rfl fun h =>
      ⟨h.1, iff_of_false (by simp) fun ⟨c, hc, hs⟩ => h.none_scanning (by simp [hmode]) c hc hs, h.2.2.1, fun _ => rfl,
        fun hi => absurd (h.2.2.2.2 hi) (by simp [hmode])⟩
  unfold Lane.enterWarming
  dsimp only
  split
  · exact hwarming.trans (.warmupExpires _ (by simp))
  · exact hwarming

theorem Lane.Keeps.enterStandby (L : Lane) (hmode : L.Ordered → L.mode ≠ .scanning) : L.Keeps L.enterStandby :=
  .of_live ⟨rfl, id, fun _ => id⟩ rfl fun h =>
    ⟨h.1, iff_of_false (by simp [Lane.enterStandby]) fun ⟨c, hc, hs⟩ => h.none_scanning (hmode h) c hc hs, h.2.2.1, nofun, nofun⟩

theorem Keeps.warmupExpires (d : Device) (l : LaneId) : Keeps d (d.warmupExpires l) := by
  refine .ite (fun hruns => .modLane d l ?_) fun _ => .refl d
  exact .of_live (Lane.enterReady_places _) (Lane.enterReady_live _) fun h =>
    Lane.Ordered.enterReady h.1 (h.none_scanning (by simp [h.2.2.2.1 hruns])) rfl

theorem Keeps.idleExpires (d : Device) (l : LaneId) : Keeps d (d.idleExpires l) :=
  .ite (fun hruns => .modLane d l (.enterStandby _ fun h => by simp [h.2.2.2.2 hruns])) fun _ => .refl d

/-! ## The end of a scan (R37, R129, R138) -/

/-- A context out of Waiting or Scanning: Passed where it has passed the gate, otherwise Settling. -/
def Context.settle (c : Context) : Context := { c with state := if c.passedGate then .passed else .settling }

theorem Context.settle_state (c : Context) : c.settle.state = .passed ∨ c.settle.state = .settling := by
  unfold Context.settle
  dsimp only
  split
  exacts [.inl rfl, .inr rfl]

theorem Context.settle_not_scanning (c : Context) : c.settle.state ≠ .scanning := by
  rcases c.settle_state with h | h <;> simp [h]

theorem Device.settleCtx_eq (d : Device) (l : LaneId) (n : Fin 4) : d.settleCtx l n = d.modCtx l n Context.settle := rfl

/-- The Scanning context leaves Scanning and its lane becomes Ready. -/
theorem Lane.Keeps.leaveScanning {L : Lane} {n : Fin 4} (hs : ∃ y ∈ L.live, y.num = n ∧ y.state = .scanning) :
    L.Keeps (L.modCtx n Context.settle).enterReady := by
  obtain ⟨y, hy, hyn, hys⟩ := hs
  have hnone : L.Ordered → ∀ c ∈ (L.modCtx n Context.settle).live, c.state ≠ .scanning := by
    intro ho x hx
    obtain ⟨c, hc, rfl⟩ := List.mem_map.mp hx
    split
    · exact c.settle_not_scanning
    · next hcn => exact fun hcs => hcn (ho.eq_of_scanning hc hy hcs hys ▸ hyn)
  have hnums : ((L.modCtx n Context.settle).live.map fun c => c.num) = L.live.map fun c => c.num := by
    simp only [Lane.modCtx, List.map_map]
    exact List.map_congr_left fun c _ => by simp only [Function.comp]; split <;> rfl
  have hplaces := Lane.enterReady_places (L.modCtx n Context.settle)
  refine ⟨hplaces.1, hplaces.2.1, fun ho => ?_, fun ho c hc hcs => ?_, fun i hi => ?_⟩
  · refine Lane.Ordered.enterReady (hnums ▸ ho.1) (hnone ho) ?_
    have hmode : L.mode = .scanning := ho.2.1.mpr ⟨y, hy, hys⟩
    exact Option.not_isSome_iff_eq_none.mp fun h => by simp [ho.2.2.2.1 h] at hmode
  · refine ⟨c, ?_, rfl, hcs⟩
    rw [Lane.enterReady_live]
    refine List.mem_map.mpr ⟨c, hc, if_neg fun hcn => ?_⟩
    simp [ho.eq_of_num hc hy (hcn.trans hyn.symm), hys] at hcs
  · rcases hplaces.2.2 i hi with h | h | ⟨x, hx, hslot⟩
    · exact .inl h
    · exact .inr (.inl h)
    · obtain ⟨c, hc, rfl⟩ := List.mem_map.mp hx
      exact .inr (.inr ⟨c, hc, by split at hslot <;> exact hslot⟩)

theorem Device.leaveScanning_eq (d : Device) (l : LaneId) (n : Fin 4) :
    d.leaveScanning l n = (d.modLane l fun L => (L.modCtx n Context.settle).enterReady).tryDecide l n := by
  rw [Device.leaveScanning, Device.settleCtx_eq]
  unfold Device.modCtx Device.modLane
  rw [Device.lane_setLane, Device.setLane, Device.setLane, Device.setLane, PerLane.set_set]

theorem Keeps.leaveScanning {d : Device} {l : LaneId} {n : Fin 4} (hs : (n, .scanning) ∈ d.states l) :
    Keeps d (d.leaveScanning l n) := by
  obtain ⟨y, hy, hys⟩ := List.mem_map.mp hs
  rw [Device.leaveScanning_eq]
  exact .after (.tryDecide _ l n) (.modLane d l (.leaveScanning ⟨y, hy, (Prod.mk.inj hys).1, (Prod.mk.inj hys).2⟩))

/-! ## Line issue (R36 to R38) -/

theorem Device.endRegistration_states (d : Device) (l : LaneId) (r : Registration) (st : RegState) (m : LaneId) :
    (d.endRegistration l r st).states m = d.states m := by
  have hreg : (d.modLane l (fun L => { L with reg := none })).states m = d.states m := by
    refine Device.states_congr ?_
    rw [Device.lane_modLane_of]
    split
    · next hm => rw [hm]
    · rfl
  have hrecord := (Device.states_modCtx (d.modLane l (fun L => { L with reg := none })) l m r.ctx
    (f := Context.recordReg r st) (fun _ => rfl) (fun _ => rfl)).trans hreg
  unfold Device.endRegistration
  dsimp only
  split
  · rw [show ∀ (e : Device), (e.raiseLane l .registrationFailed).states m = e.states m from fun _ => rfl,
      Device.states_modCtx _ _ _ _ (by simp [Context.regFailed]) (by simp [Context.regFailed]), hrecord]
  all_goals exact hrecord

theorem Device.registrationDeadline_states (d : Device) (l m : LaneId) :
    (d.registrationDeadline l).states m = d.states m := by
  unfold Device.registrationDeadline
  split
  · rfl
  · exact d.endRegistration_states l _ _ m

theorem Device.scheduleJoint_states (d : Device) (l : LaneId) (c : Context) (e : JointEntry) (dx dy : Int) (m : LaneId) :
    (d.scheduleJoint l c e dx dy).states m = d.states m := by
  rcases Nat.lt_or_ge (d.lane l).openList.length 512 with hroom | hfull
  · rw [Device.scheduleJoint_of_room c e dx dy hroom]
    rw [Device.states_modCtx _ l m c.num (f := Context.noteOpened _) (fun _ => rfl) (fun _ => rfl)]
    refine Device.states_congr ?_
    rw [Device.lane_modLane_of, Device.takeCropIf_lane, Device.takeCropIf_lane]
    split
    · next hm => rw [hm]
    · rfl
  · rw [Device.scheduleJoint_of_full c e dx dy hfull]
    exact Device.states_modCtx d l m c.num (f := Context.noteOverflow) (fun _ => rfl) (fun _ => rfl)

theorem Device.openJoints_states (l : LaneId) (n : Fin 4) (line fuel : Nat) (d : Device) (m : LaneId) :
    (Device.openJoints l n line fuel d).states m = d.states m := by
  induction fuel generalizing d with
  | zero => rfl
  | succ fuel ih =>
    unfold Device.openJoints
    split
    · rfl
    · split
      · rfl
      · rfl
      · dsimp only
        split
        · rw [ih, Device.scheduleJoint_states]
        · rfl

/-- The motion unit of a lane changes. -/
theorem Lane.Keeps.setMotion (L : Lane) (x : Motion) : L.Keeps { L with motion := x } :=
  .of_same rfl rfl rfl rfl rfl id id rfl rfl

theorem Device.setMotion_states (d : Device) (l : LaneId) (f : Lane → Motion) (m : LaneId) :
    (d.modLane l (fun L => { L with motion := f L })).states m = d.states m := by
  refine Device.states_congr ?_
  rw [Device.lane_modLane_of]
  split
  · next hm => rw [hm]
  · rfl

theorem Keeps.issueLine {d : Device} {l : LaneId} {c : Context} (pos : Word32) (hs : (c.num, .scanning) ∈ d.states l) :
    Keeps d (d.issueLine l c pos) := by
  unfold Device.issueLine
  dsimp only
  generalize hmoved : (d.modLane l fun L => { L with motion := _ } : Device) = moved
  have kmoved : Keeps d moved := hmoved ▸ .modLane d l (.setMotion _ _)
  have smoved : (c.num, CtxState.scanning) ∈ moved.states l := by
    rw [← hmoved, Device.setMotion_states]; exact hs
  generalize hchecked : (if c.lineOf (d.lane l).motion.tagCounter = _ then moved.registrationDeadline l else moved) = checked
  have kchecked : Keeps d checked := by
    rw [← hchecked]; exact .ite (fun _ => kmoved.trans (.registrationDeadline _ l)) fun _ => kmoved
  have schecked : (c.num, CtxState.scanning) ∈ checked.states l := by
    rw [← hchecked]
    split
    · rw [Device.registrationDeadline_states]; exact smoved
    · exact smoved
  have kstrobe := fun line joints r => (kchecked.trans (.openJoints l c.num line joints _)).trans (.strobeLine _ l r)
  refine .ite (fun _ => .after (.leaveScanning ?_) (kstrobe _ _ _)) fun _ => kstrobe _ _ _
  rw [Device.states_congr (Device.strobeLine_sameWork _ l _ l).live, Device.openJoints_states]
  exact schecked

theorem Lane.scanningCtx_spec {L : Lane} {c : Context} (h : L.scanningCtx = some c) : c ∈ L.live ∧ c.state = .scanning :=
  ⟨List.mem_of_find?_eq_some h, by simpa using List.find?_some h⟩

theorem Lane.oldestWaiting_spec {L : Lane} {c : Context} (h : L.oldestWaiting = some c) : c ∈ L.live ∧ c.state = .waiting :=
  ⟨List.mem_of_find?_eq_some h, by simpa using List.find?_some h⟩

theorem Device.states_of_scanningCtx {d : Device} {l : LaneId} {c : Context} (h : (d.lane l).scanningCtx = some c) :
    (c.num, .scanning) ∈ d.states l := (Lane.scanningCtx_spec h).2 ▸ Device.states_of_mem (Lane.scanningCtx_spec h).1

theorem Device.states_of_oldestWaiting {d : Device} {l : LaneId} {c : Context} (h : (d.lane l).oldestWaiting = some c) :
    (c.num, .waiting) ∈ d.states l := (Lane.oldestWaiting_spec h).2 ▸ Device.states_of_mem (Lane.oldestWaiting_spec h).1

theorem Keeps.issueDue (d : Device) (l : LaneId) : Keeps d (d.issueDue l) := by
  unfold Device.issueDue
  dsimp only
  split
  · next hscan => exact .ite (fun _ => .issueLine _ (Device.states_of_scanningCtx hscan)) fun _ => .refl d
  · exact .refl d

end Sys2Proof.Machine

/-! # Scan starts, counts and edges: what they keep (sections 2.2, 2.3, 7.3 and 7.4) -/

namespace Sys2Proof.Machine

/-! ## Scan starts (R34, R35, section 7.4) -/

theorem Keeps.settleCtx {d : Device} {l : LaneId} {n : Fin 4} {s : CtxState} (hs : (n, s) ∈ d.states l)
    (before : s ≠ .scanning ∧ s ≠ .retiring) : Keeps d (d.settleCtx l n) :=
  .modCtx_state hs (f := Context.settle) (fun _ => rfl) (fun _ => rfl) before Context.settle_not_scanning

@[simp] theorem Context.abortAtStart_num (a : AbortCause) (k : Nat) (c : Context) : (c.abortAtStart a k).num = c.num := by
  simp [Context.abortAtStart]
@[simp] theorem Context.abortAtStart_slot (a : AbortCause) (k : Nat) (c : Context) :
    (c.abortAtStart a k).slot = c.slot := by simp [Context.abortAtStart]
@[simp] theorem Context.abortAtStart_state (a : AbortCause) (k : Nat) (c : Context) :
    (c.abortAtStart a k).state = c.state := by simp [Context.abortAtStart]

/-- A Waiting context aborted at its scan start leaves Waiting with its counts written. -/
theorem Keeps.abortAtStart {d : Device} {l : LaneId} {n : Fin 4} (hs : (n, .waiting) ∈ d.states l) (a : AbortCause)
    (joints : Nat) : Keeps d ((d.modCtx l n (Context.abortAtStart a joints)).settleCtx l n) := by
  refine .after (.settleCtx (s := .waiting) ?_ (by simp)) (.modCtx d l n (by simp) (by simp) (by simp))
  rw [Device.states_modCtx _ _ _ _ (by simp) (by simp)]
  exact hs

theorem Keeps.abortWarmup {d : Device} {l : LaneId} {c : Context} (hs : (c.num, .waiting) ∈ d.states l) :
    Keeps d (d.abortWarmup l c) :=
  .after (.tryDecide _ l _) (.after (.fault _ l _) (.abortAtStart hs _ _))

theorem Keeps.abortOverlap {d : Device} {l : LaneId} {c : Context} (hs : (c.num, .waiting) ∈ d.states l) :
    Keeps d (d.abortOverlap l c) :=
  .after (.tryDecide _ l _) (.after (.raiseLane _ l _) (.abortAtStart hs _ _))

/-- The one Waiting context whose scan start is taken becomes Scanning, and so does its Ready lane (R35, R135). -/
theorem Lane.Keeps.startScan {L : Lane} {n : Fin 4} (hmode : L.mode = .ready) (f : Context → Context)
    (num : ∀ c, (f c).num = c.num) (slot : ∀ c, (f c).slot = c.slot) (state : ∀ c, (f c).state = .scanning)
    (hwait : ∃ y ∈ L.live, y.num = n ∧ y.state = .waiting) (r : Option Registration) :
    L.Keeps { L.modCtx n f with mode := .scanning, idleLeft := none, reg := r } := by
  obtain ⟨y, hy, hyn, hys⟩ := hwait
  refine ⟨rfl, id, fun ho => ⟨?_, ?_, ?_, fun hw => ?_, nofun⟩, fun ho c hc hcs => ?_, fun i hi => ?_⟩
  · have hnums : ((L.modCtx n f).live.map fun c => c.num) = L.live.map fun c => c.num := by
      simp only [Lane.modCtx, List.map_map]
      exact List.map_congr_left fun c _ => by simp only [Function.comp]; split <;> simp only [num]
    exact hnums ▸ ho.1
  · exact iff_of_true rfl ⟨f y, List.mem_map.mpr ⟨y, hy, if_pos hyn⟩, state y⟩
  · have hnone := ho.none_scanning (by simp [hmode])
    have hfilter : L.live.filter ((fun c : Context => decide (c.state = .scanning)) ∘ fun c => if c.num = n then f c else c) =
        L.live.filter (fun c => decide (c.num = n)) := List.filter_congr fun c hc => by
      by_cases hcn : c.num = n <;> simp [hcn, state, hnone c hc]
    have hcount : (L.live.filter fun c => decide (c.num = n)).length ≤ 1 := by
      have := List.nodup_iff_count_le_one.mp ho.1 n
      rwa [List.count, List.countP_map, List.countP_eq_length_filter] at this
    simpa only [Lane.modCtx, List.filter_map, List.length_map, hfilter] using hcount
  · exact absurd (ho.2.2.2.1 hw) (by simp [hmode])
  · refine ⟨c, List.mem_map.mpr ⟨c, hc, if_neg fun hcn => ?_⟩, rfl, hcs⟩
    simp [ho.eq_of_num hc hy (hcn.trans hyn.symm), hys] at hcs
  · rcases hi with h | h | ⟨x, hx, hslot⟩
    · exact .inl h
    · exact .inr (.inl h)
    · obtain ⟨c, hc, rfl⟩ := List.mem_map.mp hx
      refine .inr (.inr ⟨c, hc, ?_⟩)
      split at hslot
      · exact (slot c).symm.trans hslot
      · exact hslot

/-- A context at its scan start (R35). -/
def Context.begin (first : Word16) (c : Context) : Context := { c with state := .scanning, firstTag := some first }

/-- The lane once a scan start is taken: context and lane Scanning, the registration unit on the panel. -/
def Lane.beginScan (L : Lane) (c : Context) (h : Header) : Lane :=
  { L.modCtx c.num (Context.begin L.motion.tagCounter) with
    mode := .scanning, idleLeft := none,
    reg := some { seq := c.seq, ctx := c.num,
                  accumulators := (List.range h.fiducialCount.toNat).map Accumulator.fresh } }

theorem Device.startScan_eq (d : Device) (l : LaneId) (c : Context) :
    d.startScan l c =
      let e := d.modLane l fun L => L.beginScan c (d.slot c.slot).hdr
      match (e.lane l).ctx c.num with
      | none => e
      | some c => e.issueLine l c c.scanStart := by
  have hbegun : (d.modCtx l c.num fun x => { x with state := .scanning, firstTag := some (d.lane l).motion.tagCounter }).modLane l
      (fun L => ({ L with mode := .scanning, idleLeft := none } : Lane).startRegistration c (d.slot c.slot).hdr) =
      d.modLane l fun L => L.beginScan c (d.slot c.slot).hdr := by
    unfold Device.modCtx Device.modLane
    rw [Device.lane_setLane, Device.setLane, Device.setLane, Device.setLane, PerLane.set_set]
    rfl
  rw [← hbegun]
  rfl

theorem Keeps.startScan {d : Device} {l : LaneId} {c : Context} (hmode : (d.lane l).mode = .ready)
    (hs : (c.num, .waiting) ∈ d.states l) : Keeps d (d.startScan l c) := by
  obtain ⟨y, hy, hys⟩ := List.mem_map.mp hs
  have hbegun : Keeps d (d.modLane l fun L => L.beginScan c (d.slot c.slot).hdr) :=
    .modLane d l (.startScan hmode (Context.begin _) (fun _ => rfl) (fun _ => rfl) (fun _ => rfl)
      ⟨y, hy, (Prod.mk.inj hys).1, (Prod.mk.inj hys).2⟩ _)
  rw [Device.startScan_eq]
  dsimp only
  split
  · exact hbegun
  · next x hx =>
    refine hbegun.trans (.issueLine _ ?_)
    have hnum : x.num = c.num := Lane.num_of_ctx hx
    have hstate : x.state = .scanning := by
      have hmem := Lane.mem_of_ctx hx
      rw [Device.lane_modLane] at hmem
      obtain ⟨z, _, rfl⟩ := List.mem_map.mp hmem
      split
      · rfl
      · next hz => simp [hz] at hnum
    exact hstate ▸ Device.states_of_mem (Lane.mem_of_ctx hx)

theorem Keeps.scanStart {d : Device} {l : LaneId} {c : Context} (hs : (c.num, .waiting) ∈ d.states l) :
    Keeps d (d.scanStart l c) := by
  unfold Device.scanStart
  split
  · next hmode => exact .startScan hmode hs
  · exact .abortOverlap hs
  all_goals exact .abortWarmup hs

theorem Keeps.scanStarts (l : LaneId) (fuel : Nat) (d : Device) : Keeps d (Device.scanStarts l fuel d) := by
  induction fuel generalizing d with
  | zero => exact .refl d
  | succ fuel ih =>
    unfold Device.scanStarts
    dsimp only
    split
    · exact .refl d
    · next hc => exact .ite (fun _ => .after (ih _) (.scanStart (Device.states_of_oldestWaiting hc))) fun _ => .refl d

/-! ## Counts (R29 to R31) -/

theorem Keeps.testPositions (d : Device) (l : LaneId) : Keeps d (d.testPositions l) := by
  have hgates : ∀ e : Device, Keeps e (Device.gateArrivals l (e.lane l).gate.queue.length e) :=
    fun e => .gateArrivals l _ e
  have hscans : ∀ e : Device, Keeps e (Device.scanStarts l (e.lane l).live.length e) :=
    fun e => .scanStarts l _ e
  have hlast : Keeps d (Device.gateArrivals l
      ((Device.scanStarts l ((d.issueDue l).lane l).live.length (d.issueDue l)).lane l).gate.queue.length
      (Device.scanStarts l ((d.issueDue l).lane l).live.length (d.issueDue l))) :=
    .after (hgates _) (.after (hscans _) (.issueDue d l))
  refine .ite (fun _ => ?_) fun _ => hlast
  have hfree : Keeps d { d with freeIndex := d.freeIndex + 1 } := .setFreeIndex d _
  dsimp only
  split
  · exact .after (hscans _) (.after (.issueDue _ l) (.after (hgates _) hfree))
  · exact .after (hscans _) (.after (hgates _) (.after (.issueDue _ l) hfree))
  · exact .after (hgates _) (.after (hscans _) (.after (.issueDue _ l) hfree))

theorem Keeps.forwardCount (d : Device) (l : LaneId) : Keeps d (d.forwardCount l) :=
  .ite (fun _ => .refl d) fun _ =>
    .ite (fun _ => .after (.testPositions _ l) (.setLane d l (.setMotion _ _))) fun _ => .setLane d l (.setMotion _ _)

theorem Device.freeCropOf_lane (d : Device) (w : Window) (m : LaneId) : (d.freeCropOf w).lane m = d.lane m := by
  unfold Device.freeCropOf
  split <;> rfl

theorem Device.foldl_freeCropOf_lane (ws : List Window) (d : Device) (m : LaneId) :
    (ws.foldl Device.freeCropOf d).lane m = d.lane m := by
  induction ws generalizing d with
  | nil => rfl
  | cons w ws ih => rw [List.foldl_cons, ih, Device.freeCropOf_lane]

/-- The counts of a panel stopped by a Motion abort: windows removed and joints not scheduled are Aborted (R103). -/
def Context.noteAborted (removed joints : Nat) (c : Context) : Context :=
  { c with causes := { c.causes with aborted := c.causes.aborted + removed + (joints - c.pointer) }, pointer := joints }

/-- A panel's windows leave its lane's open list and the waiting order, and their crop slots become Free (R103). -/
def Device.dropWindows (d : Device) (l : LaneId) (q : Word16) : Device :=
  let mine : Window → Bool := fun w => decide (w.seq = q)
  let d := ((d.lane l).openList.filter mine).foldl Device.freeCropOf d
  let d := d.modLane l (fun L => { L with openList := L.openList.filter (fun w => !mine w) })
  { d with waiting := d.waiting.filter (fun k => !(decide (k.lane = l) && decide (k.seq = q))) }

theorem Device.abortWindows_eq (d : Device) (l : LaneId) (c : Context) :
    d.abortWindows l c = (d.dropWindows l c.seq).modCtx l c.num (Context.noteAborted
      ((d.lane l).openList.filter fun w => decide (w.seq = c.seq)).length (d.jointCount c)) := rfl

theorem Device.dropWindows_lane (d : Device) (l : LaneId) (q : Word16) (m : LaneId) :
    (d.dropWindows l q).lane m =
      if m = l then { d.lane l with openList := (d.lane l).openList.filter fun w => !decide (w.seq = q) }
      else d.lane m := by
  have := (((d.lane l).openList.filter fun w => decide (w.seq = q)).foldl Device.freeCropOf d).lane_modLane_of l m
    (fun L => { L with openList := L.openList.filter fun w => !decide (w.seq = q) })
  rwa [Device.foldl_freeCropOf_lane, Device.foldl_freeCropOf_lane] at this

theorem Device.abortWindows_states (d : Device) (l : LaneId) (c : Context) (m : LaneId) :
    (d.abortWindows l c).states m = d.states m := by
  rw [Device.abortWindows_eq, Device.states_modCtx _ l m c.num (f := Context.noteAborted _ _) (fun _ => rfl)
    (fun _ => rfl)]
  refine Device.states_congr ?_
  rw [Device.dropWindows_lane]
  split
  · next hm => rw [hm]
  · rfl

theorem Keeps.abortMotion {d : Device} {l : LaneId} {c : Context} (hs : (c.num, .scanning) ∈ d.states l) :
    Keeps d (d.abortMotion l c) := by
  unfold Device.abortMotion
  dsimp only
  have hcause : Keeps d (d.modCtx l c.num fun x => x.writeAbort .motion) :=
    .modCtx d l _ (by simp) (by simp) (by simp)
  refine .after (.leaveScanning ?_) (.after (.abortWindows _ l c) (.after (.modLane _ l ?_) hcause))
  · rw [Device.abortWindows_states]
    have hstop : ∀ e : Device, (e.modLane l fun L =>
        { L with motion := { L.motion with nextLine := none }, reg := none }).states l = e.states l := fun e =>
      Device.states_congr (by rw [Device.lane_modLane])
    rw [hstop, Device.states_modCtx _ _ _ _ (by simp) (by simp)]
    exact hs
  · exact .of_same rfl rfl rfl rfl rfl id id rfl rfl

theorem Keeps.reverseCount (d : Device) (l : LaneId) : Keeps d (d.reverseCount l) := by
  refine .ite (fun _ => .refl d) fun _ => ?_
  have hdepth : ∀ x, Keeps d (d.setLane l { d.lane l with motion := x }) := fun x => .setLane d l (.setMotion _ x)
  dsimp only
  split
  · exact hdepth _
  · next c hc =>
    refine .ite (fun _ => .after (.abortMotion ?_) (.after (.fault _ l _) (hdepth _))) fun _ => hdepth _
    rw [Device.states_congr (Device.fault_sameWork _ l _ l).live]
    refine (Device.states_congr ?_ : _ = d.states l) ▸ Device.states_of_scanningCtx hc
    rw [Device.lane_setLane]

/-! ## Edges (section 2.2, section 7.3) -/

theorem Keeps.untracked (d : Device) (l : LaneId) (q : Word16) (gatePos : Word32) : Keeps d (d.untracked l q gatePos) :=
  .after (.modLane _ l (.loadIdle _)) (.passGateEntry d l _)

/-- A Waiting context of a free number joins the live ones, its recipe a slot the lane names already; the idle timer
stops. -/
theorem Lane.Keeps.addCtx {L : Lane} {c : Context} (hfree : L.ctx c.num = none) (hs : c.state = .waiting)
    (hslot : L.Names c.slot) : L.Keeps { L with live := L.live ++ [c], idleLeft := none } := by
  refine ⟨rfl, id, fun ho => ⟨?_, ?_, ?_, ho.2.2.2.1, nofun⟩,
    fun _ x hx hxs => ⟨x, List.mem_append_left _ hx, rfl, hxs⟩, fun i hi => ?_⟩
  · have hnew : ∀ x ∈ L.live, x.num ≠ c.num := by simpa [Lane.ctx, List.find?_eq_none] using hfree
    rw [List.map_append, List.nodup_append]
    refine ⟨ho.1, List.nodup_singleton _, ?_⟩
    rintro a ha b hb rfl
    obtain ⟨x, hx, hxa⟩ := List.mem_map.mp ha
    exact hnew x hx (hxa.trans (List.mem_singleton.mp hb))
  · refine ho.2.1.trans ⟨fun ⟨x, hx, hxs⟩ => ⟨x, List.mem_append_left _ hx, hxs⟩, fun ⟨x, hx, hxs⟩ => ?_⟩
    rcases List.mem_append.mp hx with hx | hx
    · exact ⟨x, hx, hxs⟩
    · simp [List.mem_singleton.mp hx, hs] at hxs
  · simpa [List.filter_append, hs] using ho.2.2.1
  · rcases hi with h | h | ⟨x, hx, hxs⟩
    · exact .inl h
    · exact .inr (.inl h)
    · rcases List.mem_append.mp hx with hx | hx
      · exact .inr (.inr ⟨x, hx, hxs⟩)
      · rw [← hxs, List.mem_singleton.mp hx]; exact hslot

theorem Keeps.tracked {d : Device} {l : LaneId} {n slot : Fin 4} (q : Word16) (edge start gatePos : Word32)
    (hactive : (d.lane l).active = some slot) (hfree : (d.lane l).ctx n = none) :
    Keeps d (d.tracked l n slot q edge start gatePos) :=
  .after (.scanStarts l _ _) (.after (.passGateEntry _ l _) (.modLane d l (.addCtx hfree rfl (.inl hactive))))

theorem Lane.takeRecipe_eq (L : Lane) :
    (L.pendingRecipe = none ∧ L.takeRecipe = L) ∨
      ∃ i, L.pendingRecipe = some i ∧ L.takeRecipe = { L with active := some i, pendingRecipe := none } := by
  unfold Lane.takeRecipe
  split
  · next h => exact .inl ⟨h, rfl⟩
  · next i h => exact .inr ⟨i, h, rfl⟩

theorem Lane.Keeps.takeRecipe (L : Lane) : L.Keeps L.takeRecipe := by
  rcases L.takeRecipe_eq with ⟨_, h⟩ | ⟨i, hp, h⟩
  · rw [h]; exact .refl L
  · rw [h]
    refine .of_live ⟨rfl, id, fun j hj => ?_⟩ rfl id
    rcases hj with hj | hj | hj
    · exact .inr (.inl (hp.trans hj))
    · cases hj
    · exact .inr (.inr hj)

/-- The lane's own part of an accepted edge: positions captured, a Standby lane armed, the recipe taken, the panel
numbered (R33). -/
def Lane.edge (L : Lane) : Lane :=
  let M := { L with motion := { L.motion with lastEdge := some L.motion.h } }
  { (if M.mode = .standby then M.enterWarming else M).takeRecipe with nextSeq := L.nextSeq + 1 }

theorem Lane.Keeps.edge (L : Lane) : L.Keeps L.edge := by
  unfold Lane.edge
  dsimp only
  have hnumbered : ∀ (M : Lane) (q : Word16), M.Keeps { M with nextSeq := q } := fun M q =>
    .of_same rfl rfl rfl rfl rfl id id rfl rfl
  refine .trans (.trans (.trans (.setMotion L { L.motion with lastEdge := some L.motion.h }) ?_) (.takeRecipe _)) (hnumbered _ _)
  split
  · next h => exact .enterWarming h
  · exact .refl _

theorem Device.acceptedEdge_eq (d : Device) (l : LaneId) :
    d.acceptedEdge l =
      let L := (d.lane l).edge
      let q := (d.lane l).nextSeq
      let edge := (d.lane l).motion.h
      let start := edge + L.settings.leadIn.setWidth 32
      let gatePos := edge + L.settings.gateDistance.setWidth 32
      let d := d.setLane l L
      match L.active, L.freeCtx with
      | none, _ => (d.raiseLane l .noRecipe).untracked l q gatePos
      | some slot, some n => d.tracked l n slot q edge start gatePos
      | some _, none => (d.fault l .panelOverrun).untracked l q gatePos := rfl

theorem Lane.ctx_of_freeCtx {L : Lane} {n : Fin 4} (h : L.freeCtx = some n) : L.ctx n = none := by
  have := List.find?_some h
  simpa using this

theorem Keeps.acceptedEdge (d : Device) (l : LaneId) : Keeps d (d.acceptedEdge l) := by
  have hedge : Keeps d (d.setLane l (d.lane l).edge) := .setLane d l (.edge _)
  rw [Device.acceptedEdge_eq]
  dsimp only
  split
  · exact hedge.trans (.after (.untracked _ l _ _) (.raiseLane _ l _))
  · next slot n hactive hfree =>
    refine hedge.trans (.tracked _ _ _ _ ?_ ?_)
    · rw [Device.lane_setLane]; exact hactive
    · rw [Device.lane_setLane]; exact Lane.ctx_of_freeCtx hfree
  · exact hedge.trans (.after (.untracked _ l _ _) (.fault _ l _))

theorem Keeps.edgeRises (d : Device) (l : LaneId) : Keeps d (d.edgeRises l) :=
  .ite (fun _ => .refl d) fun _ => .ite (fun _ => .acceptedEdge d l) fun _ => .raiseLane d l _

/-! ## The passage of time (log 7) -/

theorem Keeps.tickStrobe (d : Device) (l : LaneId) : Keeps d (d.tickStrobe l) := by
  unfold Device.tickStrobe
  dsimp only
  split
  · exact .refl d
  · exact .ite (fun _ => .flashEnds d l) fun _ => .modLane d l (.setStrobe _ _)
  · exact .ite (fun _ => .settleExpires d l) fun _ => .modLane d l (.setStrobe _ _)

theorem Keeps.tickIdle (d : Device) (l : LaneId) : Keeps d (d.tickIdle l) := by
  unfold Device.tickIdle
  split
  · exact .refl d
  · next n hn =>
    exact .ite (fun _ => .idleExpires d l) fun _ => .modLane d l (.of_same rfl rfl rfl rfl rfl id (by simp [hn]) rfl rfl)

theorem Keeps.tickWarmup (d : Device) (l : LaneId) : Keeps d (d.tickWarmup l) := by
  unfold Device.tickWarmup
  split
  · exact .refl d
  · next n hn =>
    exact .ite (fun _ => .warmupExpires d l) fun _ => .modLane d l (.of_same rfl rfl rfl rfl rfl (by simp [hn]) id rfl rfl)

theorem Keeps.tickLane (d : Device) (l : LaneId) : Keeps d (d.tickLane l) :=
  ((Keeps.tickStrobe d l).trans (.tickIdle _ l)).trans (.tickWarmup _ l)

theorem Keeps.stallExpires (d : Device) : Keeps d d.stallExpires :=
  .ite (fun _ => .after (.modTrunk _ rfl rfl) (.after (.fault _ .b _) (.after (.fault _ .a _) (.raiseDevice d _))))
    fun _ => .refl d

theorem Keeps.tickStall (d : Device) : Keeps d d.tickStall := by
  unfold Device.tickStall
  split
  · exact .refl d
  · exact .ite (fun _ => .stallExpires d) fun _ => .modTrunk d rfl rfl

theorem Keeps.tick (d : Device) : Keeps d d.tick :=
  ((Keeps.tickStall d).trans (.tickLane _ .a)).trans (.tickLane _ .b)

end Sys2Proof.Machine

/-! # Orders, reset and the trunk link: what they keep; every step (chapters 1, 7 to 10) -/

namespace Sys2Proof.Machine

/-! ## Recipe slots (chapter 1) -/

/-- A slot changes: no property but that of the referenced slots speaks of it. -/
theorem Keeps.of_referenced {d e : Device} (h : ReferencedSealed d → ReferencedSealed e) (lanes : e.lanes = d.lanes)
    (cond : e.cond = d.cond) (crops : e.crops = d.crops) (closeQueue : e.closeQueue = d.closeQueue)
    (waiting : e.waiting = d.waiting) (retireOrder : e.retireOrder = d.retireOrder)
    (verdicts : e.trunk.verdicts = d.trunk.verdicts) (panelReports : e.trunk.panelReports = d.trunk.panelReports) :
    Keeps d e := by
  have hlane : ∀ l, e.lane l = d.lane l := fun l => congrArg (PerLane.get · l) lanes
  refine ⟨?_, ?_, ?_, ?_, ?_, ?_, h, ?_⟩
  · simp only [NoticesAgree, cond]; exact id
  · simp only [CloseQueueWithin, closeQueue, waiting]; exact id
  · simp only [ReportsWithin, verdicts, panelReports, retireOrder]; exact id
  · simp only [PortsWithin, Device.port, hlane]; exact id
  · simp only [LanesWithin, hlane]; exact id
  · simp only [LanesOrdered, hlane, retireOrder]; exact id
  · simp only [PixelsCanonical, Device.port, hlane, crops]; exact id

theorem Device.slot_setSlot (d : Device) (i j : Fin 4) (x : Slot) :
    (d.setSlot i x).slot j = if j = i then x else d.slot j := Quad.get_set d.slots i j x

theorem Device.setSlot_referenced (d : Device) (i j : Fin 4) (x : Slot) :
    (d.setSlot i x).referenced j = d.referenced j := rfl

/-- An unreferenced slot changes that is not the one under validation. -/
theorem Keeps.setSlot {d : Device} {i : Fin 4} (x : Slot) (href : d.referenced i = false)
    (hval : ReferencedSealed d → ∀ v, d.validation = some v → v.slot ≠ i) : Keeps d (d.setSlot i x) := by
  refine .of_referenced (fun h => ⟨fun j hj => ?_, fun v hv => ?_⟩) rfl rfl rfl rfl rfl rfl rfl rfl
  · have hji : j ≠ i := by
      rintro rfl
      simp [Device.setSlot_referenced, href] at hj
    rw [Device.slot_setSlot, if_neg hji]
    exact h.1 j hj
  · rw [Device.slot_setSlot, if_neg (hval h v hv)]
    exact h.2 v hv

/-- A slot whose change is not refused is not referenced, and not under validation either, but for Erase Slot (R2). -/
theorem Device.slotRefusal_eq_none {d : Device} {i : Fin 4} {erase : Bool} {allowed : SlotState → Bool}
    (h : d.slotRefusal i erase allowed = none) :
    d.referenced i = false ∧ allowed (d.slot i).state = true ∧ (erase = false → (d.slot i).state ≠ .validating) := by
  unfold Device.slotRefusal at h
  dsimp only at h
  split at h
  · cases h
  · next hbusy =>
    split at h
    · cases h
    · next href =>
      split at h
      · next hallowed => exact ⟨by simpa using href, hallowed, fun he hs => hbusy ⟨hs, by simp [he]⟩⟩
      · cases h

theorem Keeps.changeSlot (d : Device) (tag code slot : Byte) (inRange : Bool) (allowed : SlotState → Bool)
    (effect : Slot → Slot) : Keeps d (d.changeSlot tag code slot inRange allowed effect) := by
  unfold Device.changeSlot
  split
  · next i _ _ =>
    split
    · exact .reply d _ _ _ _
    · next hnone =>
      obtain ⟨href, -, hstate⟩ := Device.slotRefusal_eq_none hnone
      refine .after (.reply _ _ _ _ _) (.setSlot _ href fun h v hv hvi => ?_)
      exact hstate rfl (hvi ▸ h.2 v hv)
  · exact .reply d _ _ _ _

theorem Keeps.takeSealSlot (tag slot : Byte) (d : Device) : Keeps d (takeSealSlot tag slot d) := by
  unfold Machine.takeSealSlot
  split
  · exact .reply d _ _ _ _
  · next i _ =>
    split
    · exact .reply d _ _ _ _
    · next hnone =>
      obtain ⟨href, -, -⟩ := Device.slotRefusal_eq_none hnone
      refine .ite (fun _ => .reply d _ _ _ _) fun hidle => ?_
      have hvalidation : d.validation = none := by simpa using hidle
      refine .of_referenced (fun h => ⟨fun j hj => ?_, ?_⟩) rfl rfl rfl rfl rfl rfl rfl rfl
      · exact ((Keeps.setSlot (d := d) { d.slot i with state := .validating } href (by simp [hvalidation])).referenced h).1 j hj
      · rintro v ⟨⟩
        show ((d.setSlot i _).slot i).state = .validating
        rw [Device.slot_setSlot, if_pos rfl]

/-- A validation ends: its slot, referenced by nothing while it is Validating, changes (R17, R18). -/
theorem Keeps.endValidation {d : Device} {v : Validation} (hv : d.validation = some v) (x : Slot) :
    Keeps d (({ d with validation := none } : Device).setSlot v.slot x) := by
  refine .of_referenced (fun h => ⟨fun j hj => ?_, nofun⟩) rfl rfl rfl rfl rfl rfl rfl rfl
  have hsealed := h.1 j hj
  have hji : j ≠ v.slot := by
    rintro rfl
    simp [h.2 v hv] at hsealed
  rw [Device.slot_setSlot, if_neg hji]
  exact hsealed

theorem Keeps.validationEnds (d : Device) : Keeps d d.validationEnds := by
  unfold Device.validationEnds
  split
  · exact .refl d
  · next v hv =>
    dsimp only
    split <;> exact .after (.reply _ _ _ _ _) (.endValidation hv _)

/-- Giving up a validation leaves its slot Validating until it is erased (R18). -/
theorem Keeps.dropValidation (d : Device) : Keeps d { d with validation := none } :=
  .of_referenced (fun h => ⟨h.1, nofun⟩) rfl rfl rfl rfl rfl rfl rfl rfl

theorem Keeps.takeEraseSlot (tag slot : Byte) (d : Device) : Keeps d (takeEraseSlot tag slot d) := by
  unfold Machine.takeEraseSlot
  split
  · exact .reply d _ _ _ _
  · next i _ =>
    split
    · exact .reply d _ _ _ _
    · next hnone =>
      obtain ⟨href, -, -⟩ := Device.slotRefusal_eq_none hnone
      refine .after (.reply _ _ _ _ _) ?_
      unfold Device.abortValidation
      split
      · next hidle => exact .setSlot _ href (by simp [hidle])
      · next v hv =>
        split
        · refine .after (.setSlot _ href (by simp [Device.reply])) (.after (.reply _ _ _ _ _) (.dropValidation d))
        · next hother =>
          refine .setSlot _ href fun _ w hw => ?_
          cases hv.symm.trans hw
          exact hother

theorem Keeps.readEntries (d : Device) (tag code slot : Byte) (inRange : Bool) (record : Slot → List Byte) :
    Keeps d (d.readEntries tag code slot inRange record) := by
  unfold Device.readEntries
  split
  · exact .ite (fun _ => .reply d _ _ _ _) fun _ => .reply d _ _ _ _
  · exact .reply d _ _ _ _

/-- What Bind Recipe does with the slot it names: the pending recipe, or the active one where it is taken at once. -/
theorem Lane.bind_eq (L : Lane) (i : Fin 4) :
    L.bind i = { L with pendingRecipe := some i } ∨ L.bind i = { L with active := some i, pendingRecipe := none } := by
  unfold Lane.bind
  dsimp only
  split
  · exact .inr rfl
  · exact .inl rfl

theorem Lane.Keeps.nameNoMore {L : Lane} {a p : Option (Fin 4)}
    (h : ∀ i, a = some i ∨ p = some i → L.active = some i ∨ L.pendingRecipe = some i) :
    L.Keeps { L with active := a, pendingRecipe := p } :=
  .of_live ⟨rfl, id, fun i hi => by
    rcases hi with hi | hi | hi
    exacts [(h i (.inl hi)).imp_right .inl, (h i (.inr hi)).imp_right .inl, .inr (.inr hi)]⟩ rfl id

/-- A lane gets a Sealed slot as its active or pending recipe. -/
theorem Keeps.nameSealed {d : Device} {l : LaneId} {i : Fin 4} (hs : (d.slot i).state = .sealed) {a p : Option (Fin 4)}
    (h : ∀ j, a = some j ∨ p = some j → j = i ∨ (d.lane l).active = some j ∨ (d.lane l).pendingRecipe = some j) :
    Keeps d (d.setLane l { d.lane l with active := a, pendingRecipe := p }) := by
  have hlane : ∀ m, ∃ a' p', (d.setLane l { d.lane l with active := a, pendingRecipe := p }).lane m =
      { d.lane m with active := a', pendingRecipe := p' } := fun m => by
    rw [Device.lane_setLane_of]
    split
    · next hm => subst hm; exact ⟨_, _, rfl⟩
    · exact ⟨(d.lane m).active, (d.lane m).pendingRecipe, rfl⟩
  refine ⟨id, id, id, fun hd q => ?_, fun hd m => ?_, fun hd => ⟨fun m => ?_, hd.2.1, fun r hr => ?_⟩,
    fun hd => ⟨fun j hj => ?_, hd.2⟩, fun hd => ⟨fun q => ?_, hd.2⟩⟩
  · obtain ⟨a', p', hm⟩ := hlane q.lane
    rw [Device.port, hm]; exact hd q
  · obtain ⟨a', p', hm⟩ := hlane m
    rw [hm]; exact hd m
  · obtain ⟨a', p', hm⟩ := hlane m
    rw [hm]; exact hd.1 m
  · obtain ⟨a', p', hm⟩ := hlane r.1
    rw [hm]; exact hd.2.2 r hr
  · obtain ⟨m, hn⟩ := (Device.referenced_iff _ j).mp hj
    rw [Device.lane_setLane_of] at hn
    split at hn
    · next hm =>
      have hcases : j = i ∨ (d.lane l).Names j := by
        rcases hn with hn | hn | hn
        · exact (h j (.inl hn)).imp_right (Or.imp_right .inl)
        · exact (h j (.inr hn)).imp_right (Or.imp_right .inl)
        · exact .inr (.inr (.inr hn))
      rcases hcases with rfl | hn
      · exact hs
      · exact hd.1 j ((d.referenced_iff j).mpr ⟨l, hn⟩)
    · exact hd.1 j ((d.referenced_iff j).mpr ⟨m, hn⟩)
  · obtain ⟨a', p', hm⟩ := hlane q.lane
    rw [Device.port, hm]; exact hd.1 q

theorem Keeps.takeBindRecipe (tag lane slot : Byte) (d : Device) : Keeps d (takeBindRecipe tag lane slot d) := by
  unfold Machine.takeBindRecipe
  split
  · exact .reply d _ _ _ _
  · next l _ =>
    refine .ite (fun _ => .after (.reply _ _ _ _ _) (.modLane d l (.nameNoMore (by simp +contextual)))) fun _ => ?_
    split
    · exact .reply d _ _ _ _
    · next i _ =>
      split
      · exact .reply d _ _ _ _
      · exact .reply d _ _ _ _
      · exact .reply d _ _ _ _
      · next hsealed =>
        refine .after (.reply _ _ _ _ _) ?_
        unfold Device.modLane
        show Keeps d (d.setLane l ((d.lane l).bind i))
        rcases (d.lane l).bind_eq i with h | h
        · rw [h]
          exact .nameSealed hsealed fun j hj => hj.elim (fun hj => .inr (.inl hj)) fun hj => .inl (Option.some.inj hj).symm
        · rw [h]
          exact .nameSealed hsealed fun j hj => hj.elim (fun hj => .inl (Option.some.inj hj).symm) nofun

/-! ## Lane and gate orders (chapters 2, 7 and 8) -/

theorem Keeps.onLane (d : Device) (tag code lane : Byte) {f : LaneId → Device} (h : ∀ l, Keeps d (f l)) :
    Keeps d (d.onLane tag code lane f) := by
  unfold Device.onLane
  split
  · exact .reply d _ _ _ _
  · exact h _

theorem Keeps.takeConfigureLane (tag lane : Byte) (x : LaneSettings) (d : Device) :
    Keeps d (takeConfigureLane tag lane x d) := by
  unfold Machine.takeConfigureLane
  split
  · exact .ite (fun _ => .after (.reply _ _ _ _ _) (.modLane d _ (.of_same rfl rfl rfl rfl rfl id id rfl rfl)))
      fun _ => .reply d _ _ _ _
  · exact .reply d _ _ _ _

theorem Lane.Keeps.enable {L : Lane} (hmode : L.mode = .off) : L.Keeps L.enable :=
  .of_live ⟨rfl, id, fun _ => id⟩ rfl fun h =>
    ⟨h.1, iff_of_false (by simp [Lane.enable]) fun ⟨c, hc, hs⟩ => h.none_scanning (by simp [hmode]) c hc hs, h.2.2.1,
      fun hw => absurd (h.2.2.2.1 hw) (by simp [hmode]), nofun⟩

theorem Keeps.takeEnableLane (tag lane : Byte) (d : Device) : Keeps d (takeEnableLane tag lane d) :=
  .onLane d _ _ _ fun l => .ite (fun hoff => .after (.reply _ _ _ _ _) (.modLane d l (.enable hoff)))
    fun _ => .reply d _ _ _ _

theorem Lane.Keeps.arm (L : Lane) : L.Keeps L.arm := by
  cases hmode : L.mode with
  | standby =>
    simp only [Lane.arm, hmode]
    exact .enterWarming hmode
  | ready =>
    simp only [Lane.arm, hmode]
    split
    · next hruns => exact .of_same rfl rfl rfl rfl hmode.symm id (fun _ => hruns) rfl rfl
    · exact .refl L
  | off | warming | scanning =>
    simp only [Lane.arm, hmode]
    exact .refl L

theorem Keeps.takeArmLane (tag lane : Byte) (d : Device) : Keeps d (takeArmLane tag lane d) :=
  .onLane d _ _ _ fun l => .ite (fun _ => .reply d _ _ _ _) fun _ => .after (.reply _ _ _ _ _) (.modLane d l (.arm _))

theorem Keeps.takeSetGateMode (tag lane mode : Byte) (d : Device) : Keeps d (takeSetGateMode tag lane mode d) := by
  unfold Machine.takeSetGateMode
  split
  · exact .ite (fun _ => .after (.reply _ _ _ _ _) (.raiseDevice d _))
      fun _ => .after (.reply _ _ _ _ _) (.modLane d _ (.setGate _ id))
  · exact .reply d _ _ _ _

theorem Keeps.takeSetFaultResponse (tag lane kind override hold : Byte) (d : Device) :
    Keeps d (takeSetFaultResponse tag lane kind override hold d) := by
  unfold Machine.takeSetFaultResponse
  split
  · exact .after (.reply _ _ _ _ _) (.modLane d _ (.setGate _ id))
  · exact .reply d _ _ _ _

theorem Keeps.takeReleaseForce (tag lane : Byte) (d : Device) : Keeps d (takeReleaseForce tag lane d) :=
  .onLane d _ _ _ fun l => .after (.reply _ _ _ _ _) (.modLane d l (.setGate _ id))

theorem Keeps.takeReadPanel (tag lane context : Byte) (d : Device) : Keeps d (takeReadPanel tag lane context d) :=
  .onLane d _ _ _ fun l => by
    split <;> exact .reply d _ _ _ _

/-! ## Disable Lane (R144) -/

theorem Port.disable_within (p : Port) : p.disable.Within := by simp [Port.disable, Port.Within]

theorem Lane.disable_ordered (L : Lane) : L.disable.Ordered := by simp [Lane.disable, Lane.Ordered]

theorem Lane.disable_names (L : Lane) (i : Fin 4) : ¬ L.disable.Names i := by simp [Lane.disable, Lane.Names]

/-- The lane's own state and its crop slots discarded, and its part of the shared lists. -/
theorem Keeps.discardLane (d : Device) (l : LaneId) :
    Keeps d { (d.modLane l Lane.disable).freeLaneCrops l with
      retireOrder := d.retireOrder.filter (fun r => decide (r.1 ≠ l)), closeQueue := d.closeQueue, waiting := d.waiting,
      evaluation := d.evaluation.filter (fun w => decide (w.lane ≠ l)) } := by
  have hlane : ∀ m, (d.modLane l Lane.disable).lane m = if m = l then (d.lane l).disable else d.lane m :=
    fun m => d.lane_modLane_of l m Lane.disable
  refine ⟨id, id, fun ⟨hv, hp, hw⟩ => ⟨hv, hp, fun hr => hw fun hnone => hr (by rw [hnone]; rfl)⟩, fun h q => ?_,
    fun h m => ?_, fun h => ⟨fun m => ?_, h.2.1.filter _, fun r hr => ?_⟩, fun h => ⟨fun i hi => ?_, h.2⟩,
    fun h => ⟨fun q => ?_, fun s hs => ?_⟩⟩
  · show (((d.modLane l Lane.disable).lane q.lane).ports.get q.loc).Within
    rw [hlane]
    split
    · cases q.loc <;> exact Port.disable_within _
    · exact h q
  · show ((d.modLane l Lane.disable).lane m).openList.length ≤ 512 ∧ ((d.modLane l Lane.disable).lane m).gate.queue.length ≤ 4
    rw [hlane]
    split
    · exact ⟨Nat.zero_le _, Nat.zero_le _⟩
    · exact h m
  · show ((d.modLane l Lane.disable).lane m).Ordered
    rw [hlane]
    split
    · exact Lane.disable_ordered _
    · exact h.1 m
  · obtain ⟨hr, hne⟩ := List.mem_filter.mp hr
    show ∃ c ∈ ((d.modLane l Lane.disable).lane r.1).live, _
    rw [hlane, if_neg (by simpa using hne)]
    exact h.2.2 r hr
  · obtain ⟨m, hn⟩ := (Device.referenced_iff _ i).mp hi
    refine h.1 i ((d.referenced_iff i).mpr ⟨m, ?_⟩)
    change ((d.modLane l Lane.disable).lane m).Names i at hn
    rw [hlane] at hn
    split at hn
    · exact absurd hn (Lane.disable_names _ i)
    · exact hn
  · show (((d.modLane l Lane.disable).lane q.lane).ports.get q.loc).pattern.wf = true
    rw [hlane]
    split
    · next hq =>
      have := h.1 ⟨l, q.loc⟩
      cases hp : q.loc <;> rw [hp] at this <;> exact this
    · exact h.1 q
  · obtain ⟨t, ht, rfl⟩ := List.mem_map.mp hs
    split <;> exact h.2 t ht

theorem Keeps.clearLaneConds (d : Device) (l : LaneId) : Keeps d (d.clearLaneConds l) := by
  unfold Device.clearLaneConds
  refine .updateConds d ?_
  have hclear : ∀ (u : CondUnit) i standing, u.SameNotices (u.mod i (CondSet.cleared standing)) := fun u i _ =>
    u.sameNotices_mod i fun _ => rfl
  exact ((hclear _ _ _).trans (hclear _ _ _)).trans (hclear _ _ _)

theorem Keeps.disableLane (d : Device) (l : LaneId) : Keeps d (d.disableLane l) :=
  .after (.clearLaneConds _ l) (.refillClose (.discardLane d l) (List.length_filter_le _ _))

theorem Keeps.takeDisableLane (tag lane : Byte) (d : Device) : Keeps d (takeDisableLane tag lane d) :=
  .onLane d _ _ _ fun l => .after (.reply _ _ _ _ _) (.disableLane d l)

/-! ## Condition orders (chapter 10) -/

theorem Keeps.takeReadConditions (tag set : Byte) (d : Device) : Keeps d (takeReadConditions tag set d) := by
  unfold Machine.takeReadConditions
  split
  · exact .reply d _ _ _ _
  · exact .after (.reply _ _ _ _ _) (.updateConds d (CondUnit.sameNotices_mod _ _ fun _ => rfl))

theorem Keeps.takeClearConditions (tag set : Byte) (list : Word16) (d : Device) :
    Keeps d (takeClearConditions tag set list d) := by
  unfold Machine.takeClearConditions
  split
  · exact .reply d _ _ _ _
  · refine .ite (fun _ => .reply d _ _ _ _) fun _ => .after (.reply _ _ _ _ _) (.updateConds d ?_)
    unfold CondUnit.clearConds
    have hclear := fun i list standing => d.cond.sameNotices_mod i (f := CondSet.clearList list standing) fun _ => rfl
    dsimp only
    split
    · exact (hclear _ _ _).trans (CondUnit.sameNotices_mod _ _ fun _ => rfl)
    · exact hclear _ _ _

theorem Keeps.takeSetMask (tag set : Byte) (list : Word16) (d : Device) : Keeps d (takeSetMask tag set list d) := by
  unfold Machine.takeSetMask
  split
  · exact .reply d _ _ _ _
  · exact .ite (fun _ => .reply d _ _ _ _) fun _ =>
      .after (.reply _ _ _ _ _) (.updateConds d (CondUnit.sameNotices_mod _ _ fun _ => rfl))

/-! ## Reset (R161, R174 to R176) -/

/-- A part that has every property, whatever it came from. -/
def Device.Sound (d : Device) : Prop := ∀ e, Keeps e d

theorem Device.Sound.keeps {d e : Device} (h : d.Sound) (k : Keeps d e) : e.Sound := fun c => (h c).trans k

theorem Device.atPowerOn_lane (low sd : Bool) (sds : PerLane (PerPort Bool)) (n : Nat) (l : LaneId) :
    (Device.atPowerOn low sd sds n).lane l = .atReset (sds.get l).p0 (sds.get l).p1 := by cases l <;> rfl

theorem Device.atPowerOn_port (low sd : Bool) (sds : PerLane (PerPort Bool)) (n : Nat) (p : PortId) :
    (Device.atPowerOn low sd sds n).port p = .atReset ((sds.get p.lane).get p.loc) := by
  rcases p with ⟨l, q⟩
  cases l <;> cases q <;> rfl

theorem CondUnit.clear_agree : CondUnit.clear.NoticesAgree := by
  refine ⟨List.nodup_nil, fun i => ?_⟩
  rcases i with _ | l | ⟨l, q⟩
  · exact ⟨nofun, nofun⟩
  · cases l <;> exact ⟨nofun, nofun⟩
  · cases l <;> cases q <;> exact ⟨nofun, nofun⟩

theorem Lane.atReset_ordered (sd0 sd1 : Bool) : (Lane.atReset sd0 sd1).Ordered := by simp [Lane.atReset, Lane.Ordered]

theorem Lane.atReset_names (sd0 sd1 : Bool) (i : Fin 4) : ¬ (Lane.atReset sd0 sd1).Names i := by
  simp [Lane.atReset, Lane.Names]

theorem Device.atPowerOn_sound (low sd : Bool) (sds : PerLane (PerPort Bool)) (n : Nat) :
    (Device.atPowerOn low sd sds n).Sound := by
  refine fun _ => ⟨fun _ => CondUnit.clear_agree, fun _ => ?_, fun _ => ?_, fun _ p => ?_, fun _ l => ?_, fun _ => ?_,
    fun _ => ⟨fun i hi => ?_, fun v hv => ?_⟩, fun _ => ⟨fun p => ?_, fun s hs => ?_⟩⟩
  · simp [CloseQueueWithin, Device.atPowerOn]
  · simp [ReportsWithin, Device.atPowerOn, Trunk.atPowerOn]
  · rw [Device.atPowerOn_port]
    simp [Port.atReset, Port.Within]
  · rw [Device.atPowerOn_lane]
    simp [Lane.atReset, Gate.atReset]
  · refine ⟨fun l => ?_, ?_, ?_⟩
    · rw [Device.atPowerOn_lane]
      exact Lane.atReset_ordered _ _
    · simp [Device.atPowerOn]
    · simp [Device.atPowerOn]
  · obtain ⟨l, h⟩ := (Device.referenced_iff _ i).mp hi
    rw [Device.atPowerOn_lane] at h
    exact absurd h (Lane.atReset_names _ _ i)
  · simp [Device.atPowerOn] at hv
  · rw [Device.atPowerOn_port]
    rfl
  · rw [List.eq_of_mem_replicate hs]
    rfl

theorem Keeps.wakePort (d : Device) (p : PortId) : Keeps d (d.wakePort p) :=
  .after (.raise _ _ _) (.ite (fun _ => .refl d) fun _ => .onStream d p (.enterStream .dark))

theorem Keeps.raiseResetConds (d : Device) : Keeps d d.raiseResetConds :=
  .after (.foldl Keeps.wakePort _ _) (.raiseDevice d _)

theorem Keeps.powersOn (d : Device) : Keeps d d.powersOn :=
  .ite (fun _ => Device.atPowerOn_sound _ _ _ _ d) fun _ => (Device.atPowerOn_sound _ _ _ _).keeps (.raiseResetConds _) d

theorem Keeps.resetFalls (d : Device) : Keeps d d.resetFalls := Device.atPowerOn_sound _ _ _ _ d

theorem Keeps.resetRises (d : Device) : Keeps d d.resetRises :=
  (Device.atPowerOn_sound _ _ _ _).keeps (.after (.raiseResetConds _) (.modTrunk _ rfl rfl)) d

theorem Keeps.takeResetDevice (tag : Byte) (d : Device) : Keeps d (takeResetDevice tag d) :=
  (Device.atPowerOn_sound _ _ _ _).keeps (.after (.reply _ _ _ _ _) (.after (.raiseResetConds _) (.modTrunk _ rfl rfl))) d

/-! ## Orders at the decoder (R166, R167) -/

theorem Keeps.takeConfigureDevice (tag : Byte) (limit : Word16) (d : Device) :
    Keeps d (takeConfigureDevice tag limit d) :=
  .ite (fun _ => .reply d _ _ _ _) fun _ => .after (.reply _ _ _ _ _) (.modTrunk d rfl rfl)

theorem Keeps.takeOrder (tag : Byte) (o : Order) (d : Device) : Keeps d (takeOrder tag o d) := by
  unfold Machine.takeOrder
  cases o with
  | openSlot => exact .changeSlot d tag _ _ _ _ _
  | writeHeader => exact .changeSlot d tag _ _ _ _ _
  | writeFiducials => exact .changeSlot d tag _ _ _ _ _
  | writeJoints => exact .changeSlot d tag _ _ _ _ _
  | writeRules => exact .changeSlot d tag _ _ _ _ _
  | unsealSlot => exact .changeSlot d tag _ _ _ _ _
  | sealSlot slot => exact .takeSealSlot tag slot d
  | eraseSlot slot => exact .takeEraseSlot tag slot d
  | readSlot slot =>
    show Keeps d (takeReadSlot tag slot d)
    unfold takeReadSlot
    split <;> exact .reply d _ _ _ _
  | readFiducials => exact .readEntries d tag _ _ _ _
  | readJoints => exact .readEntries d tag _ _ _ _
  | readRules => exact .readEntries d tag _ _ _ _
  | bindRecipe lane slot => exact .takeBindRecipe tag lane slot d
  | configureLane lane x => exact .takeConfigureLane tag lane x d
  | configurePort port noise check => exact .takeConfigurePort tag port noise check d
  | loadPattern port offset count px => exact .takeLoadPattern tag port offset count px d
  | readPattern port offset count => exact .takeReadPattern tag port offset count d
  | setInjection port mode n => exact .takeSetInjection tag port mode n d
  | readPort port => exact .takeReadPort tag port d
  | readWindows lane start count => exact .takeReadWindows tag lane start count d
  | setReportMode lane mode detail => exact .takeSetReportMode tag lane mode detail d
  | enableLane lane => exact .takeEnableLane tag lane d
  | armLane lane => exact .takeArmLane tag lane d
  | disableLane lane => exact .takeDisableLane tag lane d
  | readLane lane | readGate lane => exact .onLane d _ _ _ fun _ => .reply d _ _ _ _
  | readPanel lane context => exact .takeReadPanel tag lane context d
  | setGateMode lane mode => exact .takeSetGateMode tag lane mode d
  | setFaultResponse lane kind override hold => exact .takeSetFaultResponse tag lane kind override hold d
  | releaseForce lane => exact .takeReleaseForce tag lane d
  | resetDevice => exact .takeResetDevice tag d
  | configureDevice limit => exact .takeConfigureDevice tag limit d
  | readConditions set => exact .takeReadConditions tag set d
  | clearConditions set list => exact .takeClearConditions tag set list d
  | setMask set list => exact .takeSetMask tag set list d
  | readJudgement | identify | readTrunk | malformed | unknown => exact .reply d _ _ _ _

theorem Keeps.joinInbound (d : Device) (tag : Byte) (o : Order) : Keeps d (d.joinInbound tag o) :=
  .ite (fun _ => .modTrunk d rfl rfl) fun _ => .raiseDevice d _

theorem Keeps.arrive (d : Device) (tag : Byte) (o : Order) : Keeps d (d.arrive tag o (Machine.takeOrder tag o)) :=
  .ite (fun _ => .takeOrder tag o d) fun _ => .joinInbound d tag o

theorem Keeps.decodeNext (d : Device) : Keeps d d.decodeNext := by
  unfold Device.decodeNext
  split
  · exact .refl d
  · exact .ite (fun _ => .after (.takeOrder _ _ _) (.modTrunk d rfl rfl)) fun _ => .refl d

theorem Keeps.orderArrives (d : Device) (tag code : Byte) (params : List Byte) :
    Keeps d (d.orderArrives tag code params) := .arrive d _ _

/-! ## Inbound frames and the link (R162 to R166) -/

theorem Keeps.discardFrame (d : Device) (rx : Option (List Byte)) : Keeps d (d.discardFrame rx) :=
  .after (.raiseDevice _ _) (.modTrunk d rfl rfl)

theorem Keeps.grantCredit (d : Device) (grant : Byte) : Keeps d (d.grantCredit grant) := .modTrunk d rfl rfl

theorem Keeps.acceptFrame (d : Device) (kind : Byte) (payload : List Byte) : Keeps d (d.acceptFrame kind payload) := by
  refine .ite (fun _ => .grantCredit d _) fun _ => ?_
  split
  · exact .orderArrives d _ _ _
  · exact .refl d

theorem Keeps.endFrame (d : Device) (kind : Byte) (body check : List Byte) : Keeps d (d.endFrame kind body check) :=
  .ite (fun _ => .after (.acceptFrame _ _ _) (.modTrunk d rfl rfl)) fun _ => .discardFrame d _

theorem Keeps.rxByte (d : Device) (b : Byte) : Keeps d (d.rxByte b) := by
  unfold Device.rxByte
  split
  · exact .refl d
  · dsimp only
    split
    · exact .ite (fun _ => .modTrunk d rfl rfl) fun _ => .discardFrame d _
    · exact .modTrunk d rfl rfl
    · exact .ite (fun _ => .discardFrame d _) fun _ =>
        .ite (fun _ => .endFrame d _ _ _) fun _ => .modTrunk d rfl rfl
    · exact .refl d

theorem Keeps.rxWord (d : Device) (w : LinkWord) : Keeps d (d.rxWord w) := by
  cases w with
  | sync => exact .ite (fun _ => .discardFrame d _) fun _ => .refl d
  | delimiter => exact .ite (fun _ => .discardFrame d _) fun _ => .modTrunk d rfl rfl
  | data b => exact .rxByte d b

theorem Trunk.trainWord_queues (t : Trunk) (w : LinkWord) :
    (t.trainWord w).verdicts = t.verdicts ∧ (t.trainWord w).panelReports = t.panelReports := by
  unfold Trunk.trainWord
  split
  · split <;> exact ⟨rfl, rfl⟩
  · exact ⟨rfl, rfl⟩

theorem Keeps.trunkWord (d : Device) (w : LinkWord) : Keeps d (d.trunkWord w) := by
  unfold Device.trunkWord
  split
  · exact .refl d
  · exact .modTrunk d (Trunk.trainWord_queues _ w).1 (Trunk.trainWord_queues _ w).2
  · exact .rxWord d w

theorem Keeps.breakOpen (d : Device) : Keeps d d.breakOpen :=
  .ite (fun _ => .after (.settleStall _) (.discardFrame d _)) fun _ => .refl d

theorem Keeps.frameComes (d : Device) (run : Nat) {f : Device → Device} (h : Keeps d (f d)) :
    Keeps d (d.frameComes run f) := by
  unfold Device.frameComes
  split
  · exact h
  · exact .modTrunk d rfl rfl
  · exact .refl d

theorem Keeps.orderFrame (tag code : Byte) (params : List Byte) (d : Device) :
    Keeps d (Device.orderFrame tag code params d) :=
  .ite (fun _ => .after (.orderArrives _ _ _ _) (.breakOpen d)) fun _ => .after (.discardFrame _ _) (.breakOpen d)

theorem Keeps.setTrkSd (d : Device) (level : Bool) : Keeps d { d with trkSd := level } := ⟨id, id, id, id, id, id, id, id⟩

theorem Trunk.leaveUp_queues (t : Trunk) : t.leaveUp.verdicts = t.verdicts ∧ t.leaveUp.panelReports = t.panelReports := by
  unfold Trunk.leaveUp
  split <;> exact ⟨rfl, rfl⟩

theorem Keeps.trkSdFalls (d : Device) : Keeps d d.trkSdFalls :=
  .ite (fun _ => .setTrkSd d _) fun _ =>
    .after (.modTrunk _ (Trunk.leaveUp_queues _).1 (Trunk.leaveUp_queues _).2) (.setTrkSd d false)

theorem Keeps.trkSdRises (d : Device) : Keeps d d.trkSdRises :=
  .ite (fun _ => .setTrkSd d _) fun _ =>
    .ite (fun _ => .after (.modTrunk _ rfl rfl) (.setTrkSd d true)) fun _ => .setTrkSd d _

/-! ## Outbound frames (R169, R170) -/

theorem Keeps.sendReply (d : Device) (r : Reply) (rest : List Reply) : Keeps d (d.sendReply r rest) :=
  .after (.decodeNext _) (.after (.settleStall _) (.modTrunk d rfl rfl))

theorem Keeps.sendNotice {d : Device} {i : SetId} {rest : List SetId} (hq : d.cond.noticeQueue = i :: rest) :
    Keeps d (d.sendNotice i rest) := by
  unfold Device.sendNotice
  refine .after (.modTrunk _ rfl rfl) (.of_lanes_cond (fun _ => .refl _) (fun h => ?_) rfl rfl rfl rfl rfl rfl rfl rfl)
  obtain ⟨hnodup, hpending⟩ := h
  rw [hq] at hnodup hpending
  obtain ⟨hi, hrest⟩ := List.nodup_cons.mp hnodup
  refine ⟨hrest, fun j => ?_⟩
  show ((d.cond.set i _).get j).noticePending = true ↔ j ∈ rest
  rw [CondUnit.get_set]
  split
  · next hj => exact iff_of_false (by simp) (hj ▸ hi)
  · next hj => rw [hpending, List.mem_cons]; simp [hj]

theorem Keeps.sendPanelReport {d : Device} {r : PanelReport} {rest : List PanelReport}
    (hq : d.trunk.panelReports = r :: rest) : Keeps d (d.sendPanelReport r rest) := by
  unfold Device.sendPanelReport
  dsimp only
  generalize hsent : d.modTrunk (fun t => { t.send .panelReport (panelReportPayload r) with panelReports := rest }) = sent
  have horder : sent.retireOrder = d.retireOrder := hsent ▸ rfl
  have hkept : ∀ {α : Type} (g : Device → α), (∀ d l n, g (d.retireNow l n) = g d) →
      (∀ (d : Device) rs, g { d with retireOrder := rs } = g d) →
      g (Device.retireFrom sent.retireOrder sent) = g sent := fun g hn ho => Device.retireFrom_kept g hn ho _ sent
  refine .of_places (fun m => ?_) ?_ (fun ⟨hv, hp, _⟩ => Device.retireFrom_reports _ _ (hsent ▸ hv) ?_)
    (fun ho => Device.retireFrom_order _ _ ?_) ?_ ?_ ?_ ?_ ?_
  · exact (show d.lane m = sent.lane m from hsent ▸ rfl) ▸ Device.retireFrom_keepsPlaces _ sent m
  · simp only [NoticesAgree, hkept Device.cond (by simp) (fun _ _ => rfl)]
    exact fun h => hsent ▸ h
  · rw [← hsent]
    rw [hq] at hp
    exact Nat.le_of_succ_le hp
  · exact (show ({ sent with retireOrder := sent.retireOrder } : Device) = sent from rfl) ▸ hsent ▸ ho
  · exact (hkept Device.slots (by simp) fun _ _ => rfl).trans (hsent ▸ rfl)
  · exact (hkept Device.validation (by simp) fun _ _ => rfl).trans (hsent ▸ rfl)
  · exact (hkept Device.crops (by simp) fun _ _ => rfl).trans (hsent ▸ rfl)
  · exact (hkept Device.closeQueue (by simp) fun _ _ => rfl).trans (hsent ▸ rfl)
  · exact (hkept Device.waiting (by simp) fun _ _ => rfl).trans (hsent ▸ rfl)

theorem Keeps.sendVerdict {d : Device} {r : VerdictReport} {rest : List VerdictReport}
    (hq : d.trunk.verdicts = r :: rest) : Keeps d (d.sendVerdict r rest) :=
  ⟨id, id, fun ⟨hv, hp, hw⟩ => ⟨Nat.le_of_succ_le (hq ▸ hv : (r :: rest).length ≤ 1024), hp, hw⟩, id, id, id, id, id⟩

theorem Keeps.beginFrame (d : Device) : Keeps d d.beginFrame := by
  refine .ite (fun _ => ?_) fun _ => .refl d
  unfold Device.sendNext
  split
  · exact .sendReply d _ _
  · exact .sendNotice ‹_›
  · exact .sendPanelReport ‹_›
  · exact .sendVerdict ‹_›
  · exact .after (.freeCrop _ _) (.modTrunk d rfl rfl)
  · exact .refl d

/-! ## Every step -/

theorem Keeps.event {f : Device → Device} {s t : State} (h : ∀ d, Keeps d (f d)) (ht : event f s = .next t) :
    Keeps s.dev t.dev := by
  cases ht
  exact .ite (fun _ => .refl _) fun _ => .after (.settleStall _) (h _)

theorem Keeps.pinEvent {f : Device → Device} {s t : State} (h : ∀ d, Keeps d (f d)) (ht : pinEvent f s = .next t) :
    Keeps s.dev t.dev := by
  cases ht
  exact .after (.settleStall _) (h _)

theorem Keeps.exec {i : Instr} {s t : State} (ht : exec i s = .next t) : Keeps s.dev t.dev := by
  cases i with
  | powerOn => exact .pinEvent .powersOn ht
  | resetPinAssert => exact .pinEvent .resetFalls ht
  | resetPinRelease => exact .pinEvent .resetRises ht
  | camSdInactive p => exact .pinEvent (.camSdFalls · p) ht
  | camSdActive p => exact .pinEvent (.camSdRises · p) ht
  | trkSdInactive => exact .pinEvent .trkSdFalls ht
  | trkSdActive => exact .pinEvent .trkSdRises ht
  | validationComplete => exact .event .validationEnds ht
  | encoderForwardCount l => exact .event (.forwardCount · l) ht
  | encoderReverseCount l => exact .event (.reverseCount · l) ht
  | edgeRise l => exact .event (.edgeRises · l) ht
  | flashEnd l => exact .event (.flashEnds · l) ht
  | settleExpiry l => exact .event (.settleExpires · l) ht
  | warmupExpiry l => exact .event (.warmupExpires · l) ht
  | idleTimerExpiry l => exact .event (.idleExpires · l) ht
  | fillWord p | startWord p | dataWord p | endWord p | violationWord p => exact .event (.camWord · p _) ht
  | itemTake l => exact .event (.takeItem · l) ht
  | evaluationTake => exact .event .takeEvaluation ht
  | evaluationComplete => exact .event .completeEvaluation ht
  | trainingWord w => exact .event (.trunkWord · w) ht
  | frameError damage => exact .event (fun d => .frameComes d _ (.discardFrame d _)) ht
  | creditFrame grant => exact .event (fun d => .frameComes d _ (.after (.grantCredit _ grant) (.breakOpen d))) ht
  | orderFrame tag code params => exact .event (fun d => .frameComes d _ (.orderFrame tag code params d)) ht
  | unknownOrder tag code => exact .event (.orderArrives · tag code []) ht
  | frameBegin => exact .event .beginFrame ht
  | frameComplete => exact .event (fun d => .modTrunk d rfl rfl) ht
  | stallTimerExpiry => exact .event .stallExpires ht
  | openSlot | writeHeader | writeFiducials | writeJoints | writeRules | sealSlot | unsealSlot | eraseSlot | readSlot
  | readFiducials | readJoints | readRules | bindRecipe | configureLane | enableLane | armLane | disableLane | readLane
  | readPanel | configurePort | loadPattern | readPattern | setInjection | readPort | setReportMode | readJudgement
  | readWindows | setGateMode | setFaultResponse | releaseForce | readGate | identify | readTrunk | configureDevice
  | resetDevice | readConditions | clearConditions | setMask => exact .event (fun d => .arrive d _ _) ht

theorem Keeps.step {s t : State} (ht : step s = .next t) : Keeps s.dev t.dev := by
  unfold Machine.step at ht
  split at ht
  · exact .event .tick ht
  · exact (Keeps.exec ht :)

/-! ## The statements -/

/-- Settles O15, by `Keeps.step`. -/
theorem referencedSlotsStaySealed : Obligations.ReferencedSlotsStaySealed := fun _ _ h ht => (Keeps.step ht).referenced h

/-- Settles O31, by `Keeps.step`. -/
theorem lanesAndPortsStayWithin : Obligations.LanesAndPortsStayWithin :=
  ⟨fun _ _ h ht => (Keeps.step ht).ports h, fun _ _ h ht => (Keeps.step ht).lanes h⟩

/-- Settles O34, by `Keeps.step`. -/
theorem lanesStayOrdered : Obligations.LanesStayOrdered := fun _ _ h ht => (Keeps.step ht).ordered h

/-- Settles O57, by `Keeps.step`. -/
theorem noticesStayAgreeing : Obligations.NoticesStayAgreeing := fun _ _ h ht => (Keeps.step ht).notices h

/-- Settles O59, by `Keeps.step`. -/
theorem queuesStayWithin : Obligations.QueuesStayWithin :=
  ⟨fun _ _ h ht => (Keeps.step ht).closing h, fun _ _ h ht => (Keeps.step ht).reports h⟩

end Sys2Proof.Machine

/-! # What stands: replies, credit and waiting orders, forced overrides, holds and divert codes (chapters 8 and 9) -/

namespace Sys2Proof.Machine

/-- What a change of the part leaves of the gate units: where `gates` holds it lowers no forced override and releases no
hold, where `quiet` holds it changes no divert code (R148). -/
structure Forces (gates quiet : Prop) (d e : Device) : Prop where
  forced : gates → ∀ l, overrideCode (d.lane l).gate.forced ≤ overrideCode (e.lane l).gate.forced
  hold : gates → ∀ l, (d.lane l).gate.hold = true → (e.lane l).gate.hold = true
  divert : quiet → ∀ l, (e.lane l).gate.divert = (d.lane l).gate.divert

/-- What an operation that is no order, reset or word of the link leaves: the order side of the trunk link, and the gate
units as `Forces` has it. -/
structure Stands (gates quiet : Prop) (d e : Device) : Prop where
  resetLow : e.resetLow = d.resetLow
  replies : e.trunk.replies = d.trunk.replies
  inbound : e.trunk.inbound = d.trunk.inbound
  credit : e.trunk.credit = d.trunk.credit
  validation : e.validation = d.validation
  forces : Forces gates quiet d e

section
variable {g q : Prop}

/-- Every gate unit stands. -/
theorem Forces.of_gates {d e : Device} (h : ∀ l, (e.lane l).gate = (d.lane l).gate) : Forces g q d e :=
  ⟨fun _ l => by rw [h], fun _ l => by rw [h]; exact id, fun _ l => by rw [h]⟩

theorem Forces.refl (d : Device) : Forces g q d d := .of_gates fun _ => rfl

theorem Forces.trans {d e f : Device} (h : Forces g q d e) (k : Forces g q e f) : Forces g q d f :=
  ⟨fun hg l => (h.forced hg l).trans (k.forced hg l), fun hg l => k.hold hg l ∘ h.hold hg l,
    fun hq l => (k.divert hq l).trans (h.divert hq l)⟩

theorem Stands.refl (d : Device) : Stands g q d d := ⟨rfl, rfl, rfl, rfl, rfl, .refl d⟩

theorem Stands.trans {d e f : Device} (h : Stands g q d e) (k : Stands g q e f) : Stands g q d f :=
  ⟨k.resetLow.trans h.resetLow, k.replies.trans h.replies, k.inbound.trans h.inbound, k.credit.trans h.credit,
    k.validation.trans h.validation, h.forces.trans k.forces⟩

/-- `Stands.trans` with the later change first, as the shape of an operation gives it. -/
theorem Stands.after {d e f : Device} (k : Stands g q e f) (h : Stands g q d e) : Stands g q d f := h.trans k

theorem Stands.foldl {α : Type} {f : Device → α → Device} (h : ∀ d x, Stands g q d (f d x)) (xs : List α) (d : Device) :
    Stands g q d (xs.foldl f d) := by
  induction xs generalizing d with
  | nil => exact .refl d
  | cons x xs ih => exact (h d x).trans (ih _)

theorem Stands.ite {d e f : Device} {P : Prop} [Decidable P] (h : P → Stands g q d e) (k : ¬ P → Stands g q d f) :
    Stands g q d (if P then e else f) := by
  split
  · exact h ‹_›
  · exact k ‹_›

/-- Every gate unit stands. -/
theorem Stands.of_gates {d e : Device} (gates : ∀ l, (e.lane l).gate = (d.lane l).gate) (resetLow : e.resetLow = d.resetLow)
    (replies : e.trunk.replies = d.trunk.replies) (inbound : e.trunk.inbound = d.trunk.inbound)
    (credit : e.trunk.credit = d.trunk.credit) (validation : e.validation = d.validation) : Stands g q d e :=
  ⟨resetLow, replies, inbound, credit, validation, .of_gates gates⟩

/-- One lane changes: its gate unit alone counts. -/
theorem Stands.setLane_gate (d : Device) (l : LaneId) {L : Lane}
    (forced : g → overrideCode (d.lane l).gate.forced ≤ overrideCode L.gate.forced)
    (hold : g → (d.lane l).gate.hold = true → L.gate.hold = true) (divert : q → L.gate.divert = (d.lane l).gate.divert) :
    Stands g q d (d.setLane l L) := by
  refine ⟨rfl, rfl, rfl, rfl, rfl, fun hg m => ?_, fun hg m => ?_, fun hq m => ?_⟩ <;> rw [Device.lane_setLane_of] <;> split
  · next hm => exact hm ▸ forced hg
  · exact Nat.le_refl _
  · next hm => exact hm ▸ hold hg
  · exact id
  · next hm => exact hm ▸ divert hq
  · rfl

theorem Stands.setLane (d : Device) (l : LaneId) {L : Lane} (h : L.gate = (d.lane l).gate) :
    Stands g q d (d.setLane l L) :=
  .setLane_gate d l (fun _ => by rw [h]) (fun _ => by rw [h]; exact id) (fun _ => by rw [h])

theorem Stands.modLane (d : Device) (l : LaneId) {f : Lane → Lane} (h : (f (d.lane l)).gate = (d.lane l).gate) :
    Stands g q d (d.modLane l f) := .setLane d l h

theorem Stands.modCtx (d : Device) (l : LaneId) (n : Fin 4) (f : Context → Context) : Stands g q d (d.modCtx l n f) :=
  .modLane d l rfl

theorem Stands.modTrunk (d : Device) {f : Trunk → Trunk} (replies : (f d.trunk).replies = d.trunk.replies)
    (inbound : (f d.trunk).inbound = d.trunk.inbound) (credit : (f d.trunk).credit = d.trunk.credit) :
    Stands g q d (d.modTrunk f) := .of_gates (fun _ => rfl) rfl replies inbound credit rfl

theorem Stands.settleStall (d : Device) : Stands g q d d.settleStall :=
  .of_gates (by simp) (by simp) (by simp) (by simp) (by simp) (by simp)

/-! ## Conditions and faults (R156, R158, R177) -/

theorem Stands.raise (d : Device) (i : SetId) (list : Word16) : Stands g q d (d.raise i list) :=
  .of_gates (fun _ => rfl) rfl rfl rfl rfl rfl

theorem Stands.updateConds (d : Device) (f : CondUnit → CondUnit) : Stands g q d (d.updateConds f) :=
  .of_gates (fun _ => rfl) rfl rfl rfl rfl rfl

theorem Stands.raiseDevice (d : Device) (c : DeviceCond) : Stands g q d (d.raiseDevice c) := .raise d _ _

theorem Stands.raiseLane (d : Device) (l : LaneId) (c : LaneCond) : Stands g q d (d.raiseLane l c) := .raise d _ _

theorem Override.code_worse (x y : Override) : overrideCode (x.worse y) = max (overrideCode x) (overrideCode y) := by
  cases x <;> cases y <;> rfl

theorem Stands.fault (d : Device) (l : LaneId) (k : FaultKind) : Stands g q d (d.fault l k) := by
  have hgate : Stands g q d (d.setLane l ((d.fault l k).lane l)) := by
    refine .setLane_gate d l (fun _ => ?_) (fun _ => ?_) (fun _ => ?_) <;> rw [Device.fault_lane, if_pos rfl] <;> dsimp only <;>
      split
    · exact Nat.le_refl _
    · exact (Override.code_worse _ _).symm ▸ Nat.le_max_left _ _
    · exact id
    · exact fun h => Bool.or_eq_true_iff.mpr (.inl h)
    · rfl
    · rfl
  have hlane : ∀ m, (d.fault l k).lane m = (d.setLane l ((d.fault l k).lane l)).lane m := fun m => by
    rw [Device.lane_setLane_of]
    split
    · next hm => rw [hm]
    · next hm => rw [Device.fault_lane, if_neg hm]
  exact hgate.trans (.of_gates (fun m => congrArg Lane.gate (hlane m)) (by simp) (by simp) (by simp) (by simp) (by simp))

/-! ## Contexts, retirement, decision (chapter 7) -/

theorem Stands.retireNow (d : Device) (l : LaneId) (n : Fin 4) : Stands g q d (d.retireNow l n) := by
  refine .of_gates (fun m => ?_) (by simp) (by simp) (by simp) (by simp) (by simp)
  rw [Device.retireNow_lane]
  split
  · next hm => rw [hm]; rfl
  · rfl

theorem Stands.setRetireOrder (d : Device) (rs : List (LaneId × Fin 4)) :
    Stands g q d { d with retireOrder := rs } := .of_gates (fun _ => rfl) rfl rfl rfl rfl rfl

theorem Stands.retireFrom (rs : List (LaneId × Fin 4)) (d : Device) : Stands g q d (Device.retireFrom rs d) := by
  induction rs generalizing d with
  | nil => exact .setRetireOrder d []
  | cons r rest ih => exact .ite (fun _ => (Stands.retireNow d r.1 r.2).trans (ih _)) fun _ => .setRetireOrder d _

theorem Stands.retire (d : Device) (l : LaneId) (n : Fin 4) : Stands g q d (d.retire l n) :=
  .ite (fun _ => .retireNow d l n) fun _ => .after (.setRetireOrder _ _) (.modCtx d l n _)

theorem Stands.noteDecision (d : Device) (l : LaneId) (dec : Decision) : Stands g q d (d.noteDecision l dec) :=
  .ite (fun _ => .raiseLane _ _ _) fun _ => .refl _

theorem Stands.tryDecide (d : Device) (l : LaneId) (n : Fin 4) : Stands g q d (d.tryDecide l n) := by
  cases hc : (d.lane l).ctx n with
  | none => simp only [Device.tryDecide, hc]; exact .refl d
  | some c =>
    by_cases hall : c.accounted = d.jointCount c
    · by_cases hsettling : c.state = .settling
      · rw [Device.tryDecide_of_settling hc hall hsettling]
        exact .trans (.modCtx d l n _) (.noteDecision _ l _)
      · by_cases hpassed : c.state = .passed
        · rw [Device.tryDecide_of_passed hc hall hpassed]
          exact .after (.retire _ l n) (.after (.noteDecision _ l _) (.modCtx d l n _))
        · rw [Device.tryDecide_of_other_state hc ⟨hsettling, hpassed⟩]; exact .refl d
    · rw [Device.tryDecide_of_not_accounted hc hall]; exact .refl d

/-! ## The gate (sections 8.2 and 8.3) -/

theorem Stands.passGateEntry (d : Device) (l : LaneId) (e : GateEntry) : Stands g q d (d.passGateEntry l e) := by
  refine .ite (fun _ => .setLane_gate d l (fun _ => Nat.le_refl _) (fun _ => id) fun _ => rfl) fun _ => ?_
  split
  · exact .after (.modCtx _ l _ _) (.fault d l _)
  · exact .fault d l _

theorem Stands.gateAct (d : Device) (l : LaneId) (c : Context) (code : Decision) : Stands g q d (d.gateAct l c code) := by
  unfold Device.gateAct
  split
  · exact .after (.retire _ l _) (.modCtx d l _ _)
  · exact .after (.raiseLane _ l _) (.modCtx d l _ _)
  · exact .after (.raiseLane _ l _) (.modCtx d l _ _)
  · exact .after (.raiseLane _ l _) (.modCtx d l _ _)
  all_goals exact .refl d

/-- A gate arrival changes the divert code, and no other part of the force (R148, R150). -/
theorem Stands.gateArrival (d : Device) (l : LaneId) : Stands g False d (d.gateArrival l) := by
  cases hq : (d.lane l).gate.queue with
  | nil => simp only [Device.gateArrival, hq]; exact .refl d
  | cons e rest =>
    rw [Device.gateArrival_of_queue hq]
    have htake : Stands g False d (d.takeGateEntry l rest ((d.lane l).effectiveCode e)) :=
      .setLane_gate d l (fun _ => Nat.le_refl _) (fun _ => id) nofun
    cases (d.lane l).entryCtx e with
    | none => exact htake
    | some c => exact htake.trans (.gateAct _ l c _)

theorem Stands.gateArrivals (l : LaneId) (fuel : Nat) (d : Device) : Stands g False d (Device.gateArrivals l fuel d) := by
  induction fuel generalizing d with
  | zero => exact .refl d
  | succ fuel ih => exact .ite (fun _ => .after (ih _) (.gateArrival d l)) fun _ => .refl d

/-! ## Registration, windows, crop store, judgement (chapters 4 to 6) -/

/-- The crop store, the window lists and the number of free values are no part of it. -/
theorem Stands.of_lists {d e : Device} (lanes : e.lanes = d.lanes) (resetLow : e.resetLow = d.resetLow)
    (trunk : e.trunk = d.trunk) (validation : e.validation = d.validation) : Stands g q d e :=
  .of_gates (fun l => congrArg (fun x => (x.get l).gate) lanes) resetLow (by rw [trunk]) (by rw [trunk]) (by rw [trunk]) validation

theorem Stands.setWaiting (d : Device) (ks : List WindowKey) : Stands g q d { d with waiting := ks } :=
  .of_lists rfl rfl rfl rfl

theorem Stands.freeCrop (d : Device) (i : Nat) : Stands g q d (d.freeCrop i) := .of_lists rfl rfl rfl rfl

theorem Stands.freeCropOf (d : Device) (w : Window) : Stands g q d (d.freeCropOf w) := by
  unfold Device.freeCropOf
  split
  · exact .refl d
  · exact .of_lists rfl rfl rfl rfl

theorem Stands.takeCropIf (d : Device) (w : Window) (slot : Option Nat) : Stands g q d (d.takeCropIf w slot) := by
  cases slot with
  | none => exact .refl d
  | some i => exact .of_lists rfl rfl rfl rfl

theorem Stands.copyCrop (x : Item) (d : Device) (w : Window) : Stands g q d (Device.copyCrop x d w) := by
  unfold Device.copyCrop
  split
  · exact .of_lists rfl rfl rfl rfl
  · exact .refl d

theorem Stands.endRegistration (d : Device) (l : LaneId) (r : Registration) (st : RegState) :
    Stands g q d (d.endRegistration l r st) := by
  have hrecord : Stands g q d ((d.modLane l (fun L => { L with reg := none })).modCtx l r.ctx (Context.recordReg r st)) :=
    .after (.modCtx _ l _ _) (.modLane d l rfl)
  unfold Device.endRegistration
  dsimp only
  split
  · exact .after (.raiseLane _ l _) (.after (.modCtx _ l _ _) hrecord)
  all_goals exact hrecord

theorem Stands.registerItem (d : Device) (l : LaneId) (p : LocalPort) (x : Item) :
    Stands g q d (d.registerItem l p x) := by
  unfold Device.registerItem
  split
  · exact .refl d
  · exact .ite (fun _ => .ite (fun _ => .endRegistration d l _ _) fun _ => .modLane d l rfl) fun _ => .refl d

theorem Stands.registrationDeadline (d : Device) (l : LaneId) : Stands g q d (d.registrationDeadline l) := by
  unfold Device.registrationDeadline
  split
  · exact .refl d
  · exact .endRegistration d l _ _

theorem Stands.scheduleJoint (d : Device) (l : LaneId) (c : Context) (e : JointEntry) (dx dy : Int) :
    Stands g q d (d.scheduleJoint l c e dx dy) := by
  rcases Nat.lt_or_ge (d.lane l).openList.length 512 with hroom | hfull
  · rw [Device.scheduleJoint_of_room c e dx dy hroom]
    exact .after (.modCtx _ l _ _) (.after (.modLane _ l rfl) (.takeCropIf d _ _))
  · rw [Device.scheduleJoint_of_full c e dx dy hfull]
    exact .after (.raiseLane _ l _) (.modCtx d l _ _)

theorem Stands.openJoints (l : LaneId) (n : Fin 4) (line fuel : Nat) (d : Device) :
    Stands g q d (Device.openJoints l n line fuel d) := by
  induction fuel generalizing d with
  | zero => exact .refl d
  | succ fuel ih =>
    unfold Device.openJoints
    split
    · exact .refl d
    · split
      · exact .refl d
      · exact .refl d
      · exact .ite (fun _ => .after (ih _) (.scheduleJoint d l _ _ _ _)) fun _ => .refl d

theorem Stands.feedWindows (d : Device) (l : LaneId) (p : LocalPort) (x : Item) : Stands g q d (d.feedWindows l p x) :=
  .after (.foldl (Stands.copyCrop x) _ _) (.modLane d l rfl)

theorem Stands.moveToClose (d : Device) (w : Window) : Stands g q d (d.moveToClose w) :=
  .of_gates (fun m => by
    rw [Device.moveToClose_lane]
    split
    · next hm => rw [hm]
    · rfl) rfl rfl rfl rfl rfl

theorem Stands.offerClose (d : Device) (w : Window) : Stands g q d (d.offerClose w) :=
  .ite (fun _ => .moveToClose d w) fun _ => .after (.raiseDevice _ _) (.of_lists rfl rfl rfl rfl)

theorem Stands.refillFrom (ks : List WindowKey) (d : Device) : Stands g q d (Device.refillFrom ks d) := by
  induction ks generalizing d with
  | nil => exact .of_lists rfl rfl rfl rfl
  | cons k rest ih =>
    refine .ite (fun _ => ?_) fun _ => .of_lists rfl rfl rfl rfl
    split
    · exact ih d
    · exact .after (ih _) (.moveToClose d _)

theorem Stands.resolveItem (d : Device) (l : LaneId) (p : LocalPort) (x : Item) : Stands g q d (d.resolveItem l p x) :=
  .after (.foldl Stands.offerClose _ _) (.modLane d l rfl)

theorem Stands.takeItem (d : Device) (l : LaneId) : Stands g q d (d.takeItem l) := by
  unfold Device.takeItem
  split
  · exact .refl d
  · dsimp only
    split
    · exact .refl d
    · exact .after (.resolveItem _ l _ _) (.after (.feedWindows _ l _ _) (.after (.registerItem _ l _ _)
        (.after (.modLane _ l rfl) (.modLane d l rfl))))

theorem Stands.abortWindows (d : Device) (l : LaneId) (c : Context) : Stands g q d (d.abortWindows l c) := by
  unfold Device.abortWindows
  exact .after (.modCtx _ l _ _) (.after (.setWaiting _ _) (.after (.modLane _ l rfl) (.foldl Stands.freeCropOf _ d)))

theorem Stands.offerReport (d : Device) (c : Context) (w : Window) (j : Judged) : Stands g q d (d.offerReport c w j) := by
  refine .ite (fun _ => ?_) fun _ => .after (.freeCropOf _ w) (.after (.fault _ _ _) (.after (.raiseDevice _ _) (.modCtx d _ _ _)))
  have hjoined : Stands g q d (d.modTrunk (fun t => { t with verdicts := t.verdicts ++
      [d.buildReport c w j (keepsCrop j.verdict && w.crop.isSome)] })) := .modTrunk d rfl rfl rfl
  dsimp only
  split
  · exact hjoined
  · exact .ite (fun _ => hjoined.trans (.of_lists rfl rfl rfl rfl)) fun _ => hjoined.trans (.of_lists rfl rfl rfl rfl)

theorem Stands.completeEvaluation (d : Device) : Stands g q d d.completeEvaluation := by
  have hfree : Stands g q d { d with evaluation := none } := .of_lists rfl rfl rfl rfl
  unfold Device.completeEvaluation
  split
  · exact .refl d
  · next w _ =>
    dsimp only
    split
    · exact .after (.freeCropOf _ w) hfree
    · next c _ =>
      exact .after (.tryDecide _ _ _) (.ite (fun _ => .after (.offerReport _ c w _) (.after (.modCtx _ _ _ _) hfree))
        fun _ => .after (.freeCropOf _ w) (.after (.modCtx _ _ _ _) hfree))

theorem Stands.takeEvaluation (d : Device) : Stands g q d d.takeEvaluation := by
  unfold Device.takeEvaluation
  split
  · exact .after (.refillFrom _ _) (.of_lists rfl rfl rfl rfl)
  · exact .refl d

/-! ## Ports and strobe sequencer (chapters 2 and 3) -/

theorem Stands.onPort (d : Device) (p : PortId) (f : PortRun → PortRun) : Stands g q d (d.onPort p f) :=
  .after (.raise _ _ _) (.modLane d _ rfl)

theorem Stands.onStream (d : Device) (p : PortId) (f : PortRun → PortRun) : Stands g q d (d.onStream p f) :=
  .ite (fun _ => .after (.fault _ _ _) (.onPort d p f)) fun _ => .onPort d p f

theorem Stands.onPortSet (d : Device) (l : LaneId) (set : Byte) (f : PortRun → PortRun) :
    Stands g q d (d.onPortSet l set f) := by
  have hfirst : Stands g q d (if portIn set .p0 then d.onPort ⟨l, .p0⟩ f else d) :=
    .ite (fun _ => .onPort d _ f) fun _ => .refl d
  exact .ite (fun _ => .after (.onPort _ _ f) hfirst) fun _ => hfirst

theorem Stands.camWord (d : Device) (p : PortId) (w : CamWord) : Stands g q d (d.camWord p w) :=
  .ite (fun _ => .onStream d p _) fun _ => .refl d

theorem Stands.camSdFalls (d : Device) (p : PortId) : Stands g q d (d.camSdFalls p) :=
  .ite (fun _ => .modLane d _ rfl) fun _ => .after (.onStream _ p _) (.modLane d _ rfl)

theorem Stands.camSdRises (d : Device) (p : PortId) : Stands g q d (d.camSdRises p) :=
  .ite (fun _ => .modLane d _ rfl) fun _ =>
    .ite (fun _ => .after (.onStream _ p _) (.modLane d _ rfl)) fun _ => .modLane d _ rfl

theorem Stands.enterFlash (d : Device) (l : LaneId) (r : LineRun) (p : Phase) : Stands g q d (d.enterFlash l r p) :=
  .after (.onPortSet _ l _ _) (.modLane d l rfl)

theorem Stands.strobeLine (d : Device) (l : LaneId) (r : LineRun) : Stands g q d (d.strobeLine l r) := by
  unfold Device.strobeLine
  split
  · split
    · exact .refl d
    · exact .enterFlash d l r _
  · exact .after (.onPortSet _ l _ _) (.raiseLane d l _)

theorem Stands.flashEnds (d : Device) (l : LaneId) : Stands g q d (d.flashEnds l) := by
  unfold Device.flashEnds
  split
  · exact .modLane d l rfl
  all_goals exact .refl d

theorem Stands.sequenceEnds (d : Device) (l : LaneId) : Stands g q d (d.sequenceEnds l) :=
  .after (.onPort _ _ _) (.after (.onPort _ _ _) (.modLane d l rfl))

theorem Stands.settleExpires (d : Device) (l : LaneId) : Stands g q d (d.settleExpires l) := by
  unfold Device.settleExpires
  split
  · dsimp only
    split
    · exact .after (.sequenceEnds _ l) (.modLane d l rfl)
    · split
      · exact .after (.enterFlash _ l _ _) (.modLane d l rfl)
      · exact .after (.sequenceEnds _ l) (.modLane d l rfl)
  all_goals exact .refl d

/-! ## Lane states, scans, counts and edges (chapters 2 and 7) -/

@[simp] theorem Lane.loadIdle_gate (L : Lane) : L.loadIdle.gate = L.gate := by
  rcases L.loadIdle_eq with h | ⟨_, h⟩ <;> rw [h]

@[simp] theorem Lane.enterReady_gate (L : Lane) : L.enterReady.gate = L.gate := Lane.loadIdle_gate _

@[simp] theorem Lane.warmupExpires_gate (L : Lane) : L.warmupExpires.gate = L.gate := Lane.enterReady_gate _

@[simp] theorem Lane.enterWarming_gate (L : Lane) : L.enterWarming.gate = L.gate := by
  unfold Lane.enterWarming
  dsimp only
  split
  · rw [Lane.warmupExpires_gate]
  · rfl

@[simp] theorem Lane.arm_gate (L : Lane) : L.arm.gate = L.gate := by
  unfold Lane.arm
  split
  · exact Lane.enterWarming_gate L
  · split <;> rfl
  all_goals rfl

@[simp] theorem Lane.takeRecipe_gate (L : Lane) : L.takeRecipe.gate = L.gate := by
  rcases L.takeRecipe_eq with ⟨_, h⟩ | ⟨_, _, h⟩ <;> rw [h]

@[simp] theorem Lane.edge_gate (L : Lane) : L.edge.gate = L.gate := by
  unfold Lane.edge
  dsimp only
  rw [Lane.takeRecipe_gate]
  split
  · rw [Lane.enterWarming_gate]
  · rfl

theorem Stands.leaveScanning (d : Device) (l : LaneId) (n : Fin 4) : Stands g q d (d.leaveScanning l n) := by
  rw [Device.leaveScanning_eq]
  exact .after (.tryDecide _ l n) (.modLane d l (Lane.enterReady_gate _))

theorem Stands.issueLine (d : Device) (l : LaneId) (c : Context) (pos : Word32) : Stands g q d (d.issueLine l c pos) := by
  unfold Device.issueLine
  dsimp only
  generalize hmoved : (d.modLane l fun L => { L with motion := _ } : Device) = moved
  have kmoved : Stands g q d moved := hmoved ▸ .modLane d l rfl
  generalize hchecked : (if c.lineOf (d.lane l).motion.tagCounter = _ then moved.registrationDeadline l else moved) = checked
  have kchecked : Stands g q d checked := by
    rw [← hchecked]; exact .ite (fun _ => kmoved.trans (.registrationDeadline _ l)) fun _ => kmoved
  have kstrobe := fun line joints r => (kchecked.trans (.openJoints l c.num line joints _)).trans (.strobeLine _ l r)
  exact .ite (fun _ => .after (.leaveScanning _ l _) (kstrobe _ _ _)) fun _ => kstrobe _ _ _

theorem Stands.issueDue (d : Device) (l : LaneId) : Stands g q d (d.issueDue l) := by
  unfold Device.issueDue
  dsimp only
  split
  · exact .ite (fun _ => .issueLine d l _ _) fun _ => .refl d
  all_goals exact .refl d

theorem Stands.abortWarmup (d : Device) (l : LaneId) (c : Context) : Stands g q d (d.abortWarmup l c) :=
  .after (.tryDecide _ l _) (.after (.fault _ l _) (.after (.modCtx _ l _ _) (.modCtx d l _ _)))

theorem Stands.abortOverlap (d : Device) (l : LaneId) (c : Context) : Stands g q d (d.abortOverlap l c) :=
  .after (.tryDecide _ l _) (.after (.raiseLane _ l _) (.after (.modCtx _ l _ _) (.modCtx d l _ _)))

theorem Stands.startScan (d : Device) (l : LaneId) (c : Context) : Stands g q d (d.startScan l c) := by
  have hbegun : Stands g q d (d.modLane l fun L => L.beginScan c (d.slot c.slot).hdr) := .modLane d l rfl
  rw [Device.startScan_eq]
  dsimp only
  split
  · exact hbegun
  · exact hbegun.trans (.issueLine _ l _ _)

theorem Stands.scanStart (d : Device) (l : LaneId) (c : Context) : Stands g q d (d.scanStart l c) := by
  unfold Device.scanStart
  split
  · exact .startScan d l c
  · exact .abortOverlap d l c
  all_goals exact .abortWarmup d l c

theorem Stands.scanStarts (l : LaneId) (fuel : Nat) (d : Device) : Stands g q d (Device.scanStarts l fuel d) := by
  induction fuel generalizing d with
  | zero => exact .refl d
  | succ fuel ih =>
    unfold Device.scanStarts
    dsimp only
    split
    · exact .refl d
    · exact .ite (fun _ => .after (ih _) (.scanStart d l _)) fun _ => .refl d

theorem Stands.testPositions (d : Device) (l : LaneId) : Stands g False d (d.testPositions l) := by
  have hgates : ∀ e : Device, Stands g False e (Device.gateArrivals l (e.lane l).gate.queue.length e) :=
    fun e => .gateArrivals l _ e
  have hscans : ∀ e : Device, Stands g False e (Device.scanStarts l (e.lane l).live.length e) :=
    fun e => .scanStarts l _ e
  refine .ite (fun _ => ?_) fun _ => .after (hgates _) (.after (hscans _) (.issueDue d l))
  have hfree : Stands g False d { d with freeIndex := d.freeIndex + 1 } := .of_lists rfl rfl rfl rfl
  dsimp only
  split
  · exact .after (hscans _) (.after (.issueDue _ l) (.after (hgates _) hfree))
  · exact .after (hscans _) (.after (hgates _) (.after (.issueDue _ l) hfree))
  · exact .after (hgates _) (.after (hscans _) (.after (.issueDue _ l) hfree))

theorem Stands.forwardCount (d : Device) (l : LaneId) : Stands g False d (d.forwardCount l) :=
  .ite (fun _ => .refl d) fun _ => .ite (fun _ => .after (.testPositions _ l) (.setLane d l rfl)) fun _ => .setLane d l rfl

theorem Stands.abortMotion (d : Device) (l : LaneId) (c : Context) : Stands g q d (d.abortMotion l c) :=
  .after (.leaveScanning _ l _) (.after (.abortWindows _ l c) (.after (.modLane _ l rfl) (.modCtx d l _ _)))

theorem Stands.reverseCount (d : Device) (l : LaneId) : Stands g q d (d.reverseCount l) := by
  refine .ite (fun _ => .refl d) fun _ => ?_
  dsimp only
  split
  · exact .setLane d l rfl
  · exact .ite (fun _ => .after (.abortMotion _ l _) (.after (.fault _ l _) (.setLane d l rfl))) fun _ => .setLane d l rfl

theorem Stands.untracked (d : Device) (l : LaneId) (n : Word16) (gatePos : Word32) :
    Stands g q d (d.untracked l n gatePos) :=
  .after (.modLane _ l (Lane.loadIdle_gate _)) (.passGateEntry d l _)

theorem Stands.tracked (d : Device) (l : LaneId) (n slot : Fin 4) (s : Word16) (edge start gatePos : Word32) :
    Stands g q d (d.tracked l n slot s edge start gatePos) :=
  .after (.scanStarts l _ _) (.after (.passGateEntry _ l _) (.modLane d l rfl))

theorem Stands.edgeRises (d : Device) (l : LaneId) : Stands g q d (d.edgeRises l) := by
  refine .ite (fun _ => .refl d) fun _ => .ite (fun _ => ?_) fun _ => .raiseLane d l _
  have hedge : Stands g q d (d.setLane l (d.lane l).edge) := .setLane d l (Lane.edge_gate _)
  rw [Device.acceptedEdge_eq]
  dsimp only
  split
  · exact .after (.untracked _ l _ _) (.after (.raiseLane _ l _) hedge)
  · exact .after (.tracked _ l _ _ _ _ _ _) hedge
  · exact .after (.untracked _ l _ _) (.after (.fault _ l _) hedge)

/-! ## Timers (log 7) -/

theorem Stands.warmupExpires (d : Device) (l : LaneId) : Stands g q d (d.warmupExpires l) :=
  .ite (fun _ => .modLane d l (Lane.warmupExpires_gate _)) fun _ => .refl d

theorem Stands.idleExpires (d : Device) (l : LaneId) : Stands g q d (d.idleExpires l) :=
  .ite (fun _ => .modLane d l rfl) fun _ => .refl d

theorem Stands.stallExpires (d : Device) : Stands g q d d.stallExpires :=
  .ite (fun _ => .after (.modTrunk _ rfl rfl rfl) (.after (.fault _ .b _) (.after (.fault _ .a _) (.raiseDevice d _))))
    fun _ => .refl d

theorem Stands.tickStrobe (d : Device) (l : LaneId) : Stands g q d (d.tickStrobe l) := by
  unfold Device.tickStrobe
  dsimp only
  split
  · exact .refl d
  · exact .ite (fun _ => .flashEnds d l) fun _ => .modLane d l rfl
  · exact .ite (fun _ => .settleExpires d l) fun _ => .modLane d l rfl

theorem Stands.tickIdle (d : Device) (l : LaneId) : Stands g q d (d.tickIdle l) := by
  unfold Device.tickIdle
  split
  · exact .refl d
  · exact .ite (fun _ => .idleExpires d l) fun _ => .modLane d l rfl

theorem Stands.tickWarmup (d : Device) (l : LaneId) : Stands g q d (d.tickWarmup l) := by
  unfold Device.tickWarmup
  split
  · exact .refl d
  · exact .ite (fun _ => .warmupExpires d l) fun _ => .modLane d l rfl

theorem Stands.tickStall (d : Device) : Stands g q d d.tickStall := by
  unfold Device.tickStall
  split
  · exact .refl d
  · exact .ite (fun _ => .stallExpires d) fun _ => .modTrunk d rfl rfl rfl

theorem Stands.tickLane (d : Device) (l : LaneId) : Stands g q d (d.tickLane l) :=
  .after (.tickWarmup _ l) (.after (.tickIdle _ l) (.tickStrobe d l))

theorem Stands.tick (d : Device) : Stands g q d d.tick :=
  .after (.tickLane _ .b) (.after (.tickLane _ .a) (.tickStall d))

end
end Sys2Proof.Machine

/-! # Commands as orders, events and pins; the trunk link's order side under every step (chapters 8, 9 and 11) -/

namespace Sys2Proof.Machine

/-! ## What a command is -/

/-- A command is an order that arrives, an event that the reset pin holds off, or a pin that acts whatever it is. -/
inductive Act
  | order (tag : Byte) (o : Order)
  | event (f : Device → Device)
  | pin (f : Device → Device)

def Act.run : Act → State → Host.Outcome State Fault Refusal
  | .order tag o => Machine.event fun d => d.arrive tag o (takeOrder tag o)
  | .event f => Machine.event f
  | .pin f => pinEvent f

/-- The order a command is, with its tag. -/
def orderOf : Instr → Option (Byte × Order)
  | .openSlot tag slot => some (tag, .openSlot slot)
  | .writeHeader tag slot h => some (tag, .writeHeader slot h)
  | .writeFiducials tag slot start count es => some (tag, .writeFiducials slot start count es)
  | .writeJoints tag slot start count es => some (tag, .writeJoints slot start count es)
  | .writeRules tag slot start count es => some (tag, .writeRules slot start count es)
  | .sealSlot tag slot => some (tag, .sealSlot slot)
  | .unsealSlot tag slot => some (tag, .unsealSlot slot)
  | .eraseSlot tag slot => some (tag, .eraseSlot slot)
  | .readSlot tag slot => some (tag, .readSlot slot)
  | .readFiducials tag slot start count => some (tag, .readFiducials slot start count)
  | .readJoints tag slot start count => some (tag, .readJoints slot start count)
  | .readRules tag slot start count => some (tag, .readRules slot start count)
  | .bindRecipe tag lane slot => some (tag, .bindRecipe lane slot)
  | .configureLane tag lane x => some (tag, .configureLane lane x)
  | .configurePort tag port noise check => some (tag, .configurePort port noise check)
  | .loadPattern tag port offset count px => some (tag, .loadPattern port offset count px)
  | .readPattern tag port offset count => some (tag, .readPattern port offset count)
  | .setInjection tag port mode n => some (tag, .setInjection port mode n)
  | .readPort tag port => some (tag, .readPort port)
  | .readWindows tag lane start count => some (tag, .readWindows lane start count)
  | .setReportMode tag lane mode detail => some (tag, .setReportMode lane mode detail)
  | .readJudgement tag => some (tag, .readJudgement)
  | .enableLane tag lane => some (tag, .enableLane lane)
  | .armLane tag lane => some (tag, .armLane lane)
  | .disableLane tag lane => some (tag, .disableLane lane)
  | .readLane tag lane => some (tag, .readLane lane)
  | .readPanel tag lane context => some (tag, .readPanel lane context)
  | .setGateMode tag lane mode => some (tag, .setGateMode lane mode)
  | .setFaultResponse tag lane kind override hold => some (tag, .setFaultResponse lane kind override hold)
  | .releaseForce tag lane => some (tag, .releaseForce lane)
  | .readGate tag lane => some (tag, .readGate lane)
  | .identify tag => some (tag, .identify)
  | .resetDevice tag => some (tag, .resetDevice)
  | .configureDevice tag limit => some (tag, .configureDevice limit)
  | .readTrunk tag => some (tag, .readTrunk)
  | .readConditions tag set => some (tag, .readConditions set)
  | .clearConditions tag set list => some (tag, .clearConditions set list)
  | .setMask tag set list => some (tag, .setMask set list)
  | _ => none

/-- What a command that is no order does with the part. -/
def effectOf : Instr → Device → Device
  | .powerOn => Device.powersOn
  | .resetPinAssert => Device.resetFalls
  | .resetPinRelease => Device.resetRises
  | .camSdInactive p => (·.camSdFalls p)
  | .camSdActive p => (·.camSdRises p)
  | .trkSdInactive => Device.trkSdFalls
  | .trkSdActive => Device.trkSdRises
  | .validationComplete => Device.validationEnds
  | .encoderForwardCount l => (·.forwardCount l)
  | .encoderReverseCount l => (·.reverseCount l)
  | .edgeRise l => (·.edgeRises l)
  | .flashEnd l => (·.flashEnds l)
  | .settleExpiry l => (·.settleExpires l)
  | .warmupExpiry l => (·.warmupExpires l)
  | .idleTimerExpiry l => (·.idleExpires l)
  | .fillWord p => (·.camWord p .fill)
  | .startWord p t ph => (·.camWord p (.start t ph))
  | .dataWord p px => (·.camWord p (.data px))
  | .endWord p check => (·.camWord p (.lineEnd check))
  | .violationWord p w => (·.camWord p (decodeCamWord w))
  | .itemTake l => (·.takeItem l)
  | .evaluationTake => Device.takeEvaluation
  | .evaluationComplete => Device.completeEvaluation
  | .trainingWord w => (·.trunkWord w)
  | .frameError x => fun d => d.frameComes (runAfter x) fun d => d.discardFrame (rxAfter x)
  | .creditFrame grant => fun d => d.frameComes 0 fun d => d.breakOpen.grantCredit grant
  | .orderFrame tag code params => fun d => d.frameComes 0 (Device.orderFrame tag code params)
  | .unknownOrder tag code => fun d => d.orderArrives tag code []
  | .frameBegin => Device.beginFrame
  | .frameComplete => Device.endTransmission
  | .stallTimerExpiry => Device.stallExpires
  | _ => id

def actOf (c : Instr) : Act :=
  match orderOf c with
  | some (tag, o) => .order tag o
  | none => if actsInReset c then .pin (effectOf c) else .event (effectOf c)

/-- Every command is what `actOf` says. -/
theorem exec_eq_run (c : Instr) (s : State) : exec c s = (actOf c).run s := by
  cases c <;> rfl

theorem exec_of_order {c : Instr} {tag : Byte} {o : Order} (h : orderOf c = some (tag, o)) (s : State) :
    exec c s = event (fun d => d.arrive tag o (takeOrder tag o)) s := by
  rw [exec_eq_run, actOf, h]
  rfl

theorem exec_of_event {c : Instr} (h : orderOf c = none) (hc : actsInReset c = false) (s : State) :
    exec c s = event (effectOf c) s := by
  rw [exec_eq_run, actOf, h]
  simp only [hc, Act.run]
  rfl

theorem exec_of_pin {c : Instr} (h : actsInReset c = true) (s : State) : exec c s = pinEvent (effectOf c) s := by
  cases c <;> simp [actsInReset] at h <;> rfl

/-- An order taken in its own event. -/
theorem exec_taken {c : Instr} {tag : Byte} {o : Order} (h : orderOf c = some (tag, o)) {s : State} (hs : Taken s) :
    exec c s = becomes s (takeOrder tag o s.dev) := by
  rw [exec_of_order h, event_arrive_taken s hs]

/-! ## Orders: one more place of the reply queue (R167, R168) -/

/-- What an order other than Reset Device leaves when it is taken: it uses up one place of the reply queue. -/
structure TakesPlace (gates quiet : Prop) (d e : Device) : Prop where
  resetLow : e.resetLow = d.resetLow
  inbound : e.trunk.inbound = d.trunk.inbound
  credit : e.trunk.credit = d.trunk.credit
  places : e.replyPlaces = d.replyPlaces + 1
  forces : Forces gates quiet d e

section
variable {g q : Prop}

theorem Device.reply_places (d : Device) (tag code : Byte) (oc : ReplyCode) (body : List Byte) :
    (d.reply tag code oc body).replyPlaces = d.replyPlaces + 1 := by
  simp only [Device.replyPlaces, Device.reply_replies, Device.reply_validation, List.length_append, List.length_singleton]
  omega

theorem Stands.places {d e : Device} (h : Stands g q d e) : e.replyPlaces = d.replyPlaces := by
  simp only [Device.replyPlaces, h.replies, h.validation]

theorem TakesPlace.after_stands {d e : Device} (h : Stands g q d e) (tag code : Byte) (oc : ReplyCode) (body : List Byte) :
    TakesPlace g q d (e.reply tag code oc body) :=
  ⟨h.resetLow, h.inbound, h.credit, by rw [Device.reply_places, h.places], h.forces.trans (.of_gates fun _ => rfl)⟩

theorem TakesPlace.reply (d : Device) (tag code : Byte) (oc : ReplyCode) (body : List Byte) :
    TakesPlace g q d (d.reply tag code oc body) := .after_stands (.refl d) tag code oc body

theorem TakesPlace.ite {d e f : Device} {P : Prop} [Decidable P] (h : P → TakesPlace g q d e)
    (k : ¬ P → TakesPlace g q d f) : TakesPlace g q d (if P then e else f) := by
  split
  · exact h ‹_›
  · exact k ‹_›

theorem Stands.setSlot (d : Device) (i : Fin 4) (x : Slot) : Stands g q d (d.setSlot i x) :=
  .of_lists rfl rfl rfl rfl

theorem TakesPlace.changeSlot (d : Device) (tag code slot : Byte) (inRange : Bool) (allowed : SlotState → Bool)
    (effect : Slot → Slot) : TakesPlace g q d (d.changeSlot tag code slot inRange allowed effect) := by
  unfold Device.changeSlot
  split
  · split
    · exact .reply d _ _ _ _
    · exact .after_stands (.setSlot d _ _) _ _ _ _
  · exact .reply d _ _ _ _

theorem TakesPlace.takeSealSlot (tag slot : Byte) (d : Device) : TakesPlace g q d (takeSealSlot tag slot d) := by
  unfold Machine.takeSealSlot
  split
  · exact .reply d _ _ _ _
  · split
    · exact .reply d _ _ _ _
    · refine .ite (fun _ => .reply d _ _ _ _) fun hidle => ?_
      have hnone : d.validation = none := by simpa using hidle
      exact ⟨rfl, rfl, rfl, by simp [Device.replyPlaces, hnone, Device.setSlot], .of_gates fun _ => rfl⟩

theorem TakesPlace.takeEraseSlot (tag slot : Byte) (d : Device) : TakesPlace g q d (takeEraseSlot tag slot d) := by
  unfold Machine.takeEraseSlot
  split
  · exact .reply d _ _ _ _
  · split
    · exact .reply d _ _ _ _
    · unfold Device.abortValidation
      split
      · exact .after_stands (.setSlot d _ _) _ _ _ _
      · next v hv =>
        split
        · refine ⟨rfl, rfl, rfl, ?_, .of_gates fun _ => rfl⟩
          rw [Device.reply_places]
          simp [Device.replyPlaces, Device.setSlot, hv, Device.reply, Device.modTrunk]
        · exact .after_stands (.setSlot d _ _) _ _ _ _

theorem TakesPlace.readEntries (d : Device) (tag code slot : Byte) (inRange : Bool) (record : Slot → List Byte) :
    TakesPlace g q d (d.readEntries tag code slot inRange record) := by
  unfold Device.readEntries
  split
  · exact .ite (fun _ => .reply d _ _ _ _) fun _ => .reply d _ _ _ _
  · exact .reply d _ _ _ _

@[simp] theorem Lane.bind_gate (L : Lane) (i : Fin 4) : (L.bind i).gate = L.gate := by
  rcases L.bind_eq i with h | h <;> rw [h]

theorem TakesPlace.takeBindRecipe (tag lane slot : Byte) (d : Device) :
    TakesPlace g q d (takeBindRecipe tag lane slot d) := by
  unfold Machine.takeBindRecipe
  split
  · exact .reply d _ _ _ _
  · refine .ite (fun _ => .after_stands (.modLane d _ (by rfl)) _ _ _ _) fun _ => ?_
    split
    · exact .reply d _ _ _ _
    · split
      · exact .reply d _ _ _ _
      · exact .reply d _ _ _ _
      · exact .reply d _ _ _ _
      · exact .after_stands (.modLane d _ (Lane.bind_gate _ _)) _ _ _ _

theorem TakesPlace.onLane (d : Device) (tag code lane : Byte) {f : LaneId → Device} (h : ∀ l, TakesPlace g q d (f l)) :
    TakesPlace g q d (d.onLane tag code lane f) := by
  unfold Device.onLane
  split
  · exact .reply d _ _ _ _
  · exact h _

/-- A change of a gate unit that leaves divert code, forced override and hold. -/
theorem Stands.setGate (d : Device) (l : LaneId) {f : Lane → Gate} (forced : ∀ L, (f L).forced = L.gate.forced)
    (hold : ∀ L, (f L).hold = L.gate.hold) (divert : ∀ L, (f L).divert = L.gate.divert) :
    Stands g q d (d.modLane l fun L => { L with gate := f L }) :=
  .setLane_gate d l (fun _ => by rw [forced]) (fun _ => by rw [hold]; exact id) fun _ => divert _

/-- An order that neither releases a force nor disables a lane. -/
def KeepsForce : Order → Prop
  | .releaseForce _ | .disableLane _ => False
  | _ => True

theorem Stands.disableLane (d : Device) (l : LaneId) : Stands False False d (d.disableLane l) := by
  have hclear : ∀ e : Device, Stands False False e (e.clearLaneConds l) := fun e => by
    unfold Device.clearLaneConds
    exact .updateConds e _
  have hrefill : ∀ e : Device, Stands False False e e.refillClose := fun e => .refillFrom _ e
  refine .after (hclear _) (.after (hrefill _) ?_)
  refine ⟨rfl, rfl, rfl, rfl, rfl, ⟨nofun, nofun, nofun⟩⟩

theorem TakesPlace.takeOrder (tag : Byte) (o : Order) (ho : o ≠ .resetDevice) (d : Device) :
    TakesPlace (KeepsForce o) (KeepsForce o) d (takeOrder tag o d) := by
  unfold Machine.takeOrder
  cases o with
  | openSlot => exact .changeSlot d tag _ _ _ _ _
  | writeHeader => exact .changeSlot d tag _ _ _ _ _
  | writeFiducials => exact .changeSlot d tag _ _ _ _ _
  | writeJoints => exact .changeSlot d tag _ _ _ _ _
  | writeRules => exact .changeSlot d tag _ _ _ _ _
  | unsealSlot => exact .changeSlot d tag _ _ _ _ _
  | sealSlot slot => exact .takeSealSlot tag slot d
  | eraseSlot slot => exact .takeEraseSlot tag slot d
  | readSlot slot =>
    show TakesPlace _ _ d (takeReadSlot tag slot d)
    unfold takeReadSlot
    split <;> exact .reply d _ _ _ _
  | readFiducials => exact .readEntries d tag _ _ _ _
  | readJoints => exact .readEntries d tag _ _ _ _
  | readRules => exact .readEntries d tag _ _ _ _
  | bindRecipe lane slot => exact .takeBindRecipe tag lane slot d
  | configureLane lane x =>
    show TakesPlace _ _ d (takeConfigureLane tag lane x d)
    unfold takeConfigureLane
    split
    · exact .ite (fun _ => .after_stands (.modLane d _ rfl) _ _ _ _) fun _ => .reply d _ _ _ _
    · exact .reply d _ _ _ _
  | configurePort port noise check =>
    show TakesPlace _ _ d (takeConfigurePort tag port noise check d)
    unfold takeConfigurePort
    split
    · exact .reply d _ _ _ _
    · exact .ite (fun _ => .reply d _ _ _ _) fun _ => .after_stands (.modLane d _ rfl) _ _ _ _
  | loadPattern port offset count px =>
    show TakesPlace _ _ d (takeLoadPattern tag port offset count px d)
    unfold takeLoadPattern
    split
    · exact .reply d _ _ _ _
    · exact .ite (fun _ => .ite (fun _ => .after_stands (.modLane d _ rfl) _ _ _ _) fun _ => .reply d _ _ _ _)
        fun _ => .reply d _ _ _ _
  | readPattern port offset count =>
    show TakesPlace _ _ d (takeReadPattern tag port offset count d)
    unfold takeReadPattern
    split
    · exact .reply d _ _ _ _
    · exact .ite (fun _ => .reply d _ _ _ _) fun _ => .reply d _ _ _ _
  | setInjection port mode n =>
    show TakesPlace _ _ d (takeSetInjection tag port mode n d)
    unfold takeSetInjection
    split
    · exact .ite (fun _ => .after_stands (.modLane d _ rfl) _ _ _ _) fun _ => .reply d _ _ _ _
    · exact .reply d _ _ _ _
  | readPort port =>
    show TakesPlace _ _ d (takeReadPort tag port d)
    unfold takeReadPort
    split <;> exact .reply d _ _ _ _
  | readWindows lane start count =>
    show TakesPlace _ _ d (takeReadWindows tag lane start count d)
    unfold takeReadWindows
    split
    · exact .reply d _ _ _ _
    · exact .ite (fun _ => .reply d _ _ _ _) fun _ => .reply d _ _ _ _
  | setReportMode lane mode detail =>
    show TakesPlace _ _ d (takeSetReportMode tag lane mode detail d)
    unfold takeSetReportMode
    split
    · exact .after_stands (.modLane d _ rfl) _ _ _ _
    · exact .reply d _ _ _ _
  | enableLane lane =>
    exact .onLane d _ _ _ fun l => .ite (fun _ => .after_stands (.modLane d l rfl) _ _ _ _) fun _ => .reply d _ _ _ _
  | armLane lane =>
    exact .onLane d _ _ _ fun l => .ite (fun _ => .reply d _ _ _ _) fun _ =>
      .after_stands (.modLane d l (Lane.arm_gate _)) _ _ _ _
  | disableLane lane => exact .onLane d _ _ _ fun l => .after_stands (.disableLane d l) _ _ _ _
  | readLane lane | readGate lane => exact .onLane d _ _ _ fun _ => .reply d _ _ _ _
  | readPanel lane context =>
    refine .onLane d _ _ _ fun l => ?_
    split <;> exact .reply d _ _ _ _
  | setGateMode lane mode =>
    show TakesPlace _ _ d (takeSetGateMode tag lane mode d)
    unfold takeSetGateMode
    split
    · exact .ite (fun _ => .after_stands (.raiseDevice d _) _ _ _ _) fun _ =>
        .after_stands (.setGate d _ (by simp) (by simp) (by simp)) _ _ _ _
    · exact .reply d _ _ _ _
  | setFaultResponse lane kind override hold =>
    show TakesPlace _ _ d (takeSetFaultResponse tag lane kind override hold d)
    unfold takeSetFaultResponse
    split
    · exact .after_stands (.setGate d _ (by simp) (by simp) (by simp)) _ _ _ _
    · exact .reply d _ _ _ _
  | releaseForce lane => exact .onLane d _ _ _ fun l => .after_stands (.setLane_gate d l False.elim False.elim False.elim) _ _ _ _
  | resetDevice => exact absurd rfl ho
  | configureDevice limit =>
    exact .ite (fun _ => .reply d _ _ _ _) fun _ => .after_stands (.modTrunk d rfl rfl rfl) _ _ _ _
  | readConditions set =>
    show TakesPlace _ _ d (takeReadConditions tag set d)
    unfold takeReadConditions
    split
    · exact .reply d _ _ _ _
    · exact .after_stands (.updateConds d _) _ _ _ _
  | clearConditions set list =>
    show TakesPlace _ _ d (takeClearConditions tag set list d)
    unfold takeClearConditions
    split
    · exact .reply d _ _ _ _
    · exact .ite (fun _ => .reply d _ _ _ _) fun _ => .after_stands (.updateConds d _) _ _ _ _
  | setMask set list =>
    show TakesPlace _ _ d (takeSetMask tag set list d)
    unfold takeSetMask
    split
    · exact .reply d _ _ _ _
    · exact .ite (fun _ => .reply d _ _ _ _) fun _ => .after_stands (.updateConds d _) _ _ _ _
  | readJudgement | identify | readTrunk | malformed | unknown => exact .reply d _ _ _ _

end
end Sys2Proof.Machine

/-! # The trunk link stays within its sizes; a force stands (chapters 8 and 9) -/

namespace Sys2Proof.Machine

/-! ## The trunk link's sizes (R165 to R167) -/

/-- A change that leaves the reset pin and keeps the trunk link within its sizes. -/
structure KeepsTrunk (d e : Device) : Prop where
  resetLow : e.resetLow = d.resetLow
  within : TrunkWithin d → TrunkWithin e

theorem KeepsTrunk.refl (d : Device) : KeepsTrunk d d := ⟨rfl, id⟩

theorem KeepsTrunk.after {d e f : Device} (k : KeepsTrunk e f) (h : KeepsTrunk d e) : KeepsTrunk d f :=
  ⟨k.resetLow.trans h.resetLow, k.within ∘ h.within⟩

theorem KeepsTrunk.ite {d e f : Device} {P : Prop} [Decidable P] (h : P → KeepsTrunk d e) (k : ¬ P → KeepsTrunk d f) :
    KeepsTrunk d (if P then e else f) := by
  split
  · exact h ‹_›
  · exact k ‹_›

/-- The places of the reply queue and the inbound queue stand, and the credit count stays in its range. -/
theorem KeepsTrunk.of_same {d e : Device} (resetLow : e.resetLow = d.resetLow) (places : e.replyPlaces = d.replyPlaces)
    (inbound : e.trunk.inbound = d.trunk.inbound) (credit : d.trunk.credit ≤ 255 → e.trunk.credit ≤ 255) :
    KeepsTrunk d e :=
  ⟨resetLow, fun ⟨hp, hi, hc, hw⟩ => by
    refine ⟨?_, ?_, credit hc, ?_⟩
    · rw [places]; exact hp
    · rw [inbound]; exact hi
    · rw [places, inbound]; exact hw⟩

theorem KeepsTrunk.of_stands {d e : Device} (h : Stands False False d e) : KeepsTrunk d e :=
  .of_same h.resetLow h.places h.inbound (by rw [h.credit]; exact id)

theorem KeepsTrunk.modTrunk (d : Device) {f : Trunk → Trunk} (replies : (f d.trunk).replies = d.trunk.replies)
    (inbound : (f d.trunk).inbound = d.trunk.inbound) (credit : d.trunk.credit ≤ 255 → (f d.trunk).credit ≤ 255) :
    KeepsTrunk d (d.modTrunk f) :=
  .of_same rfl (congrArg (fun rs : List Reply => rs.length + d.validation.toList.length) replies) inbound credit

theorem KeepsTrunk.settleStall (d : Device) : KeepsTrunk d d.settleStall := .of_stands (.settleStall d)

theorem KeepsTrunk.raiseDevice (d : Device) (c : DeviceCond) : KeepsTrunk d (d.raiseDevice c) :=
  .of_stands (.raiseDevice d c)

/-! ## Reset -/

theorem Stands.wakePort {g q : Prop} (d : Device) (p : PortId) : Stands g q d (d.wakePort p) :=
  .after (.raise _ _ _) (.ite (fun _ => .refl d) fun _ => .onStream d p _)

theorem Stands.raiseResetConds {g q : Prop} (d : Device) : Stands g q d d.raiseResetConds :=
  .after (.foldl Stands.wakePort _ _) (.raiseDevice d _)

theorem takeResetDevice_trunk (tag : Byte) (d : Device) :
    (takeResetDevice tag d).resetLow = d.resetLow ∧ (takeResetDevice tag d).replyPlaces = 1 ∧
      (takeResetDevice tag d).trunk.inbound = [] ∧ (takeResetDevice tag d).trunk.credit = d.trunk.credit := by
  have h : Stands False False _ (Device.raiseResetConds (d.allAtPowerOn.modTrunk (fun new =>
    { new with link := d.trunk.link, syncRun := d.trunk.syncRun, credit := d.trunk.credit, frame := d.trunk.frame,
               rx := d.trunk.rx }))) := .raiseResetConds _
  exact ⟨h.resetLow, (Device.reply_places _ _ _ _ _).trans (congrArg (· + 1) h.places), h.inbound, h.credit⟩

/-! ## Orders at the decoder (R166, R167) -/

/-- An order taken with a place free: one place is used, or all of them are given back by Reset Device. -/
theorem takeOrder_within (tag : Byte) (o : Order) (d : Device) (places : d.replyPlaces < 16)
    (inbound : d.trunk.inbound.length ≤ 16) (credit : d.trunk.credit ≤ 255)
    (waits : d.trunk.inbound ≠ [] → d.replyPlaces = 15) : TrunkWithin (takeOrder tag o d) := by
  by_cases ho : o = .resetDevice
  · subst ho
    obtain ⟨-, hp, hi, hc⟩ := takeResetDevice_trunk tag d
    exact ⟨hp.trans_le (by decide), by simp only [takeOrder, hi]; exact Nat.zero_le _, hc.trans_le credit,
      fun h => absurd hi h⟩
  · have h := TakesPlace.takeOrder tag o ho d
    rw [TrunkWithin, h.places, h.inbound, h.credit]
    exact ⟨places, inbound, credit, fun hi => by rw [waits hi]⟩

theorem takeOrder_resetLow (tag : Byte) (o : Order) (d : Device) : (takeOrder tag o d).resetLow = d.resetLow := by
  by_cases ho : o = .resetDevice
  · subst ho
    exact (takeResetDevice_trunk tag d).1
  · exact (TakesPlace.takeOrder tag o ho d).resetLow

theorem Device.joinInbound_of_room {d : Device} (tag : Byte) (o : Order) (h : d.trunk.inbound.length < 16) :
    d.joinInbound tag o = d.modTrunk fun t => { t with inbound := t.inbound ++ [{ tag := tag, order := o }] } := if_pos h

theorem Device.joinInbound_of_full {d : Device} (tag : Byte) (o : Order) (h : 16 ≤ d.trunk.inbound.length) :
    d.joinInbound tag o = d.raiseDevice .orderOverrun := if_neg (Nat.not_lt_of_le h)

theorem Device.arrive_of_taken {d : Device} (tag : Byte) (o : Order) (take : Device → Device) (hi : d.trunk.inbound = [])
    (hr : d.replyRoom = true) : d.arrive tag o take = take d := by
  rw [Device.arrive, hi, hr]
  rfl

theorem Device.arrive_of_waits {d : Device} (tag : Byte) (o : Order) (take : Device → Device)
    (h : d.trunk.inbound ≠ [] ∨ d.replyRoom = false) : d.arrive tag o take = d.joinInbound tag o := by
  refine if_neg fun hboth => ?_
  obtain ⟨hi, hr⟩ : d.trunk.inbound = [] ∧ d.replyRoom = true := by simpa using hboth
  rcases h with h | h
  · exact h hi
  · simp [hr] at h

theorem KeepsTrunk.arrive (d : Device) (tag : Byte) (o : Order) : KeepsTrunk d (d.arrive tag o (takeOrder tag o)) := by
  by_cases htaken : d.trunk.inbound = [] ∧ d.replyRoom = true
  · obtain ⟨hi, hr⟩ := htaken
    rw [Device.arrive_of_taken tag o _ hi hr]
    have hroom : d.replyPlaces < 16 := by simpa [Device.replyRoom] using hr
    exact ⟨takeOrder_resetLow tag o d, fun ⟨_, hlen, hc, _⟩ => takeOrder_within tag o d hroom hlen hc fun h => absurd hi h⟩
  · have hwaits : d.trunk.inbound ≠ [] ∨ d.replyRoom = false := by
      by_cases hi : d.trunk.inbound = []
      · exact .inr (by simpa [hi] using htaken)
      · exact .inl hi
    rw [Device.arrive_of_waits tag o _ hwaits]
    rcases Nat.lt_or_ge d.trunk.inbound.length 16 with hroom | hfull
    · rw [Device.joinInbound_of_room tag o hroom]
      refine ⟨rfl, fun ⟨hp, _, hc, hw⟩ => ⟨hp, ?_, hc, fun _ => ?_⟩⟩
      · show (d.trunk.inbound ++ [_]).length ≤ 16
        rw [List.length_append]
        exact hroom
      · show d.replyPlaces = 16
        rcases hwaits with hi | hr
        · exact hw hi
        · have : ¬ d.replyPlaces < 16 := by simpa [Device.replyRoom] using hr
          omega
    · rw [Device.joinInbound_of_full tag o hfull]
      exact .raiseDevice d _

/-- Once a reply has left, the decoder takes the oldest waiting order into the place freed (R167, R170). -/
theorem decodeNext_within (d : Device) (places : d.replyPlaces < 16) (inbound : d.trunk.inbound.length ≤ 16)
    (credit : d.trunk.credit ≤ 255) (waits : d.trunk.inbound ≠ [] → d.replyPlaces = 15) : TrunkWithin d.decodeNext := by
  unfold Device.decodeNext
  split
  · next hi => exact ⟨places.le, inbound, credit, fun h => absurd hi h⟩
  · next q rest hi =>
    rw [if_pos (by simpa [Device.replyRoom] using places)]
    rw [hi] at inbound waits
    exact takeOrder_within q.tag q.order _ places (Nat.le_of_succ_le inbound) credit fun _ => waits (by simp)

theorem Device.decodeNext_resetLow (d : Device) : d.decodeNext.resetLow = d.resetLow := by
  unfold Device.decodeNext
  split
  · rfl
  · split
    · exact takeOrder_resetLow _ _ _
    · rfl

theorem KeepsTrunk.sendReply {d : Device} {r : Reply} {rest : List Reply} (hq : d.trunk.replies = r :: rest) :
    KeepsTrunk d (d.sendReply r rest) := by
  unfold Device.sendReply
  generalize hsent : (d.modTrunk fun t => { t.send .reply (replyPayload r) with replies := rest }).settleStall = sent
  have hreset : sent.resetLow = d.resetLow := by rw [← hsent, Device.settleStall_resetLow]; rfl
  have hinbound : sent.trunk.inbound = d.trunk.inbound := by rw [← hsent, Device.settleStall_trunk_inbound]; rfl
  have hcredit : sent.trunk.credit = d.trunk.credit - 1 := by rw [← hsent, Device.settleStall_trunk_credit]; rfl
  have hplaces : sent.replyPlaces + 1 = d.replyPlaces := by
    have hreplies : sent.trunk.replies = rest := by rw [← hsent, Device.settleStall_trunk_replies]; rfl
    have hvalidation : sent.validation = d.validation := by rw [← hsent, Device.settleStall_validation]; rfl
    simp only [Device.replyPlaces, hreplies, hvalidation, hq, List.length_cons]
    omega
  refine ⟨(Device.decodeNext_resetLow _).trans hreset, fun ⟨hp, hi, hc, hw⟩ => decodeNext_within _ ?_ ?_ ?_ fun h => ?_⟩
  · omega
  · rw [hinbound]; exact hi
  · omega
  · have := hw (hinbound ▸ h)
    omega

/-! ## The link, frames and the end of a validation -/

theorem KeepsTrunk.validationEnds (d : Device) : KeepsTrunk d d.validationEnds := by
  unfold Device.validationEnds
  split
  · exact .refl d
  · next v hv =>
    dsimp only
    split <;>
      exact .of_same rfl (by rw [Device.reply_places]; simp [Device.replyPlaces, Device.setSlot, hv]) rfl id

theorem KeepsTrunk.discardFrame (d : Device) (rx : Option (List Byte)) : KeepsTrunk d (d.discardFrame rx) :=
  .after (.raiseDevice _ _) (.modTrunk d rfl rfl id)

theorem KeepsTrunk.grantCredit (d : Device) (grant : Byte) : KeepsTrunk d (d.grantCredit grant) :=
  .modTrunk d rfl rfl fun _ => Nat.min_le_left _ _

theorem KeepsTrunk.acceptFrame (d : Device) (kind : Byte) (payload : List Byte) :
    KeepsTrunk d (d.acceptFrame kind payload) := by
  refine .ite (fun _ => .grantCredit d _) fun _ => ?_
  split
  · exact .arrive d _ _
  · exact .refl d

theorem KeepsTrunk.endFrame (d : Device) (kind : Byte) (body check : List Byte) :
    KeepsTrunk d (d.endFrame kind body check) :=
  .ite (fun _ => .after (.acceptFrame _ _ _) (.modTrunk d rfl rfl id)) fun _ => .discardFrame d _

theorem KeepsTrunk.rxByte (d : Device) (b : Byte) : KeepsTrunk d (d.rxByte b) := by
  unfold Device.rxByte
  split
  · exact .refl d
  · dsimp only
    split
    · exact .ite (fun _ => .modTrunk d rfl rfl id) fun _ => .discardFrame d _
    · exact .modTrunk d rfl rfl id
    · exact .ite (fun _ => .discardFrame d _) fun _ =>
        .ite (fun _ => .endFrame d _ _ _) fun _ => .modTrunk d rfl rfl id
    · exact .refl d

theorem KeepsTrunk.rxWord (d : Device) (w : LinkWord) : KeepsTrunk d (d.rxWord w) := by
  cases w with
  | sync => exact .ite (fun _ => .discardFrame d _) fun _ => .refl d
  | delimiter => exact .ite (fun _ => .discardFrame d _) fun _ => .modTrunk d rfl rfl id
  | data b => exact .rxByte d b

theorem KeepsTrunk.trainWord (d : Device) (w : LinkWord) : KeepsTrunk d (d.modTrunk fun t => t.trainWord w) := by
  have h : ∀ t : Trunk, (t.trainWord w).replies = t.replies ∧ (t.trainWord w).inbound = t.inbound ∧
      (t.trainWord w).credit = t.credit := fun t => by
    unfold Trunk.trainWord
    split
    · split <;> exact ⟨rfl, rfl, rfl⟩
    · exact ⟨rfl, rfl, rfl⟩
  exact .modTrunk d (h _).1 (h _).2.1 (by rw [(h _).2.2]; exact id)

theorem KeepsTrunk.trunkWord (d : Device) (w : LinkWord) : KeepsTrunk d (d.trunkWord w) := by
  unfold Device.trunkWord
  split
  · exact .refl d
  · exact .trainWord d w
  · exact .rxWord d w

theorem KeepsTrunk.breakOpen (d : Device) : KeepsTrunk d d.breakOpen :=
  .ite (fun _ => .after (.settleStall _) (.discardFrame d _)) fun _ => .refl d

theorem KeepsTrunk.frameComes (d : Device) (run : Nat) {f : Device → Device} (h : KeepsTrunk d (f d)) :
    KeepsTrunk d (d.frameComes run f) := by
  unfold Device.frameComes
  split
  · exact h
  · exact .modTrunk d rfl rfl id
  · exact .refl d

theorem KeepsTrunk.orderFrame (tag code : Byte) (params : List Byte) (d : Device) :
    KeepsTrunk d (Device.orderFrame tag code params d) :=
  .ite (fun _ => .after (.arrive _ _ _) (.breakOpen d)) fun _ => .after (.discardFrame _ _) (.breakOpen d)

theorem KeepsTrunk.trkSdFalls (d : Device) : KeepsTrunk d d.trkSdFalls := by
  have hlevel : KeepsTrunk d { d with trkSd := false } := .of_same rfl rfl rfl id
  have hleave : ∀ t : Trunk, t.leaveUp.replies = t.replies ∧ t.leaveUp.inbound = t.inbound ∧
      (t.credit ≤ 255 → t.leaveUp.credit ≤ 255) := fun t => by
    unfold Trunk.leaveUp
    split
    · exact ⟨rfl, rfl, fun _ => Nat.zero_le _⟩
    · exact ⟨rfl, rfl, id⟩
  exact .ite (fun _ => hlevel) fun _ => .after (.modTrunk _ (hleave _).1 (hleave _).2.1 (hleave _).2.2) hlevel

theorem KeepsTrunk.trkSdRises (d : Device) : KeepsTrunk d d.trkSdRises := by
  have hlevel : KeepsTrunk d { d with trkSd := true } := .of_same rfl rfl rfl id
  exact .ite (fun _ => hlevel) fun _ => .ite (fun _ => .after (.modTrunk _ rfl rfl id) hlevel) fun _ => hlevel

theorem KeepsTrunk.beginFrame (d : Device) : KeepsTrunk d d.beginFrame := by
  have hsend : ∀ {f : Trunk → Trunk}, (f d.trunk).replies = d.trunk.replies → (f d.trunk).inbound = d.trunk.inbound →
      (f d.trunk).credit = d.trunk.credit - 1 → KeepsTrunk d (d.modTrunk f) := fun hr hi hc =>
    .modTrunk d hr hi (by rw [hc]; exact (Nat.sub_le _ _).trans)
  refine .ite (fun _ => ?_) fun _ => .refl d
  unfold Device.sendNext
  split
  · exact .sendReply ‹_›
  · exact .of_same rfl rfl rfl (Nat.sub_le _ _).trans
  · exact .after (.of_stands (.retireFrom _ _)) (hsend rfl rfl rfl)
  · exact hsend rfl rfl rfl
  · exact .after (.of_stands (.freeCrop _ _)) (hsend rfl rfl rfl)
  · exact .refl d

/-! ## Every step -/

/-- An event that holds off while the reset pin is low. -/
theorem KeepsTrunk.effectOf {c : Instr} (hc : actsInReset c = false) (d : Device) : KeepsTrunk d (effectOf c d) := by
  cases c with
  | validationComplete => exact .validationEnds d
  | encoderForwardCount l => exact .of_stands (.forwardCount d l)
  | encoderReverseCount l => exact .of_stands (.reverseCount d l)
  | edgeRise l => exact .of_stands (.edgeRises d l)
  | flashEnd l => exact .of_stands (.flashEnds d l)
  | settleExpiry l => exact .of_stands (.settleExpires d l)
  | warmupExpiry l => exact .of_stands (.warmupExpires d l)
  | idleTimerExpiry l => exact .of_stands (.idleExpires d l)
  | fillWord p | startWord p | dataWord p | endWord p | violationWord p => exact .of_stands (.camWord d p _)
  | itemTake l => exact .of_stands (.takeItem d l)
  | evaluationTake => exact .of_stands (.takeEvaluation d)
  | evaluationComplete => exact .of_stands (.completeEvaluation d)
  | trainingWord w => exact .trunkWord d w
  | frameError x => exact KeepsTrunk.frameComes d _ (f := fun d => d.discardFrame (rxAfter x)) (.discardFrame d _)
  | creditFrame grant =>
    exact KeepsTrunk.frameComes d _ (f := fun d => d.breakOpen.grantCredit grant) (.after (.grantCredit _ _) (.breakOpen d))
  | orderFrame tag code params => exact KeepsTrunk.frameComes d _ (.orderFrame tag code params d)
  | unknownOrder tag code => exact .arrive d tag _
  | frameBegin => exact .beginFrame d
  | frameComplete => exact KeepsTrunk.modTrunk d (f := fun t => { t with frame := none }) rfl rfl id
  | stallTimerExpiry => exact .of_stands (.stallExpires d)
  | powerOn | resetPinAssert | resetPinRelease | camSdInactive | camSdActive | trkSdInactive | trkSdActive => cases hc
  | _ => exact .refl d

/-- The trunk link with nothing queued and no credit, before and after the reset conditions are raised. -/
theorem TrunkWithin.of_empty {d e : Device} (h : Stands False False d e) (replies : d.trunk.replies = [])
    (validation : d.validation = none) (inbound : d.trunk.inbound = []) (credit : d.trunk.credit = 0) : TrunkWithin e := by
  have hplaces : e.replyPlaces = 0 := by
    rw [h.places]
    simp [Device.replyPlaces, replies, validation]
  have hinbound : e.trunk.inbound = [] := h.inbound.trans inbound
  exact ⟨by omega, by simp [hinbound], by simp [h.credit, credit], fun hne => absurd hinbound hne⟩

theorem Stands.powersOn {g q : Prop} (d : Device) : Stands g q d.allAtPowerOn d.powersOn :=
  .ite (fun _ => .refl _) fun _ => .raiseResetConds _

theorem TrunkWithin.effectOf_pin {c : Instr} (hc : actsInReset c = true) {d : Device} (h : TrunkWithin d) :
    TrunkWithin (effectOf c d) := by
  cases c with
  | powerOn =>
    show TrunkWithin d.powersOn
    exact .of_empty (.powersOn d) rfl rfl rfl rfl
  | resetPinAssert =>
    show TrunkWithin d.resetFalls
    exact .of_empty (.refl _) rfl rfl rfl rfl
  | resetPinRelease =>
    show TrunkWithin d.resetRises
    exact .of_empty (.raiseResetConds _) rfl rfl rfl rfl
  | camSdInactive p => exact (KeepsTrunk.of_stands (.camSdFalls d p)).within h
  | camSdActive p => exact (KeepsTrunk.of_stands (.camSdRises d p)).within h
  | trkSdInactive => exact (KeepsTrunk.trkSdFalls d).within h
  | trkSdActive => exact (KeepsTrunk.trkSdRises d).within h
  | _ => cases hc

/-- In reset the pins other than the reset pin and power change no more than a level; those two put the link Down, and a
release ends the reset (R161, log 3). -/
theorem HeldInReset.effectOf_pin {c : Instr} (hc : actsInReset c = true) {d : Device} (h : HeldInReset d) :
    HeldInReset (effectOf c d) := by
  intro hlow
  cases c with
  | powerOn =>
    have hd : d.resetLow = true := (Stands.powersOn (g := False) (q := False) d).resetLow.symm.trans hlow
    have hheld : Device.powersOn d = d.allAtPowerOn := if_pos hd
    rw [show effectOf .powerOn d = d.allAtPowerOn from hheld]
    exact ⟨rfl, rfl, rfl⟩
  | resetPinAssert => exact ⟨rfl, rfl, rfl⟩
  | resetPinRelease =>
    have hkept : d.resetRises.resetLow = false := (Stands.raiseResetConds (g := False) (q := False) _).resetLow
    exact absurd (hkept.symm.trans hlow) (by decide)
  | camSdInactive p =>
    have hd : d.resetLow = true := (Stands.camSdFalls (g := False) (q := False) d p).resetLow.symm.trans hlow
    rw [show effectOf (.camSdInactive p) d = d.setPort p { d.port p with camSd := false } from if_pos hd]
    exact h hd
  | camSdActive p =>
    have hd : d.resetLow = true := (Stands.camSdRises (g := False) (q := False) d p).resetLow.symm.trans hlow
    rw [show effectOf (.camSdActive p) d = d.setPort p { d.port p with camSd := true } from if_pos hd]
    exact h hd
  | trkSdInactive =>
    have hd : d.resetLow = true := (KeepsTrunk.trkSdFalls d).resetLow.symm.trans hlow
    rw [show effectOf .trkSdInactive d = { d with trkSd := false } from if_pos hd]
    exact h hd
  | trkSdActive =>
    have hd : d.resetLow = true := (KeepsTrunk.trkSdRises d).resetLow.symm.trans hlow
    rw [show effectOf .trkSdActive d = { d with trkSd := true } from if_pos hd]
    exact h hd
  | _ => cases hc

/-- An event keeps what each of its effects keeps; in reset it does not act, and its effect leaves the reset pin. -/
theorem KeepsTrunk.event {f : Device → Device} {s t : State} (h : ∀ d, KeepsTrunk d (f d)) (ht : event f s = .next t) :
    (TrunkWithin s.dev → TrunkWithin t.dev) ∧ (HeldInReset s.dev → HeldInReset t.dev) := by
  cases ht
  dsimp only
  split
  · exact ⟨id, id⟩
  · next hlow =>
    have hkept := KeepsTrunk.after (.settleStall _) (h s.dev)
    exact ⟨hkept.within, fun _ hr => absurd (hkept.resetLow.symm.trans hr) hlow⟩

theorem HeldInReset.settleStall {d : Device} (h : HeldInReset d) : HeldInReset d.settleStall := by
  simpa only [HeldInReset, Device.settleStall_resetLow, Device.settleStall_trunk_link, Device.settleStall_trunk_syncRun,
    Device.settleStall_trunk_credit] using h

theorem KeepsTrunk.exec {c : Instr} {s t : State} (ht : exec c s = .next t) :
    (TrunkWithin s.dev → TrunkWithin t.dev) ∧ (HeldInReset s.dev → HeldInReset t.dev) := by
  cases ho : orderOf c with
  | some o =>
    rw [exec_of_order ho] at ht
    exact KeepsTrunk.event (fun d => .arrive d _ _) ht
  | none =>
    cases hc : actsInReset c with
    | false =>
      rw [exec_of_event ho hc] at ht
      exact KeepsTrunk.event (fun d => .effectOf hc d) ht
    | true =>
      rw [exec_of_pin hc] at ht
      cases ht
      exact ⟨fun h => (KeepsTrunk.settleStall _).within (h.effectOf_pin hc), fun h => (h.effectOf_pin hc).settleStall⟩

theorem KeepsTrunk.step {s t : State} (ht : step s = .next t) :
    (TrunkWithin s.dev → TrunkWithin t.dev) ∧ (HeldInReset s.dev → HeldInReset t.dev) := by
  unfold Machine.step at ht
  split at ht
  · exact KeepsTrunk.event (fun d => .of_stands (.tick d)) ht
  · exact (KeepsTrunk.exec ht :)

/-- Settles O58, by `KeepsTrunk.step`. -/
theorem trunkStaysWithin : Obligations.TrunkStaysWithin :=
  ⟨fun _ _ h ht => (KeepsTrunk.step ht).1 h, fun _ _ h ht => (KeepsTrunk.step ht).2 h⟩

/-! ## A force stands (R148) -/

theorem Forces.event {g q : Prop} {f : Device → Device} {s t : State} (h : ∀ d, Forces g q d (f d))
    (ht : event f s = .next t) : Forces g q s.dev t.dev := by
  cases ht
  dsimp only
  split
  · exact .refl _
  · exact (h s.dev).trans (Stands.settleStall _).forces

theorem Forces.arrive {g q : Prop} (d : Device) (tag : Byte) {o : Order} {take : Device → Device}
    (h : Forces g q d (take d)) : Forces g q d (d.arrive tag o take) := by
  unfold Device.arrive Device.joinInbound
  split
  · exact h
  · split
    · exact .of_gates fun _ => rfl
    · exact (Stands.raiseDevice d _).forces

/-- What an event other than a forward count and the carriers of orders does. -/
theorem Forces.effectOf {c : Instr} (hc : carriesOrders c = false) (d : Device) :
    Forces True (∀ m, c ≠ .encoderForwardCount m) d (effectOf c d) := by
  cases c with
  | validationComplete =>
    show Forces _ _ d d.validationEnds
    unfold Device.validationEnds
    split
    · exact .refl d
    · dsimp only
      split <;> exact .of_gates fun _ => rfl
  | encoderForwardCount l =>
    have h := (Stands.forwardCount (g := True) d l).forces
    exact ⟨h.forced, h.hold, fun hne => absurd rfl (hne l)⟩
  | encoderReverseCount l => exact (Stands.reverseCount d l).forces
  | edgeRise l => exact (Stands.edgeRises d l).forces
  | flashEnd l => exact (Stands.flashEnds d l).forces
  | settleExpiry l => exact (Stands.settleExpires d l).forces
  | warmupExpiry l => exact (Stands.warmupExpires d l).forces
  | idleTimerExpiry l => exact (Stands.idleExpires d l).forces
  | fillWord p | startWord p | dataWord p | endWord p | violationWord p => exact (Stands.camWord d p _).forces
  | camSdInactive p => exact (Stands.camSdFalls d p).forces
  | camSdActive p => exact (Stands.camSdRises d p).forces
  | itemTake l => exact (Stands.takeItem d l).forces
  | evaluationTake => exact (Stands.takeEvaluation d).forces
  | evaluationComplete => exact (Stands.completeEvaluation d).forces
  | trkSdInactive =>
    show Forces _ _ d d.trkSdFalls
    unfold Device.trkSdFalls
    dsimp only
    split <;> exact .of_gates fun _ => rfl
  | trkSdActive =>
    show Forces _ _ d d.trkSdRises
    unfold Device.trkSdRises
    dsimp only
    split
    · exact .of_gates fun _ => rfl
    · split <;> exact .of_gates fun _ => rfl
  | frameError x =>
    unfold Machine.effectOf Device.frameComes
    dsimp only
    split
    · exact .of_gates fun _ => rfl
    · exact .of_gates fun _ => rfl
    · exact .refl d
  | creditFrame grant =>
    unfold Machine.effectOf Device.frameComes
    dsimp only
    split
    · refine .trans (e := d.breakOpen) ?_ (.of_gates fun _ => rfl)
      unfold Device.breakOpen
      split
      · exact .trans (e := d.discardFrame none) (.of_gates fun _ => rfl) (Stands.settleStall _).forces
      · exact .refl d
    · exact .of_gates fun _ => rfl
    · exact .refl d
  | frameComplete => exact .of_gates fun _ => rfl
  | stallTimerExpiry => exact (Stands.stallExpires d).forces
  | orderFrame | unknownOrder | trainingWord | frameBegin | powerOn | resetPinAssert | resetPinRelease => cases hc
  | _ => exact .refl d

theorem KeepsForce.of_orderOf {c : Instr} {tag : Byte} {o : Order} (h : orderOf c = some (tag, o))
    (hrelease : ∀ tag lane, c ≠ .releaseForce tag lane) (hdisable : ∀ tag lane, c ≠ .disableLane tag lane) :
    KeepsForce o := by
  cases c with
  | releaseForce tag lane => exact absurd rfl (hrelease tag lane)
  | disableLane tag lane => exact absurd rfl (hdisable tag lane)
  | _ => cases h <;> trivial

theorem carriesOrders_of_reset {c : Instr} {tag : Byte} (h : orderOf c = some (tag, .resetDevice)) :
    carriesOrders c = true := by
  cases c with
  | resetDevice => rfl
  | _ => cases h

/-- Settles O48, by `Forces.effectOf` and `TakesPlace.takeOrder`: no operation but gate arrivals, Release Force, Disable
Lane and a reset touches a gate unit's force otherwise than by a fault. -/
theorem forceStands : Obligations.ForceStands := by
  intro c s t l hcarries hrelease hdisable ht
  suffices h : Forces True (∀ m, c ≠ .encoderForwardCount m) s.dev t.dev from
    ⟨h.forced trivial l, h.hold trivial l, fun hne => h.divert hne l⟩
  cases ho : orderOf c with
  | some p =>
    have hreset : p.2 ≠ .resetDevice := fun h => by
      have := carriesOrders_of_reset (ho.trans (congrArg (fun o => some (p.1, o)) h))
      simp [hcarries] at this
    have hkeeps := KeepsForce.of_orderOf ho hrelease hdisable
    rw [exec_of_order ho] at ht
    refine .event (fun d => .arrive d _ ?_) ht
    have h := (TakesPlace.takeOrder p.1 p.2 hreset d).forces
    exact ⟨fun _ => h.forced hkeeps, fun _ => h.hold hkeeps, fun _ => h.divert hkeeps⟩
  | none =>
    cases hc : actsInReset c with
    | false =>
      rw [exec_of_event ho hc] at ht
      exact .event (fun d => .effectOf hcarries d) ht
    | true =>
      rw [exec_of_pin hc] at ht
      cases ht
      exact (Forces.effectOf hcarries s.dev).trans (Stands.settleStall _).forces

end Sys2Proof.Machine

/-! # Steps, power and reset (chapters 1 and 9) -/

namespace Sys2Proof.Machine

/-! ## A step -/

/-- Settles O1: both sides are the same term. -/
theorem stepRunsFrontCommand : Obligations.StepRunsFrontCommand := ⟨fun _ _ _ => rfl, fun _ => rfl⟩

/-- An event that leaves the part as it is. -/
theorem exec_of_nothing {c : Instr} (ho : orderOf c = none) (hc : actsInReset c = false) {s : State}
    (hs : s.dev.resetLow = false) (h : effectOf c s.dev = s.dev) : exec c s = becomes s s.dev := by
  rw [exec_of_event ho hc, event_running s hs, h]

theorem Act.run_next (a : Act) (s : State) : ∃ d : Device, a.run s = .next { dev := d, pending := s.pending } := by
  cases a <;> exact ⟨_, rfl⟩

/-- A command that is no pin, power or reset-pin event does nothing in reset (log 3). -/
theorem exec_in_reset {c : Instr} (hc : actsInReset c = false) {s : State} (hs : s.dev.resetLow = true) :
    exec c s = .next s := by
  cases ho : orderOf c with
  | some p => rw [exec_of_order ho, event, hs]; rfl
  | none => rw [exec_of_event ho hc, event, hs]; rfl

theorem Device.flashEnds_of_not_flash {d : Device} {l : LaneId} (h : ∀ p, (d.lane l).strobe.state ≠ .flash p) :
    d.flashEnds l = d := by
  unfold Device.flashEnds
  split
  · next p hp => exact absurd hp (h p)
  all_goals rfl

theorem Device.settleExpires_of_not_settle {d : Device} {l : LaneId} (h : ∀ p, (d.lane l).strobe.state ≠ .settle p) :
    d.settleExpires l = d := by
  unfold Device.settleExpires
  split
  · next p hp => exact absurd hp (h p)
  all_goals rfl

theorem Device.warmupExpires_of_none {d : Device} {l : LaneId} (h : (d.lane l).warmupLeft = none) :
    d.warmupExpires l = d := if_neg (by simp [h])

theorem Device.idleExpires_of_none {d : Device} {l : LaneId} (h : (d.lane l).idleLeft = none) :
    d.idleExpires l = d := if_neg (by simp [h])

theorem Device.stallExpires_of_none {d : Device} (h : d.trunk.stallLeft = none) : d.stallExpires = d := if_neg (by simp [h])

theorem Device.validationEnds_of_none {d : Device} (h : d.validation = none) : d.validationEnds = d := by
  simp only [Device.validationEnds, h]

theorem Device.completeEvaluation_of_none {d : Device} (h : d.evaluation = none) : d.completeEvaluation = d := by
  simp only [Device.completeEvaluation, h]

theorem Device.takeEvaluation_of_nothing {d : Device} (h : d.evaluation ≠ none ∨ d.closeQueue = []) :
    d.takeEvaluation = d := by
  unfold Device.takeEvaluation
  split
  · next hnone hq => simp [hnone, hq] at h
  · rfl

/-- Settles O2: every command is an order, an event or a pin (`exec_eq_run`), and what does not run has no effect. -/
theorem everyCommandAnswersNext : Obligations.EveryCommandAnswersNext := fun c _ s =>
  ⟨exec_eq_run c s ▸ Act.run_next _ _, fun hs hc => exec_in_reset hc hs, fun hs =>
    ⟨fun h => exec_of_nothing rfl rfl hs (Device.flashEnds_of_not_flash h),
      fun h => exec_of_nothing rfl rfl hs (Device.settleExpires_of_not_settle h),
      fun h => exec_of_nothing rfl rfl hs (Device.warmupExpires_of_none h),
      fun h => exec_of_nothing rfl rfl hs (Device.idleExpires_of_none h),
      fun h => exec_of_nothing rfl rfl hs (Device.stallExpires_of_none h),
      fun h => exec_of_nothing rfl rfl hs (Device.validationEnds_of_none h),
      fun h => exec_of_nothing rfl rfl hs (Device.completeEvaluation_of_none h),
      fun h => exec_of_nothing rfl rfl hs (Device.takeEvaluation_of_nothing h)⟩⟩

/-! ## The state after reset -/

theorem State.reset_lane (l : LaneId) : State.reset.dev.lane l = .atReset true true := by cases l <;> rfl

theorem State.reset_port (p : PortId) : State.reset.dev.port p = .atReset true := by
  rcases p with ⟨l, q⟩
  cases l <;> cases q <;> rfl

theorem State.reset_crops {c : CropSlot} (h : c ∈ State.reset.dev.crops) : c = .free := List.eq_of_mem_replicate h

theorem State.reset_slot (i : Fin 4) : State.reset.dev.slot i = Slot.empty := by
  match i with
  | 0 | 1 | 2 | 3 => rfl

theorem State.reset_cond_get (i : SetId) : State.reset.dev.cond.get i =
    match i with
    | .device => { raised := 1, mask := 1, snapshot := none, noticePending := true }
    | .lane _ => .clear 0
    | .port _ => { CondSet.clear 0 with raised := 0x180 } := by
  rcases i with _ | l | ⟨l, q⟩
  · rfl
  · cases l <;> rfl
  · cases l <;> cases q <;> rfl

/-- Settles O4: the state after reset is written out in the model. -/
theorem resetValues : Obligations.ResetValues := by
  refine ⟨rfl, rfl, rfl, rfl, rfl, rfl, rfl, rfl, rfl, rfl, rfl, rfl, rfl, rfl, rfl, rfl, rfl, rfl,
    fun c hc => by rw [State.reset_crops hc]; rfl, State.reset_slot, fun l => ?_, fun p => ?_, rfl, rfl, rfl, rfl,
    fun c hc => by rw [State.reset_crops hc]; exact ⟨rfl, fun _ => rfl⟩, fun l => ?_, fun p => ?_, fun i => ?_, fun l => ?_⟩
  · rw [State.reset_lane]
    exact ⟨rfl, rfl, rfl, rfl, rfl, rfl, rfl⟩
  · rw [portConds, State.reset_cond_get, State.reset_port]
    exact ⟨rfl, rfl, rfl, rfl, rfl, rfl⟩
  · rw [State.reset_lane]
    refine ⟨rfl, rfl, rfl, rfl, rfl, rfl, rfl, rfl, rfl, rfl, rfl, rfl, rfl, rfl, rfl, fun k => ?_, fun p => rfl, rfl, rfl,
      rfl, rfl⟩
    cases k <;> exact ⟨rfl, rfl, rfl⟩
  · rw [State.reset_port]
    exact ⟨rfl, rfl, rfl, rfl, rfl, rfl, rfl, rfl, rfl, rfl, rfl, fun _ => rfl⟩
  · rw [State.reset_cond_get]
    cases i with
    | device => exact ⟨rfl, fun h => absurd rfl h, by simp⟩
    | lane => exact ⟨rfl, fun _ => rfl, by simp [CondSet.clear]⟩
    | port => exact ⟨rfl, fun _ => rfl, by simp [CondSet.clear]⟩
  · rw [State.reset_cond_get]
    rfl

/-! ## Power, the reset pin and Reset Device -/

theorem Device.camSds_get (d : Device) (p : PortId) : (d.camSds.get p.lane).get p.loc = (d.port p).camSd := by
  rcases p with ⟨l, q⟩
  cases l <;> cases q <;> rfl

theorem Device.camSds_of_allOn {d : Device} (h : AllCamerasOn d) :
    d.camSds = { a := { p0 := true, p1 := true }, b := { p0 := true, p1 := true } } := by
  simp only [Device.camSds, show ∀ p : PortId, (d.port p).camSd = true from h]

/-- The power-on values with every camera signal present are those of the state after reset, but for levels and conditions. -/
theorem Device.raiseResetConds_atPowerOn {d : Device} (h : AllCamerasOn d) (low sd : Bool) (n : Nat) (f : Trunk → Trunk) :
    ((Device.atPowerOn low sd d.camSds n).modTrunk f).raiseResetConds =
      { State.reset.dev with resetLow := low, trkSd := sd, freeIndex := n, trunk := f .atPowerOn } := by
  rw [Device.raiseResetConds_allOn _ rfl fun p => ?_]
  · rw [Device.camSds_of_allOn h]
    rfl
  · rw [show ((Device.atPowerOn low sd d.camSds n).modTrunk f).port p = (Device.atPowerOn low sd d.camSds n).port p from rfl,
      Device.atPowerOn_port, Device.camSds_get]
    exact ⟨h p, rfl, rfl⟩

theorem Device.settleStall_of_runs {d : Device} (h : d.stallRuns = true) :
    d.settleStall = { d with trunk := { d.trunk with stallLeft := some (d.trunk.stallLeft.getD d.trunk.stallLoad) } } := by
  simp only [Device.settleStall, h, if_true]
  split
  · next hleft => rw [hleft]; rfl
  · next n hleft => rw [hleft, Option.getD_some, ← hleft]

theorem Device.settleStall_of_stops {d : Device} (h : d.stallRuns = false) :
    d.settleStall = { d with trunk := { d.trunk with stallLeft := none } } := by
  simp [Device.settleStall, h, Device.modTrunk]

/-- Right after a reset the ResetDone notice waits and credit is zero, so the stall timer starts (R171, R175). -/
theorem Device.settleStall_of_reset (sd : Bool) (n : Nat) (link : Link) :
    ({ State.reset.dev with trkSd := sd, freeIndex := n, trunk := { Trunk.atPowerOn with link := link } } : Device).settleStall =
      { State.reset.dev with trkSd := sd, freeIndex := n, trunk := { State.reset.dev.trunk with link := link } } := by
  rw [Device.settleStall_of_runs rfl]
  have hload : ({ Trunk.atPowerOn with link := link } : Trunk).stallLoad = 500000 := by simp [Trunk.stallLoad, Trunk.atPowerOn]
  simp only [hload]
  rfl

theorem Device.settleStall_of_empty {d : Device} (h : d.outboundWaiting = false) (hleft : d.trunk.stallLeft = none) :
    d.settleStall = d := by
  rw [Device.settleStall_of_stops (by simp [Device.stallRuns, h]), ← hleft]

theorem Device.settleStall_atPowerOn (low sd : Bool) (sds : PerLane (PerPort Bool)) (n : Nat) :
    (Device.atPowerOn low sd sds n).settleStall = Device.atPowerOn low sd sds n := Device.settleStall_of_empty rfl rfl

/-! ## Faults (R156, R158, R177) -/

/-- The gate unit of a lane after a fault raised on it. -/
def Lane.gateAfter (L : Lane) (k : FaultKind) : Gate :=
  if L.mode = .off then L.gate.count k else (L.gate.count k).answer k

theorem Device.fault_lane_eq (d : Device) (l m : LaneId) (k : FaultKind) :
    (d.fault l k).lane m = if m = l then { d.lane l with gate := (d.lane l).gateAfter k } else d.lane m := d.fault_lane l m k

/-- Whether a fault raised on a lane changes its forced override or its hold. -/
def Lane.forceMoves (L : Lane) (k : FaultKind) : Bool :=
  decide ((L.gateAfter k).forced ≠ L.gate.forced ∨ (L.gateAfter k).hold ≠ L.gate.hold)

/-- The condition of a lane's set that records a fault by its kind. -/
def FaultKind.laneBit (k : FaultKind) : Word16 :=
  match k with
  | .motionFault => LaneCond.motionFault.bit
  | .panelOverrun => LaneCond.panelOverrun.bit
  | .warmupLate => LaneCond.warmupLate.bit
  | .cameraLoss | .trunkStall | .verdictLoss => 0

/-- A fault as the steps it is made of: the gate unit, Forced where the force moves, the lane condition of its kind. -/
theorem Device.fault_eq (d : Device) (l : LaneId) (k : FaultKind) :
    d.fault l k = ((d.setLane l { d.lane l with gate := (d.lane l).gateAfter k }).raise (.lane l)
      (if (d.lane l).forceMoves k then LaneCond.forced.bit else 0)).raise (.lane l) k.laneBit := by
  have hforced : ∀ (e : Device) (P : Prop) [Decidable P],
      (if P then e.raiseLane l .forced else e) = e.raise (.lane l) (if P then LaneCond.forced.bit else 0) := by
    intro e P _
    split
    · rfl
    · rw [Device.raise_zero]
  unfold Device.fault
  dsimp only
  rw [hforced]
  have hcond : ∀ e : Device, (match k.laneCond with
      | some c => e.raiseLane l c
      | none => e) = e.raise (.lane l) k.laneBit := fun e => by
    cases k <;> simp only [FaultKind.laneCond, FaultKind.laneBit, Device.raise_zero] <;> rfl
  refine (hcond _).trans ?_
  simp only [Lane.forceMoves, Lane.gateAfter]
  congr 2
  exact if_congr decide_eq_true_iff.symm rfl rfl

/-- What a fault adds to the conditions: in its lane's set alone. -/
theorem Device.fault_raised (d : Device) (l : LaneId) (k : FaultKind) (i : SetId) :
    ((d.fault l k).cond.get i).raised =
      if i = .lane l then (d.cond.get i).raised ||| (if (d.lane l).forceMoves k then LaneCond.forced.bit else 0) ||| k.laneBit
      else (d.cond.get i).raised := by
  rw [Device.fault_eq, Device.raise_raised, Device.raise_raised]
  split <;> rfl

theorem Lane.gateAfter_counts (L : Lane) (k : FaultKind) :
    (L.gateAfter k).counts = L.gate.counts.set k (min 255 (L.gate.counts.get k + 1)) := by
  unfold Lane.gateAfter
  split <;> rfl

theorem Lane.gateAfter_of_off {L : Lane} (h : L.mode = .off) (k : FaultKind) : L.gateAfter k = L.gate.count k := if_pos h

theorem Lane.gateAfter_of_on {L : Lane} (h : L.mode ≠ .off) (k : FaultKind) :
    L.gateAfter k = (L.gate.count k).answer k := if_neg h

/-- What a fault leaves of a gate unit. -/
theorem Lane.gateAfter_same (L : Lane) (k : FaultKind) :
    (L.gateAfter k).divert = L.gate.divert ∧ (L.gateAfter k).queue = L.gate.queue ∧ (L.gateAfter k).mode = L.gate.mode ∧
      (L.gateAfter k).table = L.gate.table := by
  unfold Lane.gateAfter
  split <;> exact ⟨rfl, rfl, rfl, rfl⟩

/-- A condition raised is set, whatever is raised with it. -/
theorem BitVec.raised_and_bit (x b y : Word16) : (x ||| b ||| y) &&& b = b := by
  ext i hi
  simp only [BitVec.getElem_and, BitVec.getElem_or]
  cases x[i] <;> cases b[i] <;> cases y[i] <;> rfl

/-- Raising a list that a condition is not on leaves that condition. -/
theorem BitVec.raised_and_other {x b y : Word16} (h : y &&& b = 0#16) : (x ||| y) &&& b = x &&& b := by
  rw [BitVec.and_comm, BitVec.and_or_distrib_left, BitVec.and_comm b y, h, BitVec.or_zero, BitVec.and_comm]

/-- Settles O47, by `Device.fault_lane_eq` for the lanes and `Device.fault_raised` for the conditions. -/
theorem faultAnswered : Obligations.FaultAnswered := by
  intro d l m k hml
  have hlane : (d.fault l k).lane l = { d.lane l with gate := (d.lane l).gateAfter k } := by
    rw [Device.fault_lane_eq, if_pos rfl]
  have hraised := d.fault_raised l k (.lane l)
  rw [if_pos rfl] at hraised
  obtain ⟨hdivert, hqueue, hmode, htable⟩ := (d.lane l).gateAfter_same k
  have hmoves : (d.lane l).forceMoves k = true ↔
      ((d.lane l).gateAfter k).forced ≠ (d.lane l).gate.forced ∨ ((d.lane l).gateAfter k).hold ≠ (d.lane l).gate.hold :=
    decide_eq_true_iff
  have hzero : ∀ x : Word16, x ||| 0 = x := fun x => BitVec.or_zero
  dsimp only
  rw [hlane]
  refine ⟨(d.lane l).gateAfter_counts k, hdivert, hqueue, hmode, htable, by rw [Device.fault_lane_eq, if_neg hml], fun h => ?_,
    fun h => ?_, fun h => ?_, fun h => ?_, fun h => ?_, fun h => ?_, fun i hi => ?_⟩
  · rw [Lane.gateAfter_of_off h]
    exact ⟨rfl, rfl, rfl⟩
  · rw [Lane.gateAfter_of_on h]
    exact ⟨Override.code_worse _ _, rfl, rfl⟩
  · rw [hraised, if_pos (hmoves.mpr h), BitVec.raised_and_bit]
    decide
  · rw [hraised, if_neg (mt hmoves.mp h), hzero]
    exact BitVec.raised_and_other (by cases k <;> decide)
  · rw [hraised, if_pos (hmoves.mpr h)]
    rfl
  · rw [hraised, if_neg (mt hmoves.mp h), hzero]
    rfl
  · rw [Device.fault_raised, if_neg hi]

/-! ## Ports within the part -/

theorem Device.fault_port (d : Device) (l : LaneId) (k : FaultKind) (p : PortId) : (d.fault l k).port p = d.port p := by
  rw [Device.port, Device.fault_lane_eq]
  split
  · next h => rw [Device.port, h]
  · rfl

theorem Device.fault_portConds (d : Device) (l : LaneId) (k : FaultKind) (p : PortId) :
    portConds (d.fault l k) p = portConds d p := by
  rw [portConds, Device.fault_raised, if_neg (by simp)]
  rfl

@[simp] theorem Device.raise_port (d : Device) (i : SetId) (list : Word16) (p : PortId) :
    (d.raise i list).port p = d.port p := rfl

theorem Device.onPort_port (d : Device) (p q : PortId) (f : PortRun → PortRun) :
    (d.onPort p f).port q = if q = p then (f (d.port p, 0)).1 else d.port q := d.port_setPort p q _

theorem Device.onPort_conds (d : Device) (p q : PortId) (f : PortRun → PortRun) :
    portConds (d.onPort p f) q = if q = p then portConds d p ||| (f (d.port p, 0)).2 else portConds d q := by
  unfold Device.onPort portConds
  rw [Device.raise_raised]
  by_cases h : q = p
  · subst h
    rw [if_pos rfl, if_pos rfl]
    rfl
  · rw [if_neg (by simpa using h), if_neg h]
    rfl

theorem Device.onStream_port (d : Device) (p q : PortId) (f : PortRun → PortRun) :
    (d.onStream p f).port q = if q = p then (f (d.port p, 0)).1 else d.port q := by
  unfold Device.onStream
  dsimp only
  split
  · rw [Device.fault_port, Device.onPort_port]
  · rw [Device.onPort_port]

theorem Device.onStream_conds (d : Device) (p q : PortId) (f : PortRun → PortRun) :
    portConds (d.onStream p f) q = if q = p then portConds d p ||| (f (d.port p, 0)).2 else portConds d q := by
  unfold Device.onStream
  dsimp only
  split
  · rw [Device.fault_portConds, Device.onPort_conds]
  · rw [Device.onPort_conds]

@[simp] theorem Device.settleStall_port (d : Device) (p : PortId) : d.settleStall.port p = d.port p := by
  rw [Device.port, Device.settleStall_lane]
  rfl

@[simp] theorem portConds_settleStall (d : Device) (p : PortId) : portConds d.settleStall p = portConds d p := by
  rw [portConds, Device.settleStall_cond]
  rfl

/-! ### Release with ports that have no signal (R49, R56, R176) -/

/-- A port right after a reset: Dark where its camera signal is missing. -/
def Port.woken (p : Port) : Port := if p.camSd then p else { p with stream := .dark, lastKnown := .dark }

theorem PortRun.enterDark_atReset (sd : Bool) :
    PortRun.enterStream .dark (Port.atReset sd, 0) =
      ({ Port.atReset sd with stream := .dark, lastKnown := .dark }, PortCond.stateChange.bit ||| PortCond.enteredDark.bit) := by
  cases sd <;> rfl

/-- What entry into Dark raises in the set of a port woken without a signal. -/
def Port.darkConds (p : Port) : Word16 := if p.camSd then 0 else PortCond.stateChange.bit ||| PortCond.enteredDark.bit

theorem portConds_raise (d : Device) (p q : PortId) (x : Word16) :
    portConds (d.raise (.port p) x) q = if q = p then portConds d p ||| x else portConds d q := by
  unfold portConds
  rw [Device.raise_raised]
  by_cases h : q = p
  · rw [if_pos (by rw [h]), if_pos h, h]
  · rw [if_neg (by simpa using h), if_neg h]

theorem Device.wakePort_of_atReset {d : Device} {p : PortId} {sd : Bool} (h : d.port p = .atReset sd) (q : PortId) :
    (d.wakePort p).port q = (if q = p then (d.port p).woken else d.port q) ∧
      portConds (d.wakePort p) q =
        if q = p then portConds d p ||| (d.port p).darkConds ||| (PortCond.noiseThreshold.bit ||| PortCond.checkThreshold.bit)
        else portConds d q := by
  have hstream : ∃ e : Device, d.wakePort p = e.raise (.port p) (e.port p).standing ∧
      (∀ q, e.port q = if q = p then (d.port p).woken else d.port q) ∧
      ∀ q, portConds e q = if q = p then portConds d p ||| (d.port p).darkConds else portConds d q := by
    unfold Device.wakePort
    rw [h]
    cases sd with
    | false =>
      refine ⟨_, rfl, fun q => (d.onStream_port p q _).trans ?_, fun q => (d.onStream_conds p q _).trans ?_⟩ <;>
        rw [h, PortRun.enterDark_atReset]
      · rfl
      · rfl
    | true =>
      refine ⟨d, rfl, fun q => ?_, fun q => ?_⟩ <;> split
      · next hq => rw [hq]; exact h
      · rfl
      · next hq => rw [hq]; exact BitVec.or_zero.symm
      · rfl
  obtain ⟨e, he, hport, hconds⟩ := hstream
  have hstanding : (e.port p).standing = PortCond.noiseThreshold.bit ||| PortCond.checkThreshold.bit := by
    rw [hport, if_pos rfl, h]
    cases sd <;> rfl
  rw [he, hstanding]
  refine ⟨hport q, ?_⟩
  rw [portConds_raise, hconds, hconds, if_pos rfl]
  split <;> rfl

/-- Ports woken one after the other, each once. -/
theorem Device.foldl_wakePort (ps : List PortId) (hnodup : ps.Nodup) (d : Device) (hp : ∀ p ∈ ps, ∃ sd, d.port p = .atReset sd)
    (q : PortId) :
    (ps.foldl Device.wakePort d).port q = (if q ∈ ps then (d.port q).woken else d.port q) ∧
      portConds (ps.foldl Device.wakePort d) q =
        if q ∈ ps then portConds d q ||| (d.port q).darkConds ||| (PortCond.noiseThreshold.bit ||| PortCond.checkThreshold.bit)
        else portConds d q := by
  induction ps generalizing d with
  | nil => exact ⟨rfl, rfl⟩
  | cons p ps ih =>
    obtain ⟨hnew, hrest⟩ := List.nodup_cons.mp hnodup
    obtain ⟨sd, hsd⟩ := hp p List.mem_cons_self
    have hwake := fun q => Device.wakePort_of_atReset hsd q
    have hother : ∀ r ∈ ps, (d.wakePort p).port r = d.port r := fun r hr => by
      have hrp : r ≠ p := fun h => hnew (h ▸ hr)
      rw [(hwake r).1, if_neg hrp]
    obtain ⟨hport, hconds⟩ := ih hrest (d.wakePort p) fun r hr => by
      rw [hother r hr]
      exact hp r (List.mem_cons_of_mem _ hr)
    rw [List.foldl_cons, hport, hconds, (hwake q).1, (hwake q).2]
    by_cases hq : q = p
    · subst hq
      simp [hnew]
    · simp [hq]

/-- Settles O3: with every signal present by `Device.raiseResetConds_atPowerOn`, port by port by `Device.foldl_wakePort`. -/
theorem powerAndResetPin : Obligations.PowerAndResetPin := by
  intro s
  have hfalls : exec .resetPinAssert s =
      .next { dev := (Device.atPowerOn true s.dev.trkSd s.dev.camSds s.dev.freeIndex).settleStall, pending := s.pending } := rfl
  refine ⟨by rw [hfalls, Device.settleStall_atPowerOn], rfl, fun hall => ?_, fun hlow hall => ?_, fun hlow => ?_, _, rfl,
    fun p => ?_⟩
  · have hrises : s.dev.resetRises = { State.reset.dev with
        trkSd := s.dev.trkSd, freeIndex := s.dev.freeIndex, trunk := { Trunk.atPowerOn with link := linkAtRelease s.dev.trkSd } } :=
      Device.raiseResetConds_atPowerOn hall false s.dev.trkSd s.dev.freeIndex
        (fun t => { t with link := linkAtRelease s.dev.trkSd })
    rw [exec_of_pin rfl, pinEvent, show effectOf .resetPinRelease s.dev = s.dev.resetRises from rfl, hrises,
      Device.settleStall_of_reset]
    rfl
  · have hpowers : s.dev.powersOn = { State.reset.dev with
        trkSd := s.dev.trkSd, freeIndex := s.dev.freeIndex, trunk := { Trunk.atPowerOn with link := .down } } := by
      have h := Device.raiseResetConds_atPowerOn hall false s.dev.trkSd s.dev.freeIndex (fun t => t)
      rw [Device.powersOn, Device.allAtPowerOn, hlow]
      exact h
    rw [exec_of_pin rfl, pinEvent, show effectOf .powerOn s.dev = s.dev.powersOn from rfl, hpowers,
      Device.settleStall_of_reset]
    rfl
  · have hpowers : s.dev.powersOn = Device.atPowerOn true s.dev.trkSd s.dev.camSds s.dev.freeIndex := by
      rw [Device.powersOn, Device.allAtPowerOn, hlow]
      rfl
    rw [exec_of_pin rfl, pinEvent, show effectOf .powerOn s.dev = s.dev.powersOn from rfl, hpowers,
      Device.settleStall_atPowerOn]
  · have hreset : ∀ q, (Device.atPowerOn false s.dev.trkSd s.dev.camSds s.dev.freeIndex).port q = .atReset (s.dev.port q).camSd :=
      fun q => by rw [Device.atPowerOn_port, Device.camSds_get]
    generalize hreleased : ((Device.atPowerOn false s.dev.trkSd s.dev.camSds s.dev.freeIndex).modTrunk
      (fun t => { t with link := linkAtRelease s.dev.trkSd })).raiseDevice .resetDone = released
    have hport : ∀ q, released.port q = .atReset (s.dev.port q).camSd := hreleased ▸ hreset
    have hconds : portConds released p = 0 := by
      rw [← hreleased, portConds, Device.raiseDevice, Device.raise_raised, if_neg (by simp)]
      rcases p with ⟨l, q⟩
      cases l <;> cases q <;> rfl
    have hall : p ∈ allPorts := by
      rcases p with ⟨l, q⟩
      cases l <;> cases q <;> decide
    obtain ⟨hwoken, hraised⟩ := Device.foldl_wakePort allPorts (by decide) released (fun q _ => ⟨_, hport q⟩) p
    have hrises : s.dev.resetRises = allPorts.foldl Device.wakePort released := hreleased ▸ rfl
    rw [if_pos hall, hport] at hwoken hraised
    rw [hconds] at hraised
    show ((s.dev.resetRises.settleStall).port p).stream = _ ∧ ((s.dev.resetRises.settleStall).port p).lastKnown = _ ∧
      portConds (s.dev.resetRises.settleStall) p = _
    rw [Device.settleStall_port, portConds_settleStall, hrises, hwoken, hraised]
    cases (s.dev.port p).camSd <;> exact ⟨rfl, rfl, rfl⟩

/-- Settles O5, by `Device.raiseResetConds_atPowerOn`. -/
theorem resetDeviceTaken : Obligations.ResetDeviceTaken := by
  intro tag s hs hall
  have hreset : takeResetDevice tag s.dev = ({ State.reset.dev with
      resetLow := s.dev.resetLow, trkSd := s.dev.trkSd, freeIndex := s.dev.freeIndex,
      trunk := { Trunk.atPowerOn with link := s.dev.trunk.link, syncRun := s.dev.trunk.syncRun, credit := s.dev.trunk.credit,
                                      frame := s.dev.trunk.frame, rx := s.dev.trunk.rx } } : Device).reply tag 0x71 .done [] :=
    congrArg (fun d => Device.reply d tag 0x71 .done []) (Device.raiseResetConds_atPowerOn hall s.dev.resetLow s.dev.trkSd
      s.dev.freeIndex (fun new => { new with
        link := s.dev.trunk.link, syncRun := s.dev.trunk.syncRun, credit := s.dev.trunk.credit, frame := s.dev.trunk.frame,
        rx := s.dev.trunk.rx }))
  rw [exec_taken rfl hs, takeOrder, hreset, hs.1]
  rfl

/-! ## What holds of a part with nothing on it -/

/-- A part with no recipe, no panel, no window and no crop. -/
structure Device.Blank (d : Device) : Prop where
  slots : ∀ i, d.slot i = Slot.empty
  live : ∀ l, (d.lane l).live = []
  openList : ∀ l, (d.lane l).openList = []
  reg : ∀ l, (d.lane l).reg = none
  closeQueue : d.closeQueue = []
  evaluation : d.evaluation = none
  crops : d.crops = List.replicate 48 .free
  cropQueue : d.cropQueue = []

theorem Device.Blank.windowsInFlight {d : Device} (h : d.Blank) : d.windowsInFlight = [] := by
  simp [Device.windowsInFlight, h.openList, h.closeQueue, h.evaluation]

theorem Device.Blank.jointsAccounted {d : Device} (h : d.Blank) : JointsAccounted d := by
  refine ⟨fun i hi => ?_, fun l => ⟨?_, ?_, ?_, ?_, ?_⟩, ?_⟩
  · simp [h.slots, Slot.empty] at hi
  · simp [h.live]
  · simp [h.openList]
  · simp [h.openList]
  · intro r hr
    simp [h.reg] at hr
  · simp [h.live]
  · simp [h.windowsInFlight]

theorem Device.Blank.crop_free {d : Device} (h : d.Blank) {i : Nat} {x : CropSlot} (hx : d.crops[i]? = some x) : x = .free :=
  List.eq_of_mem_replicate (h.crops ▸ List.mem_of_getElem? hx)

theorem Device.Blank.cropsAgree {d : Device} (h : d.Blank) : CropsAgree d := by
  refine ⟨by simp [h.crops], by simp [h.cropQueue], by simp [h.windowsInFlight], by simp [h.windowsInFlight],
    fun i x hx => ?_, fun i => ?_⟩
  · rw [h.crop_free hx]
    simp [CropSlot.free]
  · rw [h.cropQueue]
    refine iff_of_false (by simp) ?_
    rintro ⟨x, hx, hs⟩
    simp [h.crop_free hx, CropSlot.free] at hs

theorem State.reset_blank : State.reset.dev.Blank where
  slots := State.reset_slot
  live l := by rw [State.reset_lane]; rfl
  openList l := by rw [State.reset_lane]; rfl
  reg l := by rw [State.reset_lane]; rfl
  closeQueue := rfl
  evaluation := rfl
  crops := rfl
  cropQueue := rfl

/-- Settles O60: after reset there is nothing on the part (`State.reset_blank`). -/
theorem resetHasEveryProperty : Obligations.ResetHasEveryProperty := by
  refine ⟨State.reset_blank.jointsAccounted, State.reset_blank.cropsAgree, fun l => ?_, ⟨fun i hi => ?_, nofun⟩,
    ⟨fun p => ?_, fun c hc => ?_⟩, fun p => ?_, fun l => ?_, ⟨fun l => ?_, List.nodup_nil, nofun⟩,
    ⟨List.nodup_singleton _, fun i => ?_⟩, ⟨Nat.zero_le _, Nat.zero_le _, Nat.zero_le _, nofun⟩, ⟨Nat.zero_le _, nofun⟩, ⟨Nat.zero_le _, Nat.zero_le _, nofun⟩, nofun⟩
  · simp [State.reset_blank.live]
  · obtain ⟨l, hn⟩ := (Device.referenced_iff _ i).mp hi
    rw [State.reset_lane] at hn
    exact absurd hn (Lane.atReset_names _ _ i)
  · rw [State.reset_port]
    rfl
  · rw [State.reset_crops hc]
    rfl
  · rw [State.reset_port]
    simp [Port.atReset, Port.Within]
  · rw [State.reset_lane]
    simp [Lane.atReset, Gate.atReset]
  · rw [State.reset_lane]
    exact Lane.atReset_ordered _ _
  · rw [State.reset_cond_get, show State.reset.dev.cond.noticeQueue = [.device] from rfl]
    cases i <;> simp [CondSet.clear]

end Sys2Proof.Machine

/-! # Orders on the recipe store (chapter 1) -/

namespace Sys2Proof.Machine

/-- An order taken whose owner changes the part to `d` and then replies. -/
theorem exec_answers {c : Instr} {tag code : Byte} {o : Order} {oc : ReplyCode} {body : List Byte} {s : State} {d : Device}
    (hs : Taken s) (ho : orderOf c = some (tag, o)) (ht : takeOrder tag o s.dev = d.reply tag code oc body) :
    exec c s = answers s d tag code oc body := by
  rw [exec_taken ho hs, ht, answers]

/-! ## Refusals (R2) -/

theorem Device.slotRefusal_of_validating {d : Device} {i : Fin 4} (h : (d.slot i).state = .validating)
    (allowed : SlotState → Bool) : d.slotRefusal i false allowed = some .refusedBusy := by
  simp [Device.slotRefusal, h]

theorem Device.slotRefusal_of_referenced {d : Device} {i : Fin 4} {erase : Bool}
    (h : erase = true ∨ (d.slot i).state ≠ .validating) (href : d.referenced i = true) (allowed : SlotState → Bool) :
    d.slotRefusal i erase allowed = some .refusedReferenced := by
  rcases h with h | h <;> simp [Device.slotRefusal, h, href]

theorem Device.slotRefusal_of_state {d : Device} {i : Fin 4} {allowed : SlotState → Bool}
    (h : (d.slot i).state ≠ .validating) (href : d.referenced i = false) (hallowed : allowed (d.slot i).state = false) :
    d.slotRefusal i false allowed = some .refusedState := by
  simp [Device.slotRefusal, h, href, hallowed]

theorem Device.slotRefusal_of_allowed {d : Device} {i : Fin 4} {erase : Bool} {allowed : SlotState → Bool}
    (h : erase = true ∨ (d.slot i).state ≠ .validating) (href : d.referenced i = false)
    (hallowed : allowed (d.slot i).state = true) : d.slotRefusal i erase allowed = none := by
  rcases h with h | h <;> simp [Device.slotRefusal, h, href, hallowed]

/-! ## Orders that change a slot -/

theorem Device.changeSlot_of_range (d : Device) (tag code : Byte) {slot : Byte} {inRange : Bool}
    (h : 3 < slot.toNat ∨ inRange = false) (allowed : SlotState → Bool) (effect : Slot → Slot) :
    d.changeSlot tag code slot inRange allowed effect = d.reply tag code .refusedRange [] := by
  unfold Device.changeSlot
  split
  · next i hi =>
    rcases h with h | h
    · simp [fourOf_above slot h] at hi
    · cases h
  · rfl

theorem Device.changeSlot_of_refusal {d : Device} {i : Fin 4} {allowed : SlotState → Bool} {r : ReplyCode}
    (h : d.slotRefusal i false allowed = some r) (tag code : Byte) (effect : Slot → Slot) :
    d.changeSlot tag code (slotByte i) true allowed effect = d.reply tag code r [] := by
  simp only [Device.changeSlot, fourOf_slotByte, h]

theorem Device.changeSlot_of_allowed {d : Device} {i : Fin 4} {allowed : SlotState → Bool}
    (h : d.slotRefusal i false allowed = none) (tag code : Byte) (effect : Slot → Slot) :
    d.changeSlot tag code (slotByte i) true allowed effect =
      (d.setSlot i (effect (d.slot i))).reply tag code .done [] := by
  simp only [Device.changeSlot, fourOf_slotByte, h]

/-- The orders that change a slot by `Device.changeSlot`: code, slot, whether in range, the state needed and the effect. -/
def slotEffect : Order → Option (Byte × Byte × Bool × SlotState × (Slot → Slot))
  | .openSlot slot => some (0x10, slot, true, .empty, fun _ => { Slot.empty with state := .loading })
  | .writeHeader slot h => some (0x11, slot, true, .loading, fun x => { x with header := some h })
  | .writeFiducials slot start count es =>
    some (0x12, slot, rangeOk start.toNat count.toNat 4 4 && decide (es.length = count.toNat), .loading,
      fun x => { x with fiducials := Table.putList x.fiducials start.toNat es })
  | .writeJoints slot start count es =>
    some (0x13, slot, rangeOk start.toNat count.toNat 8192 32 && decide (es.length = count.toNat), .loading,
      fun x => { x with joints := Table.putList x.joints start.toNat es })
  | .writeRules slot start count es =>
    some (0x14, slot, rangeOk start.toNat count.toNat 64 8 && decide (es.length = count.toNat), .loading,
      fun x => { x with rules := Table.putList x.rules start.toNat es })
  | .unsealSlot slot => some (0x16, slot, true, .sealed, fun x => { x with state := .loading })
  | _ => none

theorem takeOrder_slotEffect {o : Order} {code slot : Byte} {inRange : Bool} {st : SlotState} {effect : Slot → Slot}
    (h : slotEffect o = some (code, slot, inRange, st, effect)) (tag : Byte) (d : Device) :
    takeOrder tag o d = d.changeSlot tag code slot inRange (fun x => decide (x = st)) effect := by
  cases o <;> cases h <;> rfl

/-- An order that changes a slot, taken in the state it needs. -/
theorem exec_changeSlot {c : Instr} {tag code : Byte} {o : Order} {i : Fin 4} {inRange : Bool} {st : SlotState}
    {effect : Slot → Slot} {s : State} (hs : Taken s) (ho : orderOf c = some (tag, o))
    (he : slotEffect o = some (code, slotByte i, inRange, st, effect)) (hrange : inRange = true)
    (href : s.dev.referenced i = false) (hstate : (s.dev.slot i).state = st) (hst : st ≠ .validating) :
    exec c s = answers s (withSlot s.dev i (effect (s.dev.slot i))) tag code .done [] := by
  refine exec_answers hs ho ((takeOrder_slotEffect he tag _).trans ?_)
  rw [hrange, Device.changeSlot_of_allowed (Device.slotRefusal_of_allowed (.inr (hstate ▸ hst)) href (decide_eq_true hstate))]
  rfl

/-- Settles O6, by the refusals of `Device.slotRefusal` and the effects of the orders. -/
theorem slotStateOrdersTaken : Obligations.SlotStateOrdersTaken := by
  intro tag i s hs
  refine ⟨fun href => ?_, fun href hstate hbusy => ?_, fun href => ⟨fun hstate => ?_, fun hstate => ?_, fun hval => ?_,
    fun hstate hidle => ?_⟩⟩
  · refine exec_answers hs rfl ?_
    simp only [takeOrder, takeEraseSlot, fourOf_slotByte, Device.slotRefusal_of_referenced (.inl rfl) href]
  · refine exec_answers hs rfl ?_
    have hnone : s.dev.slotRefusal i false isLoading = none :=
      Device.slotRefusal_of_allowed (.inr (by simp [hstate])) href (by simp [hstate, isLoading])
    simp only [takeOrder, takeSealSlot, fourOf_slotByte, hnone]
    rw [if_pos (by simpa [Option.isSome_iff_ne_none] using hbusy)]
  · exact (exec_changeSlot (c := .openSlot tag (slotByte i)) hs rfl rfl rfl href hstate (by decide) :)
  · exact (exec_changeSlot (c := .unsealSlot tag (slotByte i)) hs rfl rfl rfl href hstate (by decide) :)
  · refine exec_answers hs rfl ?_
    have habort : s.dev.abortValidation i = s.dev := by
      unfold Device.abortValidation
      split
      · rfl
      · next v hv => rw [if_neg (hval v hv)]
    simp only [takeOrder, takeEraseSlot, fourOf_slotByte, Device.slotRefusal_of_allowed (.inl rfl) href, habort]
    rfl
  · rw [exec_taken rfl hs]
    have hnone : s.dev.slotRefusal i false isLoading = none :=
      Device.slotRefusal_of_allowed (.inr (by simp [hstate])) href (by simp [hstate, isLoading])
    simp only [takeOrder, takeSealSlot, fourOf_slotByte, hnone, hidle]
    rfl

/-- Settles O7, by `exec_changeSlot` for each of the four writes. -/
theorem slotWritesTaken : Obligations.SlotWritesTaken := by
  intro tag i s hs href hstate
  have hrange : ∀ {start count carried size most : Nat}, entriesInRange start count carried size most = true →
      (rangeOk start count size most && decide (carried = count)) = true := (rangeOk_entries _ _ _ _ _).trans
  refine ⟨fun h => ?_, fun start count es hr => ?_, fun start count es hr => ?_, fun start count es hr => ?_⟩
  · exact (exec_changeSlot (c := .writeHeader tag (slotByte i) h) hs rfl rfl rfl href hstate (by decide) :)
  · exact (exec_changeSlot (c := .writeFiducials tag (slotByte i) start count es) hs rfl rfl (hrange hr) href hstate
      (by decide) :)
  · exact (exec_changeSlot (c := .writeJoints tag (slotByte i) start count es) hs rfl rfl (hrange hr) href hstate
      (by decide) :)
  · exact (exec_changeSlot (c := .writeRules tag (slotByte i) start count es) hs rfl rfl (hrange hr) href hstate
      (by decide) :)

/-- How the orders of `slotChange` are refused: outside their ranges, and by the slot's state (R2). -/
theorem slotChange_refusals {c : Instr} {tag code slot : Byte} {st : SlotState} {ok : Bool}
    (h : slotChange c = some (tag, code, slot, st, ok)) : ∃ o, orderOf c = some (tag, o) ∧
      (∀ d : Device, 3 < slot.toNat ∨ ok = false → takeOrder tag o d = d.reply tag code .refusedRange []) ∧
      ∀ (d : Device) (i : Fin 4) (r : ReplyCode), slot = slotByte i → ok = true →
        d.slotRefusal i false (fun x => decide (x = st)) = some r → takeOrder tag o d = d.reply tag code r [] := by
  have hchange : ∀ {o : Order} {inRange : Bool} {effect : Slot → Slot}, orderOf c = some (tag, o) → inRange = ok →
      slotEffect o = some (code, slot, inRange, st, effect) →
      ∃ o, orderOf c = some (tag, o) ∧
        (∀ d : Device, 3 < slot.toNat ∨ ok = false → takeOrder tag o d = d.reply tag code .refusedRange []) ∧
        ∀ (d : Device) (i : Fin 4) (r : ReplyCode), slot = slotByte i → ok = true →
          d.slotRefusal i false (fun x => decide (x = st)) = some r → takeOrder tag o d = d.reply tag code r [] := by
    rintro o inRange effect ho rfl he
    have ht := takeOrder_slotEffect he tag
    refine ⟨o, ho, fun d hd => (ht d).trans (d.changeSlot_of_range tag code hd _ _), ?_⟩
    rintro d i r rfl rfl hr
    exact (ht d).trans (Device.changeSlot_of_refusal hr tag code _)
  cases c with
  | openSlot => cases h; exact hchange rfl rfl rfl
  | writeHeader => cases h; exact hchange rfl rfl rfl
  | writeFiducials => cases h; exact hchange rfl (rangeOk_entries _ _ _ _ _) rfl
  | writeJoints => cases h; exact hchange rfl (rangeOk_entries _ _ _ _ _) rfl
  | writeRules => cases h; exact hchange rfl (rangeOk_entries _ _ _ _ _) rfl
  | unsealSlot => cases h; exact hchange rfl rfl rfl
  | sealSlot =>
    cases h
    refine ⟨_, rfl, fun d hd => ?_, ?_⟩
    · simp only [takeOrder, takeSealSlot, fourOf_above slot (hd.resolve_right nofun)]
    · rintro d i r rfl - hr
      have hr : d.slotRefusal i false isLoading = some r := hr
      simp only [takeOrder, takeSealSlot, fourOf_slotByte, hr]
  | _ => cases h

/-- Settles O10, by `slotChange_refusals` and the cases of `Device.slotRefusal`. -/
theorem slotChangesRefused : Obligations.SlotChangesRefused := by
  intro c tag code slot st ok s hs hc
  obtain ⟨o, ho, hrange, hrefused⟩ := slotChange_refusals hc
  refine ⟨fun h => exec_answers hs ho (hrange _ h), fun i hslot hok => ⟨fun hbusy => ?_, fun hfree href => ?_,
    fun hfree href hstate => ?_⟩⟩
  · exact exec_answers hs ho (hrefused _ i _ hslot hok (Device.slotRefusal_of_validating hbusy _))
  · exact exec_answers hs ho (hrefused _ i _ hslot hok (Device.slotRefusal_of_referenced (.inr hfree) href _))
  · exact exec_answers hs ho (hrefused _ i _ hslot hok
      (Device.slotRefusal_of_state hfree href (decide_eq_false hstate)))

/-! ## Binding (section 1.7) -/

theorem Lane.bind_of_takesAtOnce {L : Lane} (h : L.mode = .off ∨ (L.mode = .standby ∧ L.live = [])) (i : Fin 4) :
    L.bind i = { L with active := some i, pendingRecipe := none } := by
  have : ({ L with pendingRecipe := some i } : Lane).takesAtOnce = true := by simpa [Lane.takesAtOnce] using h
  simp only [Lane.bind, this, if_true, Lane.takeRecipe]

theorem Lane.bind_of_waits {L : Lane} (h : ¬ (L.mode = .off ∨ (L.mode = .standby ∧ L.live = []))) (i : Fin 4) :
    L.bind i = { L with pendingRecipe := some i } := by
  have : ({ L with pendingRecipe := some i } : Lane).takesAtOnce = false := by
    simpa [Lane.takesAtOnce] using h
  simp only [Lane.bind, this, Bool.false_eq_true, if_false]

/-- Settles O14, by `Lane.bind_of_takesAtOnce` and `Lane.bind_of_waits`. -/
theorem bindRecipeTaken : Obligations.BindRecipeTaken := by
  intro tag l i s hs
  have htake : takeOrder tag (.bindRecipe (laneByte l) (slotByte i)) s.dev =
      match (s.dev.slot i).state with
      | .validating => s.dev.reply tag 0x1C .refusedBusy []
      | .empty | .loading => s.dev.reply tag 0x1C .refusedState []
      | .sealed => (s.dev.modLane l (fun L => L.bind i)).reply tag 0x1C .done [] := by
    simp only [takeOrder, takeBindRecipe, laneOf_laneByte, fourOf_slotByte, if_neg (slotByte_ne_none i)] <;> rfl
  refine ⟨fun hstate hnow => ?_, fun hstate hlater => ?_, ?_, fun hstate => ?_, fun hstate => ?_⟩
  · refine exec_answers hs rfl ?_
    rw [htake, hstate]
    exact congrArg (fun L => (s.dev.setLane l L).reply tag 0x1C .done []) (Lane.bind_of_takesAtOnce hnow i)
  · refine exec_answers hs rfl ?_
    rw [htake, hstate]
    exact congrArg (fun L => (s.dev.setLane l L).reply tag 0x1C .done []) (Lane.bind_of_waits hlater i)
  · refine exec_answers hs rfl ?_
    simp only [takeOrder, takeBindRecipe, laneOf_laneByte]
    rfl
  · refine exec_answers hs rfl ?_
    rw [htake, hstate]
  · refine exec_answers hs rfl ?_
    rw [htake]
    rcases hstate with hstate | hstate <;> rw [hstate]

end Sys2Proof.Machine

/-! # Orders answered: operands out of range, and the orders that configure or read (chapters 1 to 3, 7 and 8) -/

namespace Sys2Proof.Machine

/-! ## What an operand's byte names (R186) -/

theorem laneOf_above (b : Byte) (h : 1 < b.toNat) : laneOf b = none := by revert b; decide
theorem portOf_above (b : Byte) (h : 3 < b.toNat) : portOf b = none := by revert b; decide
theorem injectionModeOf_above (b : Byte) (h : 3 < b.toNat) : injectionModeOf b = none := by revert b; decide
theorem reportModeOf_above (b : Byte) (h : 3 < b.toNat) : reportModeOf b = none := by revert b; decide
theorem reportDetailOf_above (b : Byte) (h : 1 < b.toNat) : reportDetailOf b = none := by revert b; decide
theorem gateModeOf_above (b : Byte) (h : 3 < b.toNat) : gateModeOf b = none := by revert b; decide
theorem overrideOf_above (b : Byte) (h : 2 < b.toNat) : overrideOf b = none := by revert b; decide
theorem faultKindOf_above (b : Byte) (h : 5 < b.toNat) : faultKindOf b = none := by revert b; decide
theorem markOf_above (b : Byte) (h : 1 < b.toNat) : markOf b = none := by revert b; decide

theorem reportModeOf_code {b : Byte} {m : ReportMode} (h : b.toNat = reportModeCode m) : reportModeOf b = some m := by
  obtain rfl : b = BitVec.ofNat 8 (reportModeCode m) := by rw [← h]; simp
  cases m <;> rfl

theorem reportDetailOf_code {b : Byte} {x : ReportDetail} (h : b.toNat = reportDetailCode x) :
    reportDetailOf b = some x := by
  obtain rfl : b = BitVec.ofNat 8 (reportDetailCode x) := by rw [← h]; simp
  cases x <;> rfl

theorem gateModeOf_code {b : Byte} {m : GateMode} (h : b.toNat = gateModeCode m) : gateModeOf b = some m := by
  obtain rfl : b = BitVec.ofNat 8 (gateModeCode m) := by rw [← h]; simp
  cases m <;> rfl

theorem overrideOf_code {b : Byte} {o : Override} (h : b.toNat = overrideCode o) : overrideOf b = some o := by
  obtain rfl : b = BitVec.ofNat 8 (overrideCode o) := by rw [← h]; simp
  cases o <;> rfl

theorem markOf_code {b : Byte} {x : Bool} (h : b.toNat = boolCode x) : markOf b = some x := by
  obtain rfl : b = BitVec.ofNat 8 (boolCode x) := by rw [← h]; simp
  cases x <;> rfl

/-! ## Orders refused for an operand (R186) -/

theorem rangeOk_count (start count size most : Nat) :
    rangeOk start count size most = entriesInRange start count count size most := by
  rw [← rangeOk_entries]; simp

theorem Device.onLane_above (d : Device) (tag code : Byte) {lane : Byte} (h : 1 < lane.toNat) (f : LaneId → Device) :
    d.onLane tag code lane f = d.reply tag code .refusedRange [] := by
  simp only [Device.onLane, laneOf_above lane h]

@[simp] theorem Device.onLane_laneByte (d : Device) (tag code : Byte) (l : LaneId) (f : LaneId → Device) :
    d.onLane tag code (laneByte l) f = f l := by
  simp only [Device.onLane, laneOf_laneByte]

theorem Device.readEntries_of_range (d : Device) (tag code : Byte) {slot : Byte} {inRange : Bool}
    (h : 3 < slot.toNat ∨ inRange = false) (record : Slot → List Byte) :
    d.readEntries tag code slot inRange record = d.reply tag code .refusedRange [] := by
  unfold Device.readEntries
  split
  · next i hi =>
    rcases h with h | h
    · simp [fourOf_above slot h] at hi
    · cases h
  · rfl

/-- The ranges of R64 as the meanings test them and as the statements write them. -/
theorem patternRange_entries (offset count : Word16) (carried : Nat) :
    (patternRange offset count && decide (carried = count.toNat)) =
      entriesInRange offset.toNat count.toNat carried 2048 256 := by
  simp only [entriesInRange, patternRange]; rw [Bool.eq_iff_iff]; simp; omega

theorem patternRange_count (offset count : Word16) :
    patternRange offset count = entriesInRange offset.toNat count.toNat count.toNat 2048 256 := by
  rw [← patternRange_entries]; simp

/-- An order refused for its operands whenever the test on them holds. -/
theorem refused_of_ite {c : Instr} {t k tag code : Byte} {o : Order} {P : Prop} [Decidable P]
    (ho : orderOf c = some (t, o)) (h : (if P then some (t, k) else none) = some (tag, code))
    (hr : P → ∀ d : Device, takeOrder t o d = d.reply t k .refusedRange []) :
    ∃ o, orderOf c = some (tag, o) ∧ ∀ d : Device, takeOrder tag o d = d.reply tag code .refusedRange [] := by
  obtain ⟨hP, h⟩ := Option.ite_none_right_eq_some.mp h
  cases h
  exact ⟨o, ho, hr hP⟩

/-- How the operands of `badOperand` are refused. -/
theorem badOperand_refused {c : Instr} {tag code : Byte} (h : badOperand c = some (tag, code)) :
    ∃ o, orderOf c = some (tag, o) ∧ ∀ d : Device, takeOrder tag o d = d.reply tag code .refusedRange [] := by
  cases c with
  | eraseSlot => exact refused_of_ite rfl h fun hb d => by simp only [takeOrder, takeEraseSlot, fourOf_above _ hb]
  | readSlot => exact refused_of_ite rfl h fun hb d => by simp only [takeOrder, takeReadSlot, fourOf_above _ hb]
  | readFiducials | readJoints | readRules =>
    refine refused_of_ite rfl h fun hb d => ?_
    rw [← rangeOk_count] at hb
    simp only [takeOrder, takeReadFiducials, takeReadJoints, takeReadRules, d.readEntries_of_range _ _ hb]
  | bindRecipe _ lane slot =>
    refine refused_of_ite rfl h fun hb d => ?_
    simp only [takeOrder, takeBindRecipe]
    split
    · rfl
    · next l hl =>
      obtain ⟨hslot, hnone⟩ := hb.resolve_left (fun hb => by simp [laneOf_above lane hb] at hl)
      rw [if_neg (by rintro rfl; simp at hnone)]
      simp only [fourOf_above slot hslot]
  | configureLane =>
    exact refused_of_ite rfl h fun hb d => by simp only [takeOrder, takeConfigureLane, laneOf_above _ hb]
  | configurePort =>
    exact refused_of_ite rfl h fun hb d => by simp only [takeOrder, takeConfigurePort, portOf_above _ hb]
  | loadPattern _ port offset count pixels =>
    refine refused_of_ite rfl h fun hb d => ?_
    simp only [takeOrder, takeLoadPattern]
    split
    · rfl
    · next p hp =>
      have hr := hb.resolve_left (fun hb => by simp [portOf_above port hb] at hp)
      rw [patternRange_entries, hr]
      rfl
  | readPattern _ port offset count =>
    refine refused_of_ite rfl h fun hb d => ?_
    simp only [takeOrder, takeReadPattern]
    split
    · rfl
    · next p hp =>
      have hr := hb.resolve_left (fun hb => by simp [portOf_above port hb] at hp)
      rw [patternRange_count, hr]
      rfl
  | setInjection =>
    refine refused_of_ite rfl h fun hb d => ?_
    simp only [takeOrder, takeSetInjection]
    split
    · next p m hp hm =>
      rcases hb with hb | hb
      · simp [portOf_above _ hb] at hp
      · simp [injectionModeOf_above _ hb] at hm
    · rfl
  | readPort => exact refused_of_ite rfl h fun hb d => by simp only [takeOrder, takeReadPort, portOf_above _ hb]
  | readWindows _ lane start count =>
    refine refused_of_ite rfl h fun hb d => ?_
    simp only [takeOrder, takeReadWindows]
    split
    · rfl
    · next l hl =>
      refine if_neg fun ⟨hstart, hone, hmost⟩ => ?_
      rcases hb.resolve_left (fun hb => by simp [laneOf_above lane hb] at hl) with hb | rfl | hb
      · omega
      · cases hone
      · omega
  | setReportMode =>
    refine refused_of_ite rfl h fun hb d => ?_
    simp only [takeOrder, takeSetReportMode]
    split
    · next l m x hl hm hx =>
      rcases hb with hb | hb | hb
      · simp [laneOf_above _ hb] at hl
      · simp [reportModeOf_above _ hb] at hm
      · simp [reportDetailOf_above _ hb] at hx
    · rfl
  | enableLane | armLane | disableLane | readLane | releaseForce | readGate =>
    exact refused_of_ite rfl h fun hb d => d.onLane_above _ _ hb _
  | readPanel =>
    refine refused_of_ite rfl h fun hb d => ?_
    simp only [takeOrder, takeReadPanel]
    rcases hb with hb | hb
    · exact d.onLane_above _ _ hb _
    · simp only [fourOf_above _ hb]
      unfold Device.onLane
      split <;> rfl
  | setGateMode =>
    refine refused_of_ite rfl h fun hb d => ?_
    simp only [takeOrder, takeSetGateMode]
    split
    · next l m hl hm =>
      rcases hb with hb | hb
      · simp [laneOf_above _ hb] at hl
      · simp [gateModeOf_above _ hb] at hm
    · rfl
  | setFaultResponse =>
    refine refused_of_ite rfl h fun hb d => ?_
    simp only [takeOrder, takeSetFaultResponse]
    split
    · next l k o x hl hk ho hx =>
      rcases hb with hb | hb | hb | hb
      · simp [laneOf_above _ hb] at hl
      · simp [faultKindOf_above _ hb] at hk
      · simp [overrideOf_above _ hb] at ho
      · simp [markOf_above _ hb] at hx
    · rfl
  | _ => cases h

/-- Settles O11, by `badOperand_refused`. -/
theorem outOfRangeRefused : Obligations.OutOfRangeRefused := by
  intro c tag code s hs hc
  obtain ⟨o, ho, ht⟩ := badOperand_refused hc
  exact exec_answers hs ho (ht s.dev)

/-! ## Lane settings and the report mode (R46, R118) -/

theorem settingsInRange_iff (x : LaneSettings) : settingsInRange x = true ↔
    1 ≤ x.reverseLimit.toNat ∧ x.reverseLimit.toNat ≤ 4095 ∧ 1 ≤ x.gateDistance.toNat ∧ x.warmupTime.toNat ≤ 4095 ∧
      1 ≤ x.settleReload.toNat := by
  simp [settingsInRange, and_assoc]

/-- Settles O23, by the branches of the two orders' meanings. -/
theorem laneConfigurationAnswered : Obligations.LaneConfigurationAnswered := by
  intro tag l s hs
  refine ⟨fun x => ?_, fun mode detail => ⟨fun m x hm hx => ?_, fun hbad => ?_⟩⟩
  · have htake : takeOrder tag (.configureLane (laneByte l) x) s.dev =
        match settingsInRange x with
        | true =>
          if (s.dev.lane l).mode = .off then
            (s.dev.modLane l (fun L => { L with settings := x })).reply tag 0x20 .done []
          else s.dev.reply tag 0x20 .refusedState []
        | false => s.dev.reply tag 0x20 .refusedRange [] := by
      simp only [takeOrder, takeConfigureLane, laneOf_laneByte]
      cases settingsInRange x <;> rfl
    refine ⟨fun hout => ?_, fun hin hmode => ?_, fun hin hmode => ?_⟩
    · refine exec_answers hs rfl ?_
      rw [htake, Bool.eq_false_iff.mpr (fun h => hout ((settingsInRange_iff x).mp h))]
    · refine exec_answers hs rfl ?_
      rw [htake, (settingsInRange_iff x).mpr hin]
      exact if_neg hmode
    · refine exec_answers hs rfl ?_
      rw [htake, (settingsInRange_iff x).mpr hin]
      exact if_pos hmode
  · refine exec_answers hs rfl ?_
    simp only [takeOrder, takeSetReportMode, laneOf_laneByte, reportModeOf_code hm, reportDetailOf_code hx]
    rfl
  · exact outOfRangeRefused _ _ _ s hs (if_pos (.inr hbad))

/-! ## The orders of a port (R57, R64, R65, R68) -/

theorem injectionRange_iff (m : InjectionMode) (n : Word16) : injectionRange m n = true ↔
    ¬ ((m = .oneShot ∧ n = 65535) ∨ (m = .periodic ∧ n = 0)) := by
  have hmax : n = 65535 ↔ n.toNat = 65535 := by rw [← BitVec.toNat_inj]; rfl
  have hzero : n = 0 ↔ n.toNat = 0 := by rw [← BitVec.toNat_inj]; rfl
  have hlt : n.toNat < 65536 := n.isLt
  rw [hmax, hzero]
  cases m <;> simp only [injectionRange, decide_eq_true_eq, reduceCtorEq, false_and, true_and, or_false, false_or,
    not_false_eq_true]
  all_goals omega

/-- Settles O28, by the branches of the two orders' meanings. -/
theorem portOrdersAnswered : Obligations.PortOrdersAnswered := by
  intro tag p s hs
  refine ⟨fun noise check => ?_, fun mode m n hm => ?_⟩
  · have htake := exec_taken (c := .configurePort tag (portByte p) noise check) rfl hs
    simp only [takeOrder, takeConfigurePort, portOf_portByte] at htake
    rw [htake]
    split <;> rfl
  · have htake := exec_taken (c := .setInjection tag (portByte p) mode n) rfl hs
    simp only [takeOrder, takeSetInjection, portOf_portByte, hm] at htake
    rw [htake, apply_ite (becomes s)]
    by_cases h : (m = .oneShot ∧ n = 65535) ∨ (m = .periodic ∧ n = 0)
    · rw [if_pos h, if_neg (fun hr => (injectionRange_iff m n).mp hr h)]
      rfl
    · rw [if_neg h, if_pos ((injectionRange_iff m n).mpr h)]
      rfl

/-- A list of bytes is sent as it stands, behind its count. -/
theorem counted_bytes (bs : List Byte) : counted (fun b => [b]) bs = be 2 bs.length ++ bs := by
  rw [counted_eq, List.flatMap_singleton']

theorem entryBytes_eq (e : Entry) : entryBytes e =
    be 2 e.lineTag.toNat ++ [e.phase.code, if e.kind = .triggered then 0 else 1] ++ be 2 e.seq.toNat ++ be 2 e.line := by
  cases h : e.kind <;> simp [entryBytes, h, code1_eq]

theorem portByte_eq (p : PortId) : portByte p = BitVec.ofNat 8 (portCode p) := by
  rcases p with ⟨l, q⟩; cases l <;> cases q <;> rfl

/-- Settles O29, by the field functions of a record and the branches of the pattern orders. -/
theorem patternOrdersAnswered : Obligations.PatternOrdersAnswered := by
  intro tag p offset count s hs
  refine ⟨?_, ?_, fun h1 h2 h3 h4 => ⟨?_, fun pixels hlen => ⟨fun hmode => ?_, fun hmode => ?_⟩⟩⟩
  · refine exec_answers hs rfl ?_
    simp only [takeOrder, takeReadPort, portOf_portByte]
  · have hheld : Machine.optional 3 (fun e : Entry => be 2 e.lineTag.toNat ++ [e.phase.code])
        (s.dev.port p).held.head? =
        match (s.dev.port p).held with
        | [] => [0, 0, 0, 0]
        | e :: _ => [1] ++ be 2 e.lineTag.toNat ++ [e.phase.code] := by
      cases (s.dev.port p).held <;> simp [optional_none, optional_some, List.replicate_succ]
    simp only [portRecord, hheld, code1_eq, mark_eq, counted_eq, targetBytes_eq, funext entryBytes_eq, portByte_eq,
      List.append_assoc, List.cons_append, List.nil_append] <;> rfl
  · refine exec_answers hs rfl ?_
    have hr : patternRange offset count = true := by simp [patternRange, h1, h2, h3, h4]
    simp only [takeOrder, takeReadPattern, portOf_portByte, hr, if_true, counted_bytes, Memory.readList,
      List.length_map, List.length_range]
  · refine exec_answers hs rfl ?_
    have hr : patternRange offset count = true := by simp [patternRange, h1, h2, h3, h4]
    simp only [takeOrder, takeLoadPattern, portOf_portByte, hr, hlen]
    exact if_pos hmode
  · refine exec_answers hs rfl ?_
    have hr : patternRange offset count = true := by simp [patternRange, h1, h2, h3, h4]
    simp only [takeOrder, takeLoadPattern, portOf_portByte, hr, hlen]
    exact if_neg hmode

/-! ## Lane control and the gate unit (R127, R128, R154, R155, R159) -/

theorem takeEnableLane_laneByte (tag : Byte) (l : LaneId) (d : Device) : takeEnableLane tag (laneByte l) d =
    if (d.lane l).mode = .off then (d.modLane l Lane.enable).reply tag 0x50 .done []
    else d.reply tag 0x50 .refusedState [] := d.onLane_laneByte _ _ _ _

theorem takeArmLane_laneByte (tag : Byte) (l : LaneId) (d : Device) : takeArmLane tag (laneByte l) d =
    if (d.lane l).mode = .off then d.reply tag 0x51 .refusedState []
    else (d.modLane l Lane.arm).reply tag 0x51 .done [] := d.onLane_laneByte _ _ _ _

/-- Arm Lane taken in a lane that is not Off. -/
theorem exec_armLane {tag : Byte} {l : LaneId} {L' : Lane} {s : State} (hs : Taken s) (hmode : (s.dev.lane l).mode ≠ .off)
    (harm : (s.dev.lane l).arm = L') :
    exec (.armLane tag (laneByte l)) s = answers s (withLane s.dev l L') tag 0x51 .done [] := by
  refine exec_answers hs rfl ?_
  subst harm
  exact (takeArmLane_laneByte tag l s.dev).trans (if_neg hmode)

/-- A lane that enters Ready loads its idle timer unless a context waits or the timeout is zero (R45, R130). -/
theorem Lane.enterReady_eq (L : Lane) : L.enterReady =
    { L with mode := .ready, light := .ready,
             idleLeft := if L.settings.idleTimeout ≠ 0 ∧ L.oldestWaiting = none
                         then some (L.settings.idleTimeout.toNat * 1000000) else L.idleLeft } := by
  have hwait : Lane.oldestWaiting { L with mode := .ready, light := .ready } = L.oldestWaiting := rfl
  simp only [Lane.enterReady, Lane.loadIdle, hwait, true_and]
  split <;> rfl

theorem withLane_self (d : Device) (l : LaneId) : withLane d l (d.lane l) = d :=
  congrArg (fun x => { d with lanes := x }) (PerLane.set_get d.lanes l)

/-- Settles O32, by the branches of the two orders' meanings and of `Lane.arm`. -/
theorem laneOrdersAnswered : Obligations.LaneOrdersAnswered := by
  intro tag l s hs
  refine ⟨fun hoff => ⟨?_, ?_⟩, fun hon => ?_, fun hstand hwarm => ?_, fun hstand hwarm => ?_, fun hready hidle => ?_,
    fun hkeep => ?_⟩
  · exact exec_answers hs rfl ((takeEnableLane_laneByte tag l s.dev).trans (if_pos hoff))
  · exact exec_answers hs rfl ((takeArmLane_laneByte tag l s.dev).trans (if_pos hoff))
  · exact exec_answers hs rfl ((takeEnableLane_laneByte tag l s.dev).trans (if_neg hon))
  · refine exec_armLane hs (by simp [hstand]) ?_
    simp only [Lane.arm, hstand, Lane.enterWarming, if_neg hwarm]
  · refine exec_armLane hs (by simp [hstand]) ?_
    simp only [Lane.arm, hstand, Lane.enterWarming, if_pos hwarm, Lane.warmupExpires, Lane.enterReady_eq]
    rfl
  · refine exec_armLane hs (by simp [hready]) ?_
    simp only [Lane.arm, hready, hidle, if_true]
  · have harm : (s.dev.lane l).arm = s.dev.lane l := by
      rcases hkeep with ⟨hmode, hidle⟩ | hmode | hmode <;> simp [Lane.arm, hmode]
      simp [hidle]
    have h := exec_armLane (tag := tag) hs (by rcases hkeep with ⟨h, -⟩ | h | h <;> simp [h]) harm
    rwa [withLane_self] at h

theorem Gate.isForced_iff (g : Gate) : g.isForced = true ↔ g.forced ≠ .none ∨ g.hold = true := by
  simp [Gate.isForced]

theorem takeSetGateMode_laneByte (tag : Byte) (l : LaneId) {mode : Byte} {m : GateMode} (hm : gateModeOf mode = some m)
    (d : Device) : takeSetGateMode tag (laneByte l) mode d =
      if (d.lane l).gate.isForced then (d.raiseDevice .writeRejected).reply tag 0x60 .refusedForced []
      else (d.modLane l (fun L => { L with gate := { L.gate with mode := m } })).reply tag 0x60 .done [] := by
  simp only [takeSetGateMode, laneOf_laneByte, hm]

/-- Settles O45, by the branches of the three orders' meanings. -/
theorem gateOrdersAnswered : Obligations.GateOrdersAnswered := by
  intro tag l s hs
  refine ⟨fun mode m hm => ⟨fun hfree => ?_, fun hforced => ?_⟩, fun kind override hold k o h hk ho hh => ?_, ?_⟩
  · refine exec_answers hs rfl ((takeSetGateMode_laneByte tag l (gateModeOf_code hm) s.dev).trans ?_)
    exact if_neg (fun h => hfree ((Gate.isForced_iff _).mp h))
  · refine exec_answers hs rfl ((takeSetGateMode_laneByte tag l (gateModeOf_code hm) s.dev).trans ?_)
    exact if_pos ((Gate.isForced_iff _).mpr hforced)
  · refine exec_answers hs rfl ?_
    simp only [takeOrder, takeSetFaultResponse, laneOf_laneByte, hk, overrideOf_code ho, markOf_code hh]
    rfl
  · exact exec_answers hs rfl (s.dev.onLane_laneByte _ _ _ _)

/-! ## Reading a slot back (R22, R23) -/

/-- An entry read within its range: refused in Empty, otherwise the entries. -/
theorem exec_readEntries {c : Instr} {tag code : Byte} {o : Order} {i : Fin 4} {inRange : Bool}
    {record : Slot → List Byte} {s : State} (hs : Taken s) (ho : orderOf c = some (tag, o)) (hr : inRange = true)
    (ht : takeOrder tag o s.dev = s.dev.readEntries tag code (slotByte i) inRange record) :
    exec c s = if (s.dev.slot i).state = .empty then answers s s.dev tag code .refusedState []
      else answers s s.dev tag code .done (record (s.dev.slot i)) := by
  rw [exec_taken ho hs, ht, hr]
  simp only [Device.readEntries, fourOf_slotByte]
  split <;> rfl

theorem slotByte_eq (i : Fin 4) : slotByte i = BitVec.ofNat 8 i.val := by revert i; decide

theorem failureBytes_eq (f : Failure) : failureBytes f = [BitVec.ofNat 8 (failTableCode f.table)] ++ be 2 f.index ++
    [BitVec.ofNat 8 (checkCode f.table f.check),
     match f.phase with
     | none => 0
     | some p => p.code] := by
  cases h : f.phase <;> simp [failureBytes, h, code1_eq, phaseField]

/-- The entries of a read, one after the other behind their count. -/
theorem entriesRecord_eq {α : Type} (t : Table α) (zero : α) (bytes : α → List Byte) (start count : Nat)
    {f : Nat → List Byte}
    (h : ∀ k, mark (Table.find t (start + k)).isSome ++ bytes ((Table.find t (start + k)).getD zero) = f k) :
    entriesRecord t zero bytes start count = be 2 count ++ (List.range count).flatMap f := by
  simp only [entriesRecord, counted_eq, List.length_range, h]

/-- The slot record, field by field (R22). -/
theorem slotRecord_eq (d : Device) (i : Fin 4) :
    let x := d.slot i
    let one (b : Bool) : Byte := if b then 1 else 0
    let h := x.header.getD zeroHeader
    let uses (l : LaneId) : Nat := ((d.lane l).live.filter (fun c => decide (c.slot = i))).length
    slotRecord d i =
       [slotByte i, BitVec.ofNat 8 (slotStateCode x.state), one x.header.isSome] ++
         (be 4 h.recipeId.toNat ++ be 2 h.panelLength.toNat ++ be 2 h.zone.toNat ++
           [h.linePitch, h.phaseSet, h.flashTop, h.flashRing, h.flashAxial, h.portSet] ++ be 2 h.jointCount.toNat ++
           be 2 h.fiducialCount.toNat ++ be 2 h.ruleCount.toNat ++ [h.marginalLimit, h.spreadTolerance]) ++
         [one (Table.find x.fiducials 0).isSome, one (Table.find x.fiducials 1).isSome,
          one (Table.find x.fiducials 2).isSome, one (Table.find x.fiducials 3).isSome] ++
         be 2 x.rules.length ++ be 2 x.joints.length ++
         [one (decide ((d.lane .a).active = some i)), one (decide ((d.lane .a).pendingRecipe = some i)),
          one (decide ((d.lane .b).active = some i)), one (decide ((d.lane .b).pendingRecipe = some i))] ++
         be 2 (uses .a) ++ be 2 (uses .b) ++
         (match x.lastFailure with
          | none => [0, 0, 0, 0, 0, 0]
          | some f => 1 :: failureBytes f) := by
  have hfail : Machine.optional 5 failureBytes (d.slot i).lastFailure =
      match (d.slot i).lastFailure with
      | none => [0, 0, 0, 0, 0, 0]
      | some f => 1 :: failureBytes f := by
    cases (d.slot i).lastFailure with
    | none => rfl
    | some f => rw [optional_some]
  simp only [slotRecord, hfail, headerBytes, code1_eq, mark_eq, slotByte_eq, List.append_assoc, List.cons_append,
    List.nil_append]
  rfl

/-- Settles O12, by `exec_readEntries` and the field functions of a record. -/
theorem slotReadsAnswered : Obligations.SlotReadsAnswered := by
  intro tag i s hs
  have hread : ∀ {start count size most : Nat}, entriesInRange start count count size most = true →
      rangeOk start count size most = true := (rangeOk_count _ _ _ _).trans
  have hfid := fun (start count : Byte) (h : entriesInRange start.toNat count.toNat count.toNat 4 4 = true) =>
    exec_readEntries (c := .readFiducials tag (slotByte i) start count) (i := i) (code := 0x19)
      (record := fun x => entriesRecord x.fiducials zeroFiducialEntry fiducialBytes start.toNat count.toNat) hs rfl (hread h) rfl
  have hjoint := fun (start : Word16) (count : Byte)
      (h : entriesInRange start.toNat count.toNat count.toNat 8192 32 = true) =>
    exec_readEntries (c := .readJoints tag (slotByte i) start count) (i := i) (code := 0x1A)
      (record := fun x => entriesRecord x.joints zeroJointEntry jointBytes start.toNat count.toNat) hs rfl (hread h) rfl
  have hrule := fun (start count : Byte) (h : entriesInRange start.toNat count.toNat count.toNat 64 8 = true) =>
    exec_readEntries (c := .readRules tag (slotByte i) start count) (i := i) (code := 0x1B)
      (record := fun x => entriesRecord x.rules zeroRuleEntry ruleBytes start.toNat count.toNat) hs rfl (hread h) rfl
  refine ⟨?_, fun hempty => ⟨?_, ?_, ?_⟩, fun hfull => ⟨?_, ?_, ?_⟩, slotRecord_eq s.dev i, failureBytes_eq,
    fun start count => ⟨?_, ?_, ?_⟩⟩
  · refine exec_answers hs rfl ?_
    simp only [takeOrder, takeReadSlot, fourOf_slotByte]
  · exact fun start count h => (hfid start count h).trans (if_pos hempty)
  · exact fun start count h => (hjoint start count h).trans (if_pos hempty)
  · exact fun start count h => (hrule start count h).trans (if_pos hempty)
  · exact fun start count h => (hfid start count h).trans (if_neg hfull)
  · exact fun start count h => (hjoint start count h).trans (if_neg hfull)
  · exact fun start count h => (hrule start count h).trans (if_neg hfull)
  · refine entriesRecord_eq _ _ _ _ _ fun k => ?_
    cases Table.find (s.dev.slots.get i).fiducials (start + k) with
    | none => rfl
    | some e => simp [mark_eq, fiducialBytes]
  · refine entriesRecord_eq _ _ _ _ _ fun k => ?_
    cases Table.find (s.dev.slots.get i).joints (start + k) with
    | none => rfl
    | some e => simp [mark_eq, jointBytes]
  · refine entriesRecord_eq _ _ _ _ _ fun k => ?_
    cases Table.find (s.dev.slots.get i).rules (start + k) with
    | none => rfl
    | some e => simp [mark_eq, ruleBytes, criteriaBytes, ruleCriteria]

end Sys2Proof.Machine

/-! # What is written is read back, and what validation passes (sections 1.3 and 1.4) -/

namespace Sys2Proof.Machine

/-! ## Writes read back (R8, R10, R64, R101) -/

theorem Table.find_putList {α : Type} : ∀ (es : List α) (t : Table α) (start i : Nat),
    Table.find (Table.putList t start es) i =
      if start ≤ i ∧ i < start + es.length then es[i - start]? else Table.find t i
  | [], t, start, i => by
    rw [if_neg (by simp)]
    rfl
  | e :: es, t, start, i => by
    rw [Table.putList, Table.find_putList es, Table.find_put]
    rcases Nat.lt_trichotomy i start with h | rfl | h
    · rw [if_neg (by omega), if_neg (by omega), if_neg (by simp; omega)]
    · simp
    · obtain ⟨k, rfl⟩ : ∃ k, i = start + 1 + k := ⟨i - (start + 1), by omega⟩
      have hk : start + 1 + k - start = k + 1 := by omega
      rw [if_neg (show ¬ start + 1 + k = start by omega), hk]
      simp only [List.length_cons, List.getElem?_cons_succ, Nat.add_sub_cancel_left]
      exact if_congr (by omega) rfl rfl

theorem Memory.read_writeList : ∀ (px : List Byte) (m : Memory) (start a : Nat), m.wf = true →
    (m.writeList start px).read a = if start ≤ a then (px[a - start]?).getD (m.read a) else m.read a
  | [], m, start, a, _ => by simp [Memory.writeList]
  | b :: px, m, start, a, hm => by
    rw [Memory.writeList, Memory.read_writeList px _ _ _ (Memory.write_wf start b hm), Memory.read_write start a b hm]
    rcases Nat.lt_trichotomy a start with h | rfl | h
    · rw [if_neg (by omega), if_neg (by omega), if_neg (by omega)]
    · simp
    · obtain ⟨k, rfl⟩ : ∃ k, a = start + 1 + k := ⟨a - (start + 1), by omega⟩
      have hk : start + 1 + k - start = k + 1 := by omega
      rw [if_neg (show ¬ start + 1 + k = start by omega), if_pos (by omega), if_pos (by omega), hk]
      simp

/-- Settles O8, by `Table.find_putList` and `Memory.read_writeList`. -/
theorem writesAreReadBack : Obligations.WritesAreReadBack :=
  ⟨fun _ t start i es _ => Table.find_putList es t start i, fun m start a px hm => Memory.read_writeList px m start a hm⟩

/-! ## The walk of a validation (R12) -/

/-- The rows of a table as failure details of one entry. -/
def labelled (t : FailTable) (index : Nat) (rows : List CheckRow) : List (Failure × Bool) :=
  rows.map (fun r => ({ table := t, index := index, check := r.1, phase := r.2.1 }, r.2.2))

theorem firstFailure_eq (t : FailTable) (index : Nat) (rows : List CheckRow) :
    firstFailure t index rows = ((labelled t index rows).find? (fun c => c.2)).map (fun c => c.1) := by
  simp only [firstFailure, labelled, List.find?_map, Option.map_map]
  rfl

theorem findSome_firstFailure (t : FailTable) (rows : Nat → List CheckRow) (is : List Nat) :
    (is.findSome? fun i => firstFailure t i (rows i)) =
      ((is.flatMap fun i => labelled t i (rows i)).find? (fun c => c.2)).map (fun c => c.1) := by
  rw [List.find?_flatMap, List.map_findSome?]
  exact congrArg (List.findSome? · is) (funext fun i => firstFailure_eq t i (rows i))

/-- Every check of a recipe in the order of the walk. -/
def recipeChecks (x : Slot) : List (Failure × Bool) :=
  labelled .header 0 (headerRows x.header) ++
    (List.range x.hdr.fiducialCount.toNat).flatMap
      (fun i => labelled .fiducial i (fiducialRows x.hdr (Table.find x.fiducials i))) ++
    (List.range x.hdr.ruleCount.toNat).flatMap (fun i => labelled .rule i (ruleRows (Table.find x.rules i))) ++
    (List.range x.hdr.jointCount.toNat).flatMap
      (fun i => labelled .joint i (jointRows x (entryBelow x i) (Table.find x.joints i)))

theorem validate_eq (x : Slot) : validate x = ((recipeChecks x).find? (fun c => c.2)).map (fun c => c.1) := by
  simp only [validate, findSome_firstFailure]
  simp only [firstFailure_eq, recipeChecks, List.find?_append, Option.map_or, Option.orElse_eq_or, Option.or_assoc]

/-- What a recipe that passes has: no row of the four tables fails. -/
theorem rows_of_validate_none {x : Slot} (h : validate x = none) :
    (∀ r ∈ headerRows x.header, r.2.2 = false) ∧
    (∀ i < x.hdr.fiducialCount.toNat, ∀ r ∈ fiducialRows x.hdr (Table.find x.fiducials i), r.2.2 = false) ∧
    (∀ i < x.hdr.ruleCount.toNat, ∀ r ∈ ruleRows (Table.find x.rules i), r.2.2 = false) ∧
    (∀ i < x.hdr.jointCount.toNat, ∀ r ∈ jointRows x (entryBelow x i) (Table.find x.joints i), r.2.2 = false) := by
  rw [validate_eq, Option.map_eq_none_iff, List.find?_eq_none] at h
  simp only [recipeChecks, List.mem_append, List.mem_flatMap, List.mem_range, labelled, List.mem_map, Bool.not_eq_true] at h
  refine ⟨fun r hr => ?_, fun i hi r hr => ?_, fun i hi r hr => ?_, fun i hi r hr => ?_⟩
  · exact h _ (.inl (.inl (.inl ⟨r, hr, rfl⟩)))
  · exact h _ (.inl (.inl (.inr ⟨i, hi, r, hr, rfl⟩)))
  · exact h _ (.inl (.inr ⟨i, hi, r, hr, rfl⟩))
  · exact h _ (.inr ⟨i, hi, r, hr, rfl⟩)

/-! ## The rows of Tables 1-5 to 1-8, each failing where what a passing entry has does not hold -/

theorem isNone_eq_decide {α : Type} (o : Option α) [Decidable (o = none)] : o.isNone = decide (o = none) := by
  cases o <;> simp

theorem outside_eq (lo hi x : Nat) : outside lo hi x = decide (¬ (lo ≤ x ∧ x ≤ hi)) := by
  rw [Bool.eq_iff_iff]
  simp only [outside, Bool.or_eq_true, decide_eq_true_eq]
  omega

theorem outside_or (lo hi x y : Nat) :
    (outside lo hi x || outside lo hi y) = decide (¬ (lo ≤ x ∧ x ≤ hi ∧ lo ≤ y ∧ y ≤ hi)) := by
  rw [Bool.eq_iff_iff]
  simp only [outside, Bool.or_eq_true, decide_eq_true_eq]
  omega

theorem outside_byte (b : Byte) : outside 1 255 b.toNat = decide (b = 0) := by
  have hzero : b = 0 ↔ b.toNat = 0 := by rw [← BitVec.toNat_inj]; rfl
  have hlt : b.toNat < 256 := b.isLt
  rw [Bool.eq_iff_iff]
  simp only [outside, Bool.or_eq_true, decide_eq_true_eq, hzero]
  omega

theorem outside_word (w : Word16) : outside 256 65535 w.toNat = decide (w.toNat < 256) := by
  have hlt : w.toNat < 65536 := w.isLt
  rw [Bool.eq_iff_iff]
  simp only [outside, Bool.or_eq_true, decide_eq_true_eq]
  omega

theorem zero_or_above (b : Byte) (hi : Nat) :
    (decide (b = 0) || decide (hi < b.toNat)) = decide (¬ (1 ≤ b.toNat ∧ b.toNat ≤ hi)) := by
  have hzero : b = 0 ↔ b.toNat = 0 := by rw [← BitVec.toNat_inj]; rfl
  rw [Bool.eq_iff_iff]
  simp only [Bool.or_eq_true, decide_eq_true_eq, hzero]
  omega

theorem badPort_eq (h : Header) (b : Byte) :
    badPort h b = !((b = 0 && portIn h.portSet .p0) || (b = 1 && portIn h.portSet .p1)) := by
  by_cases h0 : b = 0
  · simp [badPort, localPortOf, h0]
  · by_cases h1 : b = 1
    · simp [badPort, localPortOf, h1]
    · simp only [badPort, localPortOf, if_neg h0, if_neg h1, decide_eq_false h0, decide_eq_false h1, Bool.false_and,
        Bool.or_self, Bool.not_false]

theorem headerRows_eq (o : Option Header) : headerRows o =
    let h := o.getD zeroHeader
    [(.unwritten, none, decide (o = none)),
     (.panelLength, none, decide (h.panelLength.toNat < 256)),
     (.zoneSize, none, decide (¬ (64 ≤ h.zone.toNat ∧ h.zone.toNat ≤ 4095))),
     (.zoneFit, none, decide (h.panelLength.toNat < h.zone.toNat + 196)),
     (.linePitch, none, decide (h.linePitch = 0)),
     (.phaseSet, none, decide (¬ (1 ≤ h.phaseSet.toNat ∧ h.phaseSet.toNat ≤ 7)))] ++
    ((phasesOf h.phaseSet).map fun p => (.flashTime, some p, decide ((flashTimes h).get p = 0))) ++
    [(.portSet, none, decide (¬ (1 ≤ h.portSet.toNat ∧ h.portSet.toNat ≤ 3))),
     (.jointCount, none, decide (¬ (1 ≤ h.jointCount.toNat ∧ h.jointCount.toNat ≤ 8192))),
     (.fiducialCount, none, decide (¬ (2 ≤ h.fiducialCount.toNat ∧ h.fiducialCount.toNat ≤ 4))),
     (.ruleCount, none, decide (¬ (1 ≤ h.ruleCount.toNat ∧ h.ruleCount.toNat ≤ 64))),
     (.spreadTolerance, none, decide (15 < h.spreadTolerance.toNat))] := by
  simp only [headerRows, isNone_eq_decide, outside_word, outside_byte, zero_or_above]
  simp only [outside_eq, Nat.zero_le, true_and, not_le]

theorem fiducialRows_eq (h : Header) (o : Option FiducialEntry) : fiducialRows h o =
    let e := o.getD zeroFiducialEntry
    let col : Int := (e.column.toNat : Int) - (e.width.toNat / 2 : Nat)
    let line : Int := (e.line.toNat : Int) - (e.height.toNat / 2 : Nat)
    [(.unwritten, none, decide (o = none)),
     (.port, none, badPort h e.port),
     (.phase, phaseOfCode e.phase, (phaseOfCode e.phase).all (fun p => !phaseIn h.phaseSet p)),
     (.boxSize, none, decide (¬ (16 ≤ e.width.toNat ∧ e.width.toNat ≤ 128 ∧ 16 ≤ e.height.toNat ∧
       e.height.toNat ≤ 128))),
     (.boxPlace, none, decide (¬ (0 ≤ col ∧ col + e.width.toNat ≤ 2048 ∧ 0 ≤ line ∧
       line + e.height.toNat ≤ h.zone.toNat))),
     (.band, none, decide (e.bandHigh.toNat < e.bandLow.toNat)),
     (.area, none, decide (¬ (1 ≤ e.areaMin.toNat ∧ e.areaMin.toNat ≤ e.areaMax.toNat ∧ e.areaMax.toNat ≤ 16384)))] := by
  have hplace : ∀ (x y : Int) (w k z : Nat),
      (decide (x < 0) || decide (2047 < x + w - 1) || decide (y < 0) || decide ((z : Int) - 1 < y + k - 1)) =
        decide (¬ (0 ≤ x ∧ x + w ≤ 2048 ∧ 0 ≤ y ∧ y + k ≤ z)) := by
    intro x y w k z
    rw [Bool.eq_iff_iff]
    simp only [Bool.or_eq_true, decide_eq_true_eq]
    omega
  have harea : ∀ a b : Nat, (decide (a < 1) || decide (16384 < b) || decide (b < a)) =
      decide (¬ (1 ≤ a ∧ a ≤ b ∧ b ≤ 16384)) := by
    intro a b
    rw [Bool.eq_iff_iff]
    simp only [Bool.or_eq_true, decide_eq_true_eq]
    omega
  have hphase : ∀ p : Option Phase, (match p with | none => true | some p => !phaseIn h.phaseSet p) =
      p.all (fun p => !phaseIn h.phaseSet p) := by
    intro p
    cases p <;> rfl
  simp only [fiducialRows, isNone_eq_decide, outside_or, hplace, harea, ← hphase]
  rfl

theorem criteriaRows_eq (r : RuleEntry) (p : Phase) : criteriaRows r p =
    let c := ruleCriteria r p
    [(.band, some p, decide (c.bandHigh.toNat < c.bandLow.toNat)),
     (.fill, some p, decide (¬ (c.fillMin.toNat ≤ c.fillMax.toNat ∧ c.fillMax.toNat ≤ 100))),
     (.span, some p, decide (64 < c.spanLimit.toNat)),
     (.mean, some p, decide (c.meanHigh.toNat < c.meanLow.toNat))] := by
  have hfill : ∀ a b : Nat, (decide (100 < b) || decide (b < a)) = decide (¬ (a ≤ b ∧ b ≤ 100)) := by
    intro a b
    rw [Bool.eq_iff_iff]
    simp only [Bool.or_eq_true, decide_eq_true_eq]
    omega
  simp only [criteriaRows, hfill]

theorem ruleRows_eq (o : Option RuleEntry) : ruleRows o =
    let r := o.getD zeroRuleEntry
    [(.unwritten, none, decide (o = none)),
     (.usedMark, none, decide (1 < r.top.used.toNat ∨ 1 < r.ring.used.toNat ∨ 1 < r.axial.used.toNat)),
     (.noPhase, none, decide (r.top.used = 0 ∧ r.ring.used = 0 ∧ r.axial.used = 0)),
     (.margins, none, decide (20 < r.fillMargin.toNat ∨ 16 < r.spanMargin.toNat ∨ 32 < r.meanMargin.toNat))] ++
    (usedPhases r).flatMap fun p =>
      let c := ruleCriteria r p
      [(.band, some p, decide (c.bandHigh.toNat < c.bandLow.toNat)),
       (.fill, some p, decide (¬ (c.fillMin.toNat ≤ c.fillMax.toNat ∧ c.fillMax.toNat ≤ 100))),
       (.span, some p, decide (64 < c.spanLimit.toNat)),
       (.mean, some p, decide (c.meanHigh.toNat < c.meanLow.toNat))] := by
  have hmarks : ∀ r : RuleEntry, sequenceOrder.any (fun p => decide (1 < (ruleCriteria r p).used.toNat)) =
      decide (1 < r.top.used.toNat ∨ 1 < r.ring.used.toNat ∨ 1 < r.axial.used.toNat) := by
    intro r
    rw [Bool.eq_iff_iff]
    simp only [sequenceOrder, List.any_cons, List.any_nil, Bool.or_false, Bool.or_eq_true, decide_eq_true_eq]
    rfl
  have hnone : ∀ r : RuleEntry, (usedPhases r).isEmpty =
      decide (r.top.used = 0 ∧ r.ring.used = 0 ∧ r.axial.used = 0) := by
    intro r
    rw [Bool.eq_iff_iff]
    simp only [usedPhases, sequenceOrder, List.isEmpty_iff, List.filter_eq_nil_iff, List.forall_mem_cons, decide_eq_true_eq,
      ne_eq, not_not, List.not_mem_nil, false_imp_iff, implies_true, and_true]
    rfl
  simp only [ruleRows, isNone_eq_decide, hmarks, hnone, funext (criteriaRows_eq _), Bool.decide_or, Bool.or_assoc]

theorem jointRows_eq (s : Slot) (i : Nat) (o : Option JointEntry) : jointRows s (entryBelow s i) o =
    let h := s.hdr
    let e := o.getD zeroJointEntry
    let unneeded := sequenceOrder.filter (fun p =>
      decide ((ruleCriteria (s.rule e.rule.toNat) p).used ≠ 0) && !phaseIn e.phases p)
    [(.unwritten, none, decide (o = none)),
     (.component, none, decide (2047 < e.component.toNat)),
     (.port, none, badPort h e.port),
     (.size, none, decide (¬ (4 ≤ e.width.toNat ∧ e.width.toNat ≤ 64 ∧ 4 ≤ e.height.toNat ∧ e.height.toNat ≤ 64))),
     (.columns, none, decide (¬ (64 ≤ e.x.toNat ∧ e.x.toNat + e.width.toNat ≤ 1984))),
     (.lines, none, decide (¬ (h.zone.toNat + 128 ≤ e.y.toNat ∧
       e.y.toNat + e.height.toNat + 64 ≤ h.panelLength.toNat))),
     (.order, none, decide (i ≠ 0 ∧ e.y.toNat < (s.joint (i - 1)).y.toNat)),
     (.ruleIndex, none, decide (h.ruleCount.toNat ≤ e.rule.toNat)),
     (.phases, none, decide (e.phases = 0 ∨ e.phases &&& ~~~h.phaseSet ≠ 0)),
     (.ruleAgreement, unneeded.head?, decide (unneeded ≠ [])),
     (.crop, none, decide (1 < e.crop.toNat))] := by
  have hor : ∀ a b c d : Nat, (decide (a < b) || decide (c < d)) = decide (¬ (b ≤ a ∧ d ≤ c)) := by
    intro a b c d
    rw [Bool.eq_iff_iff]
    simp only [Bool.or_eq_true, decide_eq_true_eq]
    omega
  have hbelow : ∀ y : Nat, (match entryBelow s i with | none => false | some b => decide (y < b.y.toNat)) =
      decide (i ≠ 0 ∧ y < (s.joint (i - 1)).y.toNat) := by
    intro y
    cases i <;> simp [entryBelow]
  have hfind : ∀ (r : RuleEntry) (set : Byte), (usedPhases r).find? (fun p => !phaseIn set p) =
      (sequenceOrder.filter (fun p => decide ((ruleCriteria r p).used ≠ 0) && !phaseIn set p)).head? := by
    intro r set
    rw [usedPhases, List.find?_filter, List.head?_filter]
    simp only [Bool.decide_and, Bool.decide_eq_true]
  have hsome : ∀ ps : List Phase, ps.head?.isSome = decide (ps ≠ []) := by
    intro ps
    cases ps <;> simp
  simp only [jointRows, isNone_eq_decide, outside_or, hor, hfind, hsome, Bool.decide_or, ← hbelow] <;> rfl

/-! ## What passes -/

theorem Byte.one_le_toNat {b : Byte} (h : ¬ b = 0) : 1 ≤ b.toNat :=
  Nat.pos_of_ne_zero fun hz => h (BitVec.eq_of_toNat_eq hz)

theorem Byte.zero_or_one {b : Byte} (h : b.toNat ≤ 1) : b = 0 ∨ b = 1 := by
  rcases Nat.le_one_iff_eq_zero_or_eq_one.mp h with h | h
  · exact .inl (BitVec.eq_of_toNat_eq h)
  · exact .inr (BitVec.eq_of_toNat_eq h)

theorem mem_phasesOf {set : Byte} {p : Phase} : p ∈ phasesOf set ↔ phaseIn set p = true := by
  cases p <;> simp [phasesOf, sequenceOrder]

theorem mem_usedPhases {r : RuleEntry} {p : Phase} : p ∈ usedPhases r ↔ (ruleCriteria r p).used ≠ 0 := by
  cases p <;> simp [usedPhases, sequenceOrder]

theorem badPort_eq_false {h : Header} {b : Byte} :
    badPort h b = false ↔ ∃ p, localPortOf b = some p ∧ portIn h.portSet p = true := by
  unfold badPort
  cases localPortOf b <;> simp

theorem all_not_eq_false {α : Type} {o : Option α} {q : α → Bool} :
    o.all (fun p => !q p) = false ↔ ∃ p, o = some p ∧ q p = true := by
  cases o <;> simp

/-- Settles O13, by the rows of the four tables. -/
theorem validatedRecipeInRange : Obligations.ValidatedRecipeInRange := by
  refine ⟨?_, ?_, ?_, ?_, ?_⟩
  · intro x h onPort inSet row headerChecks fiducialChecks ruleChecks jointChecks checks
    have hheader : labelled .header 0 (headerRows x.header) = headerChecks := by
      rw [headerRows_eq]
      simp only [labelled, List.map_append, List.map_map]
      rfl
    have hfiducial : ∀ i, labelled .fiducial i (fiducialRows x.hdr (Table.find x.fiducials i)) = fiducialChecks i := by
      intro i
      simp only [fiducialRows_eq, badPort_eq]
      rfl
    have hrule : ∀ i, labelled .rule i (ruleRows (Table.find x.rules i)) = ruleChecks i := by
      intro i
      rw [ruleRows_eq]
      simp only [labelled, List.map_append, List.map_flatMap]
      rfl
    have hjoint : ∀ i, labelled .joint i (jointRows x (entryBelow x i) (Table.find x.joints i)) = jointChecks i := by
      intro i
      simp only [jointRows_eq, badPort_eq]
      rfl
    rw [validate_eq]
    simp only [recipeChecks, hheader, hfiducial, hrule, hjoint]
    rfl
  · intro x hv
    obtain ⟨hrows, -, -, -⟩ := rows_of_validate_none hv
    rw [headerRows_eq] at hrows
    simp only [List.forall_mem_append, List.forall_mem_cons, List.forall_mem_map, List.not_mem_nil, false_imp_iff,
      implies_true, and_true, decide_eq_false_iff_not, not_not] at hrows
    obtain ⟨⟨⟨hwritten, hlength, ⟨hzlo, hzhi⟩, hfit, hpitch, hslo, hshi⟩, hflash⟩, ⟨hplo, hphi⟩, ⟨hjlo, hjhi⟩,
      ⟨hflo, hfhi⟩, ⟨hrlo, hrhi⟩, hspread⟩ := hrows
    obtain ⟨h, hx⟩ := Option.ne_none_iff_exists'.mp hwritten
    simp only [hx, Option.getD_some] at *
    exact ⟨h, rfl, not_lt.mp hlength, hzlo, hzhi, not_lt.mp hfit, Byte.one_le_toNat hpitch, hslo, hshi,
      fun p hp => Byte.one_le_toNat (hflash p (mem_phasesOf.mpr hp)), hplo, hphi, hjlo, hjhi, hflo, hfhi, hrlo, hrhi,
      not_lt.mp hspread⟩
  · intro x i hv hi
    obtain ⟨-, -, -, hrows⟩ := rows_of_validate_none hv
    replace hrows := hrows i hi
    rw [jointRows_eq] at hrows
    simp only [List.forall_mem_cons, List.not_mem_nil, false_imp_iff, implies_true, and_true, decide_eq_false_iff_not,
      not_not, badPort_eq_false, not_or, List.filter_eq_nil_iff] at hrows
    obtain ⟨hwritten, hcomponent, hport, ⟨hwlo, hwhi, hhlo, hhhi⟩, ⟨hxlo, hxhi⟩, ⟨hylo, hyhi⟩, horder, hrule,
      ⟨hphases, hset⟩, hagree, hcrop⟩ := hrows
    obtain ⟨e, he⟩ := Option.ne_none_iff_exists'.mp hwritten
    simp only [he, Option.getD_some] at *
    refine ⟨e, rfl, not_lt.mp hcomponent, hport, hwlo, hwhi, hhlo, hhhi, hxlo, hxhi, hylo, hyhi, ?_, not_le.mp hrule,
      hphases, hset, fun p hp => ?_, not_lt.mp hcrop⟩
    · rintro j rfl
      exact not_lt.mp fun h => horder ⟨by omega, h⟩
    · have hneeded := hagree p (List.mem_filter.mp hp).1
      rw [decide_eq_true (mem_usedPhases.mp hp)] at hneeded
      simpa using hneeded
  · intro x i hv hi
    obtain ⟨-, hrows, -, -⟩ := rows_of_validate_none hv
    replace hrows := hrows i hi
    rw [fiducialRows_eq] at hrows
    simp only [List.forall_mem_cons, List.not_mem_nil, false_imp_iff, implies_true, and_true, decide_eq_false_iff_not,
      not_not, badPort_eq_false, all_not_eq_false] at hrows
    obtain ⟨hwritten, hport, hphase, ⟨hwlo, hwhi, hhlo, hhhi⟩, ⟨hclo, hchi, hllo, hlhi⟩, hband, hareas⟩ := hrows
    obtain ⟨e, he⟩ := Option.ne_none_iff_exists'.mp hwritten
    simp only [he, Option.getD_some] at *
    exact ⟨e, rfl, hport, hphase, hwlo, hwhi, hhlo, hhhi, by omega, by omega, by omega, by omega, not_lt.mp hband, hareas⟩
  · intro x i hv hi
    obtain ⟨-, -, hrows, -⟩ := rows_of_validate_none hv
    replace hrows := hrows i hi
    rw [ruleRows_eq] at hrows
    simp only [List.forall_mem_append, List.forall_mem_cons, List.forall_mem_flatMap, List.not_mem_nil, false_imp_iff,
      implies_true, and_true, decide_eq_false_iff_not, not_not, not_or, not_lt] at hrows
    obtain ⟨⟨hwritten, ⟨htop, hring, haxial⟩, hsome, hfill, hspan, hmean⟩, hcriteria⟩ := hrows
    obtain ⟨r, hr⟩ := Option.ne_none_iff_exists'.mp hwritten
    simp only [hr, Option.getD_some] at *
    have hmark : ∀ p, (ruleCriteria r p).used = 0 ∨ (ruleCriteria r p).used = 1 := by
      intro p
      cases p
      · exact Byte.zero_or_one htop
      · exact Byte.zero_or_one hring
      · exact Byte.zero_or_one haxial
    refine ⟨r, rfl, hfill, hspan, hmean, ?_, fun p => (hmark p).imp_right fun hone => ⟨hone, ?_⟩⟩
    · by_contra hnone
      have hzero : ∀ p, (ruleCriteria r p).used = 0 := fun p => (hmark p).resolve_right fun h => hnone ⟨p, h⟩
      exact hsome ⟨hzero .top, hzero .ring, hzero .axial⟩
    · obtain ⟨hb, ⟨hflo, hfhi⟩, hs, hm⟩ := hcriteria p (mem_usedPhases.mpr (by simp [hone]))
      exact ⟨hb, hflo, hfhi, hs, hm⟩

end Sys2Proof.Machine

/-! # The read orders (section 11.2) -/

namespace Sys2Proof.Machine

/-- A window that names lane A as its own. -/
def strayWindow : Window :=
  let none : Sums := { n := 0, b := 0, s := 0, r := 0 }
  { lane := .a, seq := 0, joint := 0, port := .p0, firstCol := 0, lastCol := 0, firstLine := 0, lastLine := 0, phases := 1,
    rule := 0, sums := { top := none, ring := none, axial := none }, loss := false, injected := false, crop := .none,
    finished := false }

/-- The part after a reset but for a panel of lane A and a window of that panel in the open list of lane B. -/
def strayed : State :=
  { State.reset with
    dev := { State.reset.dev with
      lanes := { a := { State.reset.dev.lanes.a with live := [Context.fresh 0 0 0 0 0 0] },
                 b := { State.reset.dev.lanes.b with openList := [strayWindow] } } } }

theorem taken_strayed : Taken strayed := ⟨by decide, by decide, by decide⟩

/-- The panel record counts the panel's windows in its own lane's open list alone. -/
theorem inFlight_strayed : strayed.dev.inFlight .a 0 = 0 := by decide

theorem windowsInFlight_strayed : strayed.dev.windowsInFlight.filter (fun w => decide (w.lane = .a ∧ w.seq = 0)) =
    [strayWindow] := by decide

theorem panelRecord_strayed : (panelRecord strayed.dev .a 0).getLast? = some 0 := by decide

/-- Refutes O35: the statement ends a panel record with the count of the panel's windows in the open lists of both lanes, the
record with those in its own lane's. The two differ where a window stands in the other lane's open list, which no reachable
state has but the statement does not exclude. -/
theorem not_readOrdersAnswered : ¬ Obligations.ReadOrdersAnswered := by
  intro h
  obtain ⟨-, -, -, -, -, -, -, ⟨-, -, -, -, -, hpanel, -⟩, -⟩ := h 0 .a 0 strayed taken_strayed
  have hlast := congrArg List.getLast? hpanel
  rw [panelRecord_strayed] at hlast
  revert hlast
  decide

end Sys2Proof.Machine

/-! # The trunk link: its state, whole frames and the decoder (sections 9.1 to 9.5) -/

namespace Sys2Proof.Machine

/-- A command that is no order and is not taken in reset, on a part that is not held in reset. -/
theorem exec_running {c : Instr} {s : State} (h : s.dev.resetLow = false) (ho : orderOf c = none := by rfl)
    (hc : actsInReset c = false := by rfl) : exec c s = becomes s (effectOf c s.dev) := by
  rw [exec_of_event ho hc, event_running s h]

/-! ## The link state (R162, R163) -/

theorem Device.trkSdFalls_eq {d : Device} (h : d.resetLow = false) : d.trkSdFalls =
    { d with
      trkSd := false,
      trunk := { d.trunk with
        link := .down, syncRun := 0,
        rx := if d.trunk.link = .up then none else d.trunk.rx, credit := if d.trunk.link = .up then 0 else d.trunk.credit,
        frame := if d.trunk.link = .up then none else d.trunk.frame } } := by
  simp only [Device.trkSdFalls, h, Device.modTrunk, Trunk.leaveUp, Bool.false_eq_true, if_false]
  by_cases hup : d.trunk.link = .up
  · simp only [hup, if_true]
  · simp only [if_neg hup]

theorem Device.trkSdRises_of_down {d : Device} (h : d.resetLow = false) (hdown : d.trunk.link = .down) : d.trkSdRises =
    { d with trkSd := true, trunk := { d.trunk with link := .training, syncRun := 0 } } := by
  simp only [Device.trkSdRises, h, hdown, Device.modTrunk, Bool.false_eq_true, if_true, if_false]

theorem Device.trkSdRises_of_awake {d : Device} (h : d.resetLow = false) (hdown : d.trunk.link ≠ .down) : d.trkSdRises =
    { d with trkSd := true } := by
  simp only [Device.trkSdRises, h, hdown, Bool.false_eq_true, if_false]

theorem Device.trunkWord_of_training {d : Device} (h : d.trunk.link = .training) (w : LinkWord) :
    d.trunkWord w = { d with trunk := d.trunk.trainWord w } := by
  simp only [Device.trunkWord, h, Device.modTrunk]

theorem Device.trunkWord_of_down {d : Device} (h : d.trunk.link = .down) (w : LinkWord) : d.trunkWord w = d := by
  simp only [Device.trunkWord, h]

theorem Device.trunkWord_of_up {d : Device} (h : d.trunk.link = .up) (w : LinkWord) : d.trunkWord w = d.rxWord w := by
  simp only [Device.trunkWord, h]

/-- Settles O49, by the case equations of the link's moves. -/
theorem linkStateMoves : Obligations.LinkStateMoves := by
  intro s hs
  have hpin : ∀ {c : Instr} {d : Device}, actsInReset c = true → effectOf c s.dev = d → exec c s = becomes s d := by
    rintro c _ hc rfl
    exact exec_of_pin hc s
  refine ⟨hpin rfl (Device.trkSdFalls_eq hs), fun h => hpin rfl (Device.trkSdRises_of_down hs h),
    fun h => hpin rfl (Device.trkSdRises_of_awake hs h), fun h => ⟨fun hrun => ?_, fun hrun => ?_, fun w hw => ?_⟩,
    fun h w => ?_⟩
  · rw [exec_running hs]
    show becomes s (s.dev.trunkWord .sync) = _
    rw [Device.trunkWord_of_training h, Trunk.trainWord, if_pos rfl, if_neg (by omega)]
  · rw [exec_running hs]
    show becomes s (s.dev.trunkWord .sync) = _
    rw [Device.trunkWord_of_training h, Trunk.trainWord, if_pos rfl, if_pos (by omega)]
  · rw [exec_running hs]
    show becomes s (s.dev.trunkWord w) = _
    rw [Device.trunkWord_of_training h, Trunk.trainWord, if_neg hw]
  · rw [exec_running hs]
    exact congrArg (becomes s) (Device.trunkWord_of_down h w)

/-! ## Whole frames (R164, R165, R185) -/

theorem Device.breakOpen_of_closed {d : Device} (h : d.trunk.rx = none) : d.breakOpen = d := by
  simp only [Device.breakOpen, h]
  rfl

theorem Device.breakOpen_of_open {d : Device} (h : d.trunk.rx ≠ none) : d.breakOpen = (d.discardFrame none).settleStall :=
  if_pos (Option.isSome_iff_ne_none.mpr h)

theorem Device.modTrunk_rx_self {d : Device} {x : Option (List Byte)} (h : d.trunk.rx = x) :
    d.modTrunk (fun t => { t with rx := x }) = d := by
  subst h
  rfl

theorem Device.discardFrame_of_closed {d : Device} (h : d.trunk.rx = none) :
    d.discardFrame none = d.raiseDevice .frameError := by
  rw [Device.discardFrame, Device.modTrunk_rx_self h]

theorem Device.orderFrame_of_short {params : List Byte} (h : params.length ≤ 510) (tag code : Byte) (d : Device) :
    d.orderFrame tag code params = d.breakOpen.orderArrives tag code params := if_pos (by omega)

theorem Device.orderFrame_of_long {params : List Byte} (h : 510 < params.length) (tag code : Byte) (d : Device) :
    d.orderFrame tag code params = d.breakOpen.discardFrame none := if_neg (by omega)

/-- Settles O50, by `Device.frameComes` at each link state and `Device.breakOpen`. -/
theorem creditAndDamagedFrames : Obligations.CreditAndDamagedFrames := by
  intro s grant tag code params x hs t opened broken trained
  have hcredit : exec (.creditFrame grant) s = becomes s (s.dev.frameComes 0 fun d => d.breakOpen.grantCredit grant) :=
    exec_running hs
  have horder : exec (.orderFrame tag code params) s =
      becomes s (s.dev.frameComes 0 fun d => d.orderFrame tag code params) := exec_running hs
  have hdamage : ∀ y, exec (.frameError y) s =
      becomes s (s.dev.frameComes (runAfter y) fun d => d.discardFrame (rxAfter y)) := fun y => exec_running hs
  refine ⟨fun hup => ?_, fun hup hrx => ⟨?_, fun hlong => ?_⟩, fun hup hrx => ⟨?_, fun hshort => ?_, fun hlong => ?_⟩,
    fun htrain => ⟨?_, ?_, fun hx => ?_, ?_⟩, fun hdown => ⟨?_, ?_, ?_⟩⟩
  · have hopen : rxAfter x = opened := by cases x <;> rfl
    rw [hdamage, Device.frameComes_of_up _ _ _ hup, hopen]
    rfl
  · rw [hcredit, Device.frameComes_of_up _ _ _ hup, Device.breakOpen_of_closed hrx]
    rfl
  · rw [horder, Device.frameComes_of_up _ _ _ hup, Device.orderFrame_of_long hlong, Device.breakOpen_of_closed hrx,
      Device.discardFrame_of_closed hrx]
  · have hbroken : broken.trunk.credit = t.credit := Device.settleStall_trunk_credit _
    rw [hcredit, Device.frameComes_of_up _ _ _ hup, Device.breakOpen_of_open hrx, ← hbroken]
    rfl
  · rw [horder, Device.frameComes_of_up _ _ _ hup, Device.orderFrame_of_short hshort, Device.breakOpen_of_open hrx]
    rfl
  · rw [horder, Device.frameComes_of_up _ _ _ hup, Device.orderFrame_of_long hlong, Device.breakOpen_of_open hrx]
    exact congrArg (becomes s) (Device.discardFrame_of_closed (d := broken) (Device.settleStall_trunk_rx _))
  · rw [hcredit, Device.frameComes_of_training _ _ _ htrain]
  · rw [horder, Device.frameComes_of_training _ _ _ htrain]
  · have hrun : runAfter x = 0 := by
      cases x with
      | brokenBySync => exact absurd rfl hx
      | _ => rfl
    rw [hdamage, Device.frameComes_of_training _ _ _ htrain, hrun]
  · rw [hdamage, Device.frameComes_of_training _ _ _ htrain]
    rfl
  · rw [hcredit, Device.frameComes_of_down _ _ _ hdown]
  · rw [hdamage, Device.frameComes_of_down _ _ _ hdown]
  · rw [horder, Device.frameComes_of_down _ _ _ hdown]

/-! ## The decoder (R166, R167) -/

theorem parseOrder_of_unlisted {code : Byte} (h : listedCode code = false) (params : List Byte) :
    parseOrder code params = .unknown code := by
  simp only [listedCode, decide_eq_false_iff_not, List.mem_cons, List.not_mem_nil, or_false, not_or] at h
  simp only [parseOrder, h, if_false]

/-- Settles O51, by the cases of `Device.arrive` and `parseOrder_of_unlisted`. -/
theorem ordersReachTheDecoder : Obligations.OrdersReachTheDecoder := by
  intro s tag code params hs t o hup hrx hshort
  have horder : exec (.orderFrame tag code params) s = becomes s (s.dev.arrive tag o (takeOrder tag o)) := by
    rw [exec_running hs]
    show becomes s (s.dev.frameComes 0 fun d => d.orderFrame tag code params) = _
    rw [Device.frameComes_of_up _ _ _ hup, Device.orderFrame_of_short hshort, Device.breakOpen_of_closed hrx]
    rfl
  refine ⟨fun hempty hroom => ⟨?_, fun hlisted => ⟨?_, ?_⟩⟩, fun hwaits => ⟨fun hplace => ?_, fun hfull => ?_⟩⟩
  · rw [horder, Device.arrive_of_taken _ _ _ hempty hroom]
  · rw [horder, Device.arrive_of_taken _ _ _ hempty hroom, show o = .unknown code from parseOrder_of_unlisted hlisted _]
    rfl
  · rw [exec_running hs]
    show becomes s (s.dev.arrive tag (parseOrder code []) (takeOrder tag (parseOrder code []))) = _
    rw [Device.arrive_of_taken _ _ _ hempty hroom, parseOrder_of_unlisted hlisted]
    rfl
  · rw [horder, Device.arrive_of_waits _ _ _ hwaits, Device.joinInbound_of_room _ _ hplace]
    rfl
  · rw [horder, Device.arrive_of_waits _ _ _ hwaits, Device.joinInbound_of_full _ _ hfull]

end Sys2Proof.Machine

/-! # The stall timer and the condition unit (sections 9.7 and 10.1 to 10.4) -/

namespace Sys2Proof.Machine

/-! ## The notices a change queues (R179) -/

theorem CondUnit.queueNotice_pending (u : CondUnit) (i j : SetId) :
    ((u.queueNotice i).get j).noticePending = ((u.get j).noticePending || decide (j = i)) := by
  unfold CondUnit.queueNotice
  split
  · next h =>
    by_cases hj : j = i
    · simp [hj, h]
    · simp [hj]
  · show ((u.mod i _).get j).noticePending = _
    rw [CondUnit.get_mod]
    by_cases hj : j = i
    · simp [hj]
    · simp [hj]

theorem CondUnit.queueNotice_queue (u : CondUnit) (i : SetId) :
    (u.queueNotice i).noticeQueue = u.noticeQueue ++ if (u.get i).noticePending then [] else [i] := by
  unfold CondUnit.queueNotice
  split
  · rw [List.append_nil]
  · rfl

/-- Notices queued for a list of sets: each is marked, and those not yet marked join the queue in the list's order. -/
theorem CondUnit.foldl_queueNotice : ∀ (is : List SetId) (u : CondUnit), is.Nodup →
    (∀ j, ((is.foldl CondUnit.queueNotice u).get j).noticePending = true ↔
      (u.get j).noticePending = true ∨ j ∈ is) ∧
    (is.foldl CondUnit.queueNotice u).noticeQueue =
      u.noticeQueue ++ is.filter (fun j => !(u.get j).noticePending)
  | [], u, _ => by simp
  | i :: is, u, h => by
    obtain ⟨hi, his⟩ := List.nodup_cons.mp h
    obtain ⟨hpending, hqueue⟩ := CondUnit.foldl_queueNotice is (u.queueNotice i) his
    refine ⟨fun j => ?_, ?_⟩
    · rw [List.foldl_cons, hpending, u.queueNotice_pending i j]
      simp [or_assoc]
    · have hrest : is.filter (fun j => !((u.queueNotice i).get j).noticePending) =
          is.filter (fun j => !(u.get j).noticePending) := by
        refine List.filter_congr fun j hj => ?_
        have hne : j ≠ i := fun h => hi (h ▸ hj)
        simp [u.queueNotice_pending i j, hne]
      rw [List.foldl_cons, hqueue, hrest, u.queueNotice_queue i, List.filter_cons, List.append_assoc]
      cases (u.get i).noticePending <;> rfl

theorem CondUnit.reporting_iff (u : CondUnit) (i : SetId) :
    u.reporting i = true ↔ u.view i &&& (u.get i).mask ≠ 0 := decide_eq_true_iff

theorem mem_setsUpward (i : SetId) : i ∈ setsUpward := by
  rcases i with _ | l | ⟨l, p⟩
  · decide
  · cases l <;> decide
  · cases l <;> cases p <;> decide

/-- The sets that had nothing to report and have something now. -/
def CondUnit.begins (old new : CondUnit) : List SetId :=
  setsUpward.filter (fun i => !old.reporting i && new.reporting i)

theorem CondUnit.mem_begins (old new : CondUnit) (i : SetId) : i ∈ old.begins new ↔
    old.view i &&& (old.get i).mask = 0 ∧ new.view i &&& (new.get i).mask ≠ 0 := by
  rw [CondUnit.begins, List.mem_filter, Bool.and_eq_true, Bool.not_eq_true', ← Bool.not_eq_true, CondUnit.reporting_iff,
    CondUnit.reporting_iff, ne_eq, not_not]
  exact and_iff_right (mem_setsUpward i)

theorem CondUnit.settle_eq (old new : CondUnit) : old.settle new = (old.begins new).foldl CondUnit.queueNotice new := rfl

theorem CondUnit.begins_nodup (old new : CondUnit) : (old.begins new).Nodup :=
  List.Nodup.filter _ (by decide)

/-! ## What a set shows (R178) -/

theorem CondUnit.view_lane (u : CondUnit) (l : LaneId) :
    let low (i : SetId) (bit : Word16) : Word16 := if u.view i &&& (u.get i).mask ≠ 0 then bit else 0
    u.view (.lane l) = (u.get (.lane l)).raised ||| low (.port ⟨l, .p0⟩) 0x1000 ||| low (.port ⟨l, .p1⟩) 0x2000 := by
  simp only [CondUnit.view, CondUnit.laneView, CondUnit.portSummary, reports, decide_eq_true_eq]
  rfl

theorem CondUnit.view_device (u : CondUnit) :
    let low (i : SetId) (bit : Word16) : Word16 := if u.view i &&& (u.get i).mask ≠ 0 then bit else 0
    u.view .device = (u.get .device).raised ||| low (.lane .a) 0x100 ||| low (.lane .b) 0x200 := by
  simp only [CondUnit.view, CondUnit.deviceView, CondUnit.laneSummary, reports, decide_eq_true_eq]
  rfl

/-- What a set shows is a matter of the conditions and the masks. -/
theorem CondUnit.view_congr {u v : CondUnit} (h : ∀ j, (v.get j).raised = (u.get j).raised ∧ (v.get j).mask = (u.get j).mask)
    (i : SetId) : v.view i = u.view i := by
  have hport : ∀ p, v.view (.port p) = u.view (.port p) := fun p => (h (.port p)).1
  have hlane : ∀ l, v.view (.lane l) = u.view (.lane l) := fun l => by
    rw [v.view_lane, u.view_lane]
    simp only [hport, h]
  cases i with
  | device => rw [v.view_device, u.view_device]; simp only [hlane, h]
  | lane l => exact hlane l
  | port p => exact hport p

/-- A change that touches no condition and no mask queues nothing. -/
theorem CondUnit.settle_of_kept {u v : CondUnit}
    (h : ∀ j, (v.get j).raised = (u.get j).raised ∧ (v.get j).mask = (u.get j).mask) : u.settle v = v := by
  have hnone : u.begins v = [] := by
    refine List.eq_nil_iff_forall_not_mem.mpr fun i hi => ?_
    obtain ⟨hold, hnew⟩ := (u.mem_begins v i).mp hi
    rw [CondUnit.view_congr h i, (h i).2] at hnew
    exact hnew hold
  rw [CondUnit.settle_eq, hnone]
  rfl

/-- Settles O55, by the meanings of the two orders and `CondUnit.foldl_queueNotice`. -/
theorem conditionReadsAndMasks : Obligations.ConditionReadsAndMasks := by
  refine ⟨fun tag i b list s hs => ⟨?_, rfl, fun hb => ⟨?_, ?_⟩, fun hforeign => ?_, fun hown => ?_⟩,
    fun d i list => rfl, fun u l p => ⟨rfl, u.view_lane l, u.view_device⟩, fun old new i => ?_⟩
  · refine exec_answers hs rfl ?_
    have hkept : s.dev.cond.settle (s.dev.cond.mod i fun c => { c with snapshot := some c.raised }) =
        s.dev.cond.mod i fun c => { c with snapshot := some c.raised } :=
      CondUnit.settle_of_kept fun j => by rw [CondUnit.get_mod]; split <;> exact ⟨rfl, rfl⟩
    simp only [takeOrder, takeReadConditions, setOf_setByte, Device.updateConds, hkept]
    rfl
  · refine exec_answers hs rfl ?_
    simp only [takeOrder, takeReadConditions, setOf_above b hb]
  · refine exec_answers hs rfl ?_
    simp only [takeOrder, takeSetMask, setOf_above b hb]
  · refine exec_answers hs rfl ?_
    simp only [takeOrder, takeSetMask, setOf_setByte, if_pos hforeign]
  · refine exec_answers hs rfl ?_
    simp only [takeOrder, takeSetMask, setOf_setByte, if_neg (not_not_intro hown)]
    rfl
  · intro passes t
    obtain ⟨hpending, hqueue⟩ := CondUnit.foldl_queueNotice _ new (old.begins_nodup new)
    refine ⟨CondUnit.settle_raised old new i, CondUnit.settle_mask old new i, CondUnit.settle_snapshot old new i, ?_,
      _, hqueue, ?_, ?_⟩
    · exact (hpending i).trans (or_congr_right (old.mem_begins new i))
    · rw [List.mem_filter, Bool.not_eq_true', and_comm]
      exact and_congr_right' (old.mem_begins new i)
    · exact List.filter_sublist.trans List.filter_sublist

/-! ## The stall timer (R171, R173) -/

theorem Device.stallRuns_iff (d : Device) : d.stallRuns = true ↔ d.trunk.credit = 0 ∧
    (d.trunk.replies ≠ [] ∨ d.cond.noticeQueue ≠ [] ∨ d.trunk.panelReports ≠ [] ∨ d.trunk.verdicts ≠ [] ∨
      d.cropQueue ≠ []) := by
  simp [Device.stallRuns, Device.outboundWaiting, or_assoc]

/-- A condition raised keeps the timer's condition: it takes no item from a queue. -/
theorem Device.raise_stallRuns {d : Device} (h : d.stallRuns = true) (i : SetId) (x : Word16) :
    (d.raise i x).stallRuns = true := by
  rw [Device.stallRuns_iff] at h ⊢
  obtain ⟨hcredit, hwaits⟩ := h
  have hqueue : d.cond.noticeQueue ≠ [] → (d.raise i x).cond.noticeQueue ≠ [] := by
    intro hne
    obtain ⟨-, hq⟩ := CondUnit.foldl_queueNotice _ (d.cond.mod i fun c => { c with raised := c.raised ||| x })
      (d.cond.begins_nodup _)
    show (d.cond.settle _).noticeQueue ≠ []
    rw [CondUnit.settle_eq, hq, CondUnit.mod, CondUnit.set_noticeQueue]
    simp [hne]
  refine ⟨hcredit, ?_⟩
  rcases hwaits with h | h | h | h | h
  · exact .inl h
  · exact .inr (.inl (hqueue h))
  · exact .inr (.inr (.inl h))
  · exact .inr (.inr (.inr (.inl h)))
  · exact .inr (.inr (.inr (.inr h)))

theorem Device.fault_stallRuns {d : Device} (h : d.stallRuns = true) (l : LaneId) (k : FaultKind) :
    (d.fault l k).stallRuns = true := by
  rw [Device.fault_eq]
  exact Device.raise_stallRuns (Device.raise_stallRuns h _ _) _ _

/-- A timer loaded while its condition holds runs on from there. -/
theorem Device.settleStall_of_loaded {d : Device} (h : d.stallRuns = true) :
    (d.modTrunk fun t => { t with stallLeft := some t.stallLoad }).settleStall =
      d.modTrunk fun t => { t with stallLeft := some t.stallLoad } := by
  have hruns : (d.modTrunk fun t => { t with stallLeft := some t.stallLoad }).stallRuns = true := h
  simp only [Device.settleStall, hruns, if_true]
  rfl

/-- The part as TrunkStall leaves it, before the timer is loaded again. -/
def Device.stalled (d : Device) : Device := ((d.raiseDevice .trunkStall).fault .a .trunkStall).fault .b .trunkStall

theorem Device.stallExpires_of_running {d : Device} (h : d.trunk.stallLeft.isSome = true) :
    d.stallExpires = d.stalled.modTrunk fun t => { t with stallLeft := some t.stallLoad } := if_pos h

theorem Device.stalled_stallRuns {d : Device} (h : d.stallRuns = true) : d.stalled.stallRuns = true :=
  Device.fault_stallRuns (Device.fault_stallRuns (Device.raise_stallRuns h _ _) _ _) _ _

theorem Device.stalled_trunk (d : Device) : d.stalled.trunk = d.trunk := by
  rw [Device.stalled, Device.fault_trunk, Device.fault_trunk, Device.raiseDevice_trunk]

theorem Device.stalled_lane (d : Device) (l : LaneId) : d.stalled.lane l = (d.fault l .trunkStall).lane l := by
  simp only [Device.stalled, Device.fault_lane_eq, Device.raiseDevice_lane]
  cases l <;> rfl

theorem Device.stalled_raised (d : Device) : (d.stalled.cond.get .device).raised =
    (d.cond.get .device).raised ||| DeviceCond.trunkStall.bit := by
  rw [Device.stalled, Device.fault_raised, if_neg (by decide), Device.fault_raised, if_neg (by decide), Device.raiseDevice,
    Device.raise_raised, if_pos rfl]

/-- Settles O54, by `Device.fault_lane_eq` and the cases of `Device.settleStall`. -/
theorem stallTimerRuns : Obligations.StallTimerRuns := by
  refine ⟨fun s tag limit => ⟨fun hs hleft hruns => ?_, fun hs => ?_⟩, fun d => ⟨fun hwaits => ?_, fun hwaits => ?_⟩⟩
  · have hexec : exec .stallTimerExpiry s =
        .next { dev := s.dev.stalled.modTrunk fun t => { t with stallLeft := some t.stallLoad }, pending := s.pending } := by
      rw [exec_running hs]
      show becomes s s.dev.stallExpires = _
      rw [Device.stallExpires_of_running hleft, becomes, Device.settleStall_of_loaded (Device.stalled_stallRuns hruns)]
    have hraised := s.dev.stalled_raised
    have hlane := s.dev.stalled_lane
    have htrunk := s.dev.stalled_trunk
    generalize s.dev.stalled = d at hexec hraised hlane htrunk
    refine ⟨_, hexec, ?_, fun l => ⟨?_, ?_⟩, ?_⟩
    · show (d.cond.get .device).raised &&& DeviceCond.trunkStall.bit ≠ 0
      rw [hraised, ← BitVec.or_zero (x := _ ||| _), BitVec.raised_and_bit]
      decide
    · show (d.lane l).gate.counts.trunkStall = _
      rw [hlane, Device.fault_lane_eq, if_pos rfl]
      show ((s.dev.lane l).gateAfter .trunkStall).counts.trunkStall = _
      rw [Lane.gateAfter_counts]
      rfl
    · show (d.lane l).gate = _
      rw [hlane]
    · show { d.trunk with stallLeft := some d.trunk.stallLoad } = _
      rw [htrunk]
      rfl
  · have htake := exec_taken (c := .configureDevice tag limit) rfl hs
    simp only [takeOrder, takeConfigureDevice] at htake
    rw [htake]
    split <;> rfl
  · exact Device.settleStall_of_runs (d.stallRuns_iff.mpr hwaits)
  · exact Device.settleStall_of_stops (Bool.eq_false_iff.mpr fun h => hwaits (d.stallRuns_iff.mp h))

end Sys2Proof.Machine

/-! # Frames word by word (sections 9.2 and 11.1) -/

namespace Sys2Proof.Machine

/-! ## Numbers of two bytes -/

theorem word16_toNat (hi lo : Byte) : (word16 hi lo).toNat = hi.toNat * 256 + lo.toNat := by
  show (hi ++ lo).toNat = _
  rw [BitVec.toNat_append, Nat.shiftLeft_eq, Nat.mul_comm, ← Nat.two_pow_add_eq_or_of_lt lo.isLt, Nat.mul_comm]

theorem be_two (x : Nat) : be 2 x = [BitVec.ofNat 8 (x / 256), BitVec.ofNat 8 x] := by simp [be]

theorem word16_be (x : Nat) (h : x < 65536) : (word16 (BitVec.ofNat 8 (x / 256)) (BitVec.ofNat 8 x)).toNat = x := by
  rw [word16_toNat, BitVec.toNat_ofNat, BitVec.toNat_ofNat]
  omega

/-- The check a frame carries agrees with the one computed exactly when it is spelled by the same two bytes. -/
theorem ofBe_eq_iff (a b : Byte) (x : Nat) (h : x < 65536) : x = ofBe [a, b] ↔ [a, b] = be 2 x := by
  have ha := a.isLt
  have hb := b.isLt
  rw [be_two, List.cons.injEq, List.cons.injEq, ← BitVec.toNat_inj, ← BitVec.toNat_inj, BitVec.toNat_ofNat,
    BitVec.toNat_ofNat]
  simp only [ofBe, List.foldl_cons, List.foldl_nil, and_true]
  omega

/-! ## One word (R164, R185) -/

/-- The part with another inbound frame being assembled. -/
def Device.withRx (d : Device) (x : Option (List Byte)) : Device := { d with trunk := { d.trunk with rx := x } }

theorem Device.discardFrame_eq (d : Device) (x : Option (List Byte)) :
    d.discardFrame x = (d.withRx x).raiseDevice .frameError := rfl

theorem Device.withRx_withRx (d : Device) (x y : Option (List Byte)) : (d.withRx x).withRx y = d.withRx y := rfl

theorem Device.withRx_self {d : Device} {x : Option (List Byte)} (h : d.trunk.rx = x) : d.withRx x = d := by
  subst h
  rfl

theorem Device.rxByte_of_closed {d : Device} (h : d.trunk.rx = none) (b : Byte) : d.rxByte b = d := by
  simp only [Device.rxByte, h]

theorem Device.rxByte_first {d : Device} (h : d.trunk.rx = some []) (b : Byte) :
    d.rxByte b = if inboundKind b then d.withRx (some [b]) else d.discardFrame none := by
  simp only [Device.rxByte, h]
  rfl

theorem Device.rxByte_second {d : Device} {kind : Byte} (h : d.trunk.rx = some [kind]) (b : Byte) :
    d.rxByte b = d.withRx (some [b, kind]) := by
  simp only [Device.rxByte, h]
  rfl

/-- From the third byte on the length is known. -/
theorem Device.rxByte_later {d : Device} {newest rest : List Byte} {b kind l1 l0 : Byte} (h : d.trunk.rx = some newest)
    (hgot : newest.reverse ++ [b] = kind :: l1 :: l0 :: rest) : d.rxByte b =
      if !inboundLength kind (word16 l1 l0).toNat then d.discardFrame none
      else if rest.length = (word16 l1 l0).toNat + 2 then
        d.endFrame kind ((kind :: l1 :: l0 :: rest).take ((word16 l1 l0).toNat + 3))
          ((kind :: l1 :: l0 :: rest).drop ((word16 l1 l0).toNat + 3))
      else d.withRx (some (b :: newest)) := by
  have hbytes : (b :: newest).reverse = kind :: l1 :: l0 :: rest := by rw [List.reverse_cons, hgot]
  simp only [Device.rxByte, h, hbytes]
  rfl

/-- The last byte of a frame with a check that agrees. -/
theorem Device.endFrame_of_agrees {d : Device} {kind : Byte} {body check : List Byte}
    (h : (crc body).toNat = ofBe check) : d.endFrame kind body check = (d.withRx none).acceptFrame kind (body.drop 3) :=
  if_pos h

theorem Device.endFrame_of_differs {d : Device} {kind : Byte} {body check : List Byte}
    (h : (crc body).toNat ≠ ofBe check) : d.endFrame kind body check = d.discardFrame none := if_neg h

theorem Device.acceptFrame_credit (d : Device) (payload : List Byte) :
    d.acceptFrame 2 payload = d.grantCredit (payload.headD 0) := rfl

theorem Device.acceptFrame_order (d : Device) (tag code : Byte) (params : List Byte) :
    d.acceptFrame 1 (tag :: code :: params) = d.orderArrives tag code params := rfl

/-! ## The words of a whole frame -/

/-- The bytes that a frame still lacks, received one after the other: the last of them ends it. -/
theorem Device.foldl_rxWord {kind l1 l0 : Byte} {rest : List Byte} (hkind : inboundKind kind = true)
    (hlength : inboundLength kind (word16 l1 l0).toNat = true) (hrest : rest.length = (word16 l1 l0).toNat + 2) :
    ∀ (suffix newest : List Byte) (d : Device), suffix ≠ [] → newest.reverse ++ suffix = kind :: l1 :: l0 :: rest →
      d.trunk.rx = some newest →
      (suffix.map LinkWord.data).foldl Device.rxWord d =
        d.endFrame kind ((kind :: l1 :: l0 :: rest).take ((word16 l1 l0).toNat + 3))
          ((kind :: l1 :: l0 :: rest).drop ((word16 l1 l0).toNat + 3))
  | [], _, _, h, _, _ => absurd rfl h
  | b :: suffix, newest, d, _, hgot, hrx => by
    have hstep : d.rxByte b = (if suffix = [] then
          d.endFrame kind ((kind :: l1 :: l0 :: rest).take ((word16 l1 l0).toNat + 3))
            ((kind :: l1 :: l0 :: rest).drop ((word16 l1 l0).toNat + 3))
        else d.withRx (some (b :: newest))) := by
      have hsplit : (newest.reverse ++ [b]) ++ suffix = kind :: l1 :: l0 :: rest := by rw [← hgot]; simp
      match hbytes : newest.reverse ++ [b] with
      | [] => simp at hbytes
      | [x] =>
        obtain ⟨hnewest, hb⟩ := List.append_inj' (t₁ := [b]) (s₂ := []) (t₂ := [x]) hbytes rfl
        obtain rfl : newest = [] := List.reverse_eq_nil_iff.mp hnewest
        obtain ⟨rfl, rfl⟩ : b = kind ∧ suffix = l1 :: l0 :: rest := by simpa using hgot
        rw [Device.rxByte_first hrx, if_pos hkind]
        rfl
      | [x, y] =>
        obtain ⟨hnewest, hb⟩ := List.append_inj' (t₁ := [b]) (s₂ := [x]) (t₂ := [y]) hbytes rfl
        obtain rfl : newest = [x] := by simpa using congrArg List.reverse hnewest
        have hsuffix : suffix ≠ [] := by
          rintro rfl
          simp at hsplit
        rw [Device.rxByte_second hrx, if_neg hsuffix]
      | x :: y :: z :: got =>
        rw [hbytes] at hsplit
        obtain ⟨rfl, rfl, rfl, rfl⟩ : x = kind ∧ y = l1 ∧ z = l0 ∧ got ++ suffix = rest := by simpa using hsplit
        rw [Device.rxByte_later hrx hbytes, hlength]
        by_cases hsuffix : suffix = []
        · subst hsuffix
          rw [List.append_nil] at hrest ⊢
          rw [if_pos hrest, if_pos rfl]
          rfl
        · have hpos : 0 < suffix.length := List.length_pos_iff.mpr hsuffix
          rw [List.length_append] at hrest
          rw [if_neg (show ¬ got.length = _ by omega), if_neg hsuffix]
          rfl
    rw [List.map_cons, List.foldl_cons]
    show (suffix.map LinkWord.data).foldl Device.rxWord (d.rxByte b) = _
    rw [hstep]
    by_cases hsuffix : suffix = []
    · rw [if_pos hsuffix, hsuffix]
      rfl
    · rw [if_neg hsuffix]
      exact Device.foldl_rxWord hkind hlength hrest suffix (b :: newest) _ hsuffix (by rw [← hgot]; simp) rfl

theorem Device.rxWord_frame {d : Device} {kind : Byte} {payload : List Byte} (hrx : d.trunk.rx = none)
    (hkind : inboundKind kind = true) (hlength : inboundLength kind payload.length = true) :
    (frameWords kind payload).foldl Device.rxWord d = d.acceptFrame kind payload := by
  have hsmall : payload.length < 65536 := by
    simp only [inboundLength] at hlength
    split at hlength <;> simp at hlength <;> omega
  have hword := word16_be _ hsmall
  generalize hbody : kind :: be 2 payload.length ++ payload = body
  have hlen : body.length = payload.length + 3 := by rw [← hbody]; simp [be_length]; omega
  have hsent : kind :: BitVec.ofNat 8 (payload.length / 256) :: BitVec.ofNat 8 payload.length ::
      (payload ++ be 2 (crc body).toNat) = body ++ be 2 (crc body).toNat := by rw [← hbody, be_two payload.length]; rfl
  have hwords := Device.foldl_rxWord (l1 := BitVec.ofNat 8 (payload.length / 256)) (l0 := BitVec.ofNat 8 payload.length)
    (rest := payload ++ be 2 (crc body).toNat) hkind (by rwa [hword])
    (by rw [hword, List.length_append, be_length]) _ [] (d.withRx (some [])) (List.cons_ne_nil _ _) rfl rfl
  have hagrees : (crc body).toNat = ofBe (be 2 (crc body).toNat) := by
    rw [be_two]
    exact (ofBe_eq_iff _ _ _ (crc body).isLt).mpr (be_two _).symm
  rw [hsent, hword, List.take_left' hlen, List.drop_left' hlen, Device.endFrame_of_agrees hagrees, Device.withRx_withRx,
    Device.withRx_self hrx] at hwords
  have hpayload : body.drop 3 = payload := by rw [← hbody, be_two]; rfl
  rw [hpayload] at hwords
  rw [frameWords, hbody, List.foldl_cons, ← hwords]
  have hdelimiter : d.rxWord .delimiter = d.withRx (some []) := by
    simp only [Device.rxWord, hrx]
    rfl
  rw [hdelimiter]

theorem inboundKind_iff (b : Byte) : inboundKind b = true ↔ b = 1 ∨ b = 2 := by simp [inboundKind]

theorem inboundLength_iff {kind : Byte} (h : kind = 1 ∨ kind = 2) (n : Nat) :
    inboundLength kind n = true ↔ (kind = 2 ∧ n = 1) ∨ (kind = 1 ∧ 2 ≤ n ∧ n ≤ 512) := by
  rcases h with rfl | rfl <;> simp [inboundLength]

/-- The payload of a Credit frame is its grant; that of an Order frame its tag, its code and its parameters. -/
theorem Device.acceptFrame_received (d : Device) {l1 l0 : Byte} {rest : List Byte} {n : Nat} (hrest : rest.length = n + 2) :
    (n = 1 → d.acceptFrame 2 (((2 :: l1 :: l0 :: rest).take (n + 3)).drop 3) = d.grantCredit (rest.getD 0 0)) ∧
    (2 ≤ n → d.acceptFrame 1 (((1 :: l1 :: l0 :: rest).take (n + 3)).drop 3) =
      d.orderArrives (rest.getD 0 0) (rest.getD 1 0) ((rest.drop 2).take (n - 2))) := by
  refine ⟨?_, fun hn => ?_⟩
  · rintro rfl
    match rest, hrest with
    | grant :: more, _ => rfl
  · match rest, hrest with
    | tag :: code :: more, _ =>
      obtain ⟨k, rfl⟩ : ∃ k, n = k + 2 := ⟨n - 2, by omega⟩
      rfl
    | [_], hlen => simp at hlen

/-- What a byte does within a frame, by the bytes that have come. -/
theorem Device.rxByte_cases {d : Device} {newest : List Byte} (hrx : d.trunk.rx = some newest) {b : Byte} {got : List Byte}
    (hgot : newest.reverse ++ [b] = got) :
    let kind := got.headD 0
    let stated := (got.getD 1 0).toNat * 256 + (got.getD 2 0).toNat
    let listed : Prop := (kind = 2 ∧ stated = 1) ∨ (kind = 1 ∧ 2 ≤ stated ∧ stated ≤ 512)
    let agrees : Prop := got.drop (stated + 3) = be 2 (crc (got.take (stated + 3))).toNat
    (got.length = 1 →
      (kind = 1 ∨ kind = 2 → d.rxByte b = d.withRx (some (b :: newest))) ∧
      (kind ≠ 1 → kind ≠ 2 → d.rxByte b = d.discardFrame none)) ∧
    (got.length = 2 → d.rxByte b = d.withRx (some (b :: newest))) ∧
    (3 ≤ got.length → kind = 1 ∨ kind = 2 →
      (¬ listed → d.rxByte b = d.discardFrame none) ∧
      (listed → got.length ≠ stated + 5 → d.rxByte b = d.withRx (some (b :: newest))) ∧
      (listed → got.length = stated + 5 →
        (¬ agrees → d.rxByte b = d.discardFrame none) ∧
        (agrees → kind = 2 → d.rxByte b = (d.withRx none).grantCredit (got.getD 3 0)) ∧
        (agrees → kind = 1 →
          d.rxByte b = (d.withRx none).orderArrives (got.getD 3 0) (got.getD 4 0) ((got.drop 5).take (stated - 2))))) := by
  match got, hgot with
  | [], h => simp at h
  | [x], h =>
    obtain ⟨hnewest, hb⟩ := List.append_inj' (t₁ := [b]) (s₂ := []) (t₂ := [x]) h rfl
    obtain rfl : newest = [] := List.reverse_eq_nil_iff.mp hnewest
    obtain rfl : b = x := List.singleton_injective hb
    have hfirst := Device.rxByte_first hrx b
    refine ⟨fun _ => ⟨fun hk => ?_, fun h1 h2 => ?_⟩, fun h2 => absurd h2 (by simp), fun h3 => absurd h3 (by simp)⟩
    · rw [hfirst, if_pos ((inboundKind_iff b).mpr hk)]
    · rw [hfirst, if_neg (fun hk => ((inboundKind_iff b).mp hk).elim h1 h2)]
  | [x, y], h =>
    obtain ⟨hnewest, hb⟩ := List.append_inj' (t₁ := [b]) (s₂ := [x]) (t₂ := [y]) h rfl
    obtain rfl : newest = [x] := by simpa using congrArg List.reverse hnewest
    exact ⟨fun h1 => absurd h1 (by simp), fun _ => Device.rxByte_second hrx b, fun h3 => absurd h3 (by simp)⟩
  | x :: y :: z :: rest, h =>
    intro kind stated listed agrees
    refine ⟨fun h1 => absurd h1 (by simp), fun h2 => absurd h2 (by simp), fun _ hk => ?_⟩
    have hlater := Device.rxByte_later hrx h
    rw [show (word16 y z).toNat = stated from word16_toNat y z] at hlater
    have hlength : inboundLength x stated = true ↔ listed := inboundLength_iff hk stated
    have hlen : (x :: y :: z :: rest).length = rest.length + 3 := rfl
    refine ⟨fun hout => ?_, fun hin hmore => ?_, fun hin hlast => ?_⟩
    · rw [hlater, Bool.eq_false_iff.mpr (fun h => hout (hlength.mp h))]
      rfl
    · rw [hlater, hlength.mpr hin, if_neg (show ¬ rest.length = stated + 2 by omega)]
      rfl
    · have hrest : rest.length = stated + 2 := by omega
      have hcheck : ∃ p q, (x :: y :: z :: rest).drop (stated + 3) = [p, q] :=
        List.length_eq_two.mp (by rw [List.length_drop, hlen, hrest]; omega)
      obtain ⟨p, q, hpq⟩ := hcheck
      have hagrees : (crc ((x :: y :: z :: rest).take (stated + 3))).toNat = ofBe [p, q] ↔ agrees := by
        rw [ofBe_eq_iff p q _ (crc _).isLt, ← hpq]
      have hend : d.rxByte b = d.endFrame x ((x :: y :: z :: rest).take (stated + 3)) [p, q] := by
        rw [hlater, hlength.mpr hin, if_pos hrest, hpq]
        rfl
      have haccept := (d.withRx none).acceptFrame_received (l1 := y) (l0 := z) hrest
      refine ⟨fun hbad => ?_, fun hgood hcredit => ?_, fun hgood horder => ?_⟩
      · rw [hend, Device.endFrame_of_differs (fun h => hbad (hagrees.mp h))]
      · obtain rfl : x = 2 := hcredit
        have hone : stated = 1 := hin.elim (fun h => h.2) (fun h => absurd h.1 (show ¬ (2 : Byte) = 1 by decide))
        rw [hend, Device.endFrame_of_agrees (hagrees.mpr hgood)]
        exact haccept.1 hone
      · obtain rfl : x = 1 := horder
        have htwo : 2 ≤ stated := hin.elim (fun h => absurd h.1 (show ¬ (1 : Byte) = 2 by decide)) (fun h => h.2.1)
        rw [hend, Device.endFrame_of_agrees (hagrees.mpr hgood)]
        exact haccept.2 htwo

/-- Settles O52, by the cases of one byte and `Device.rxWord_frame`. -/
theorem framesWordByWord : Obligations.FramesWordByWord := by
  refine ⟨fun s w hs hup => ?_, fun d => ⟨fun hrx => ⟨?_, ?_, fun b => ?_⟩, fun newest hrx => ⟨?_, ?_, fun b => ?_⟩⟩,
    fun d => ⟨fun grant => rfl, fun hrx => ⟨fun grant => ?_, fun tag code params hshort => ?_⟩⟩⟩
  · rw [exec_running hs]
    exact congrArg (becomes s) (Device.trunkWord_of_up hup w)
  · simp only [Device.rxWord, hrx]
    rfl
  · simp only [Device.rxWord, hrx]
    rfl
  · exact Device.rxByte_of_closed hrx b
  · simp only [Device.rxWord, hrx]
    rfl
  · simp only [Device.rxWord, hrx]
    rfl
  · exact d.rxByte_cases hrx rfl
  · exact Device.rxWord_frame hrx rfl rfl
  · refine Device.rxWord_frame hrx rfl ?_
    simp [inboundLength]
    omega

end Sys2Proof.Machine

/-! # Outbound frames (sections 9.6 and 11.1) -/

namespace Sys2Proof.Machine

/-! ## The arbiter (R169, R170) -/

theorem Device.settleStall_settleStall (d : Device) : d.settleStall.settleStall = d.settleStall := by
  cases h : d.stallRuns with
  | false =>
    rw [Device.settleStall_of_stops h]
    exact Device.settleStall_of_stops (d := { d with trunk := { d.trunk with stallLeft := none } }) h
  | true =>
    rw [Device.settleStall_of_runs h]
    exact Device.settleStall_of_runs
      (d := { d with trunk := { d.trunk with stallLeft := some (d.trunk.stallLeft.getD d.trunk.stallLoad) } }) h

theorem becomes_settleStall (s : State) (d : Device) : becomes s d.settleStall = becomes s d := by
  rw [becomes, Device.settleStall_settleStall, becomes]

/-- A frame begins: the part is as the arbiter's choice leaves it. -/
theorem exec_frameBegin {s : State} (hs : s.dev.resetLow = false) (hup : s.dev.trunk.link = .up)
    (hcredit : 0 < s.dev.trunk.credit) (hframe : s.dev.trunk.frame = none) :
    exec .frameBegin s = becomes s s.dev.sendNext := by
  rw [exec_running hs]
  exact congrArg (becomes s) (if_pos ⟨hup, hcredit, hframe⟩)

theorem exec_frameBegin_of_idle {s : State} (hs : s.dev.resetLow = false)
    (h : s.dev.trunk.link ≠ .up ∨ s.dev.trunk.credit = 0 ∨ s.dev.trunk.frame ≠ none) :
    exec .frameBegin s = becomes s s.dev := by
  rw [exec_running hs]
  refine congrArg (becomes s) (if_neg fun ⟨hup, hcredit, hframe⟩ => ?_)
  rcases h with h | h | h
  · exact h hup
  · omega
  · exact h hframe

section SendNext
variable {d : Device}

theorem Device.sendNext_reply {r : Reply} {rest : List Reply} (h : d.trunk.replies = r :: rest) :
    d.sendNext = d.sendReply r rest := by
  simp only [Device.sendNext, h]

theorem Device.sendNext_notice {i : SetId} {rest : List SetId} (h1 : d.trunk.replies = [])
    (h : d.cond.noticeQueue = i :: rest) : d.sendNext = d.sendNotice i rest := by
  simp only [Device.sendNext, h1, h]

theorem Device.sendNext_panelReport {r : PanelReport} {rest : List PanelReport} (h1 : d.trunk.replies = [])
    (h2 : d.cond.noticeQueue = []) (h : d.trunk.panelReports = r :: rest) : d.sendNext = d.sendPanelReport r rest := by
  simp only [Device.sendNext, h1, h2, h]

theorem Device.sendNext_verdict {r : VerdictReport} {rest : List VerdictReport} (h1 : d.trunk.replies = [])
    (h2 : d.cond.noticeQueue = []) (h3 : d.trunk.panelReports = []) (h : d.trunk.verdicts = r :: rest) :
    d.sendNext = d.sendVerdict r rest := by
  simp only [Device.sendNext, h1, h2, h3, h]

theorem Device.sendNext_crop {i : Nat} {rest : List Nat} (h1 : d.trunk.replies = []) (h2 : d.cond.noticeQueue = [])
    (h3 : d.trunk.panelReports = []) (h4 : d.trunk.verdicts = []) (h : d.cropQueue = i :: rest) :
    d.sendNext = d.sendCrop i := by
  simp only [Device.sendNext, h1, h2, h3, h4, h]

theorem Device.sendNext_nothing (h1 : d.trunk.replies = []) (h2 : d.cond.noticeQueue = [])
    (h3 : d.trunk.panelReports = []) (h4 : d.trunk.verdicts = []) (h : d.cropQueue = []) : d.sendNext = d := by
  simp only [Device.sendNext, h1, h2, h3, h4, h]

end SendNext

/-! ## What a freed place lets happen (R142, R167) -/

theorem Device.decodeNext_of_empty {d : Device} (h : d.trunk.inbound = []) : d.decodeNext = d := by
  simp only [Device.decodeNext, h]

theorem Device.decodeNext_of_room {d : Device} {o : QueuedOrder} {more : List QueuedOrder}
    (h : d.trunk.inbound = o :: more) (hroom : d.replyPlaces < 16) : d.decodeNext =
      takeOrder o.tag o.order { d with trunk := { d.trunk with inbound := more } } := by
  have hr : d.replyRoom = true := decide_eq_true hroom
  simp only [Device.decodeNext, h, hr, if_true]
  rfl

theorem Device.decodeNext_of_full {d : Device} (hfull : 16 ≤ d.replyPlaces) : d.decodeNext = d := by
  have hr : d.replyRoom = false := decide_eq_false (by omega)
  unfold Device.decodeNext
  split
  · rfl
  · rw [hr]
    rfl

theorem Device.retireFrom_of_full {d : Device} (h : 8 ≤ d.trunk.panelReports.length) (rs : List (LaneId × Fin 4)) :
    Device.retireFrom rs d = { d with retireOrder := rs } := by
  cases rs with
  | nil => rfl
  | cons r rs => exact if_neg (by omega)

theorem Device.retireFrom_of_last_place {d : Device} {l : LaneId} {n : Fin 4} {c : Context}
    (h : d.trunk.panelReports.length = 7) (hc : (d.lane l).ctx n = some c) (more : List (LaneId × Fin 4)) :
    Device.retireFrom ((l, n) :: more) d =
      { withLane d l { d.lane l with live := (d.lane l).live.filter (fun x => decide (x.num ≠ n)) } with
        trunk := { d.trunk with panelReports :=
          d.trunk.panelReports ++ [{ lane := l, ctx := c, jointCount := (d.slot c.slot).hdr.jointCount.toNat }] },
        retireOrder := more } := by
  have hfull : 8 ≤ (d.retireNow l n).trunk.panelReports.length := by
    rw [Device.retireNow_panelReports hc, List.length_append, h]
    rfl
  rw [Device.retireFrom, if_pos (by omega), Device.retireFrom_of_full hfull, Device.retireNow_of_ctx hc]
  rfl

/-! ## The payloads (R188) -/

theorem laneByte_eq (l : LaneId) : laneByte l = BitVec.ofNat 8 (laneCode l) := by cases l <;> rfl

theorem setByte_eq (i : SetId) : setByte i = BitVec.ofNat 8 (setCode i) := by
  rcases i with _ | l | ⟨l, q⟩
  · rfl
  · cases l <;> rfl
  · cases l <;> cases q <;> rfl

/-- The registration fields of a panel report, before whatever follows them. -/
theorem panelReportRegBytes_eq (x : RegState) (rest : List Byte) : ∀ cause, cause = (regCause x).elim 0 regCauseCode →
    code1 (regStateCode x) ++ (offsetBytes ((regOffset x).getD (0, 0)) ++ (code1 cause ++ rest)) =
      (match x with
       | .pending => [0, 0, 0, 0]
       | .found dx dy => [1] ++ signed dx ++ signed dy ++ [0]
       | .failed y => [2, 0, 0, BitVec.ofNat 8 (regCauseCode y)]) ++ rest := by
  rintro _ rfl
  cases x <;> simp [regStateCode, regOffset, regCause, offsetBytes, code1_eq, signed_zero]

/-- A panel report, field by field (Table 11-5). -/
theorem panelReportPayload_eq (r : PanelReport) :
    let byte (x : Nat) : Byte := BitVec.ofNat 8 x
    let bit (b : Bool) (x : Nat) : Nat := if b then x else 0
    let c := r.ctx
    panelReportPayload r =
      [laneByte r.lane, slotByte c.num] ++ be 2 c.seq.toNat ++ [slotByte c.slot] ++ be 4 c.recipeId.toNat ++
         be 4 c.edge.toNat ++ be 4 c.scanStart.toNat ++ be 2 (c.firstTag.getD 0).toNat ++
         (match c.reg.state with
          | .pending => [0, 0, 0, 0]
          | .found dx dy => [1] ++ signed dx ++ signed dy ++ [0]
          | .failed x => [2, 0, 0, byte (regCauseCode x)]) ++
         [byte c.reg.detail.length] ++ c.reg.detail.flatMap (fun e => byte e.1 ::
           (match e.2 with
            | .found a dx dy => [0] ++ be 2 a ++ signed dx ++ signed dy
            | .notFound a => [1] ++ be 2 a ++ [0, 0]
            | .lost => [2, 0, 0, 0, 0]
            | .notClosed => [3, 0, 0, 0, 0])) ++
         be 2 r.jointCount ++ be 2 c.opened ++ be 2 c.pass ++ be 2 c.marginal ++ be 2 c.defect ++
         be 2 (c.causes.registration + c.causes.windowOverflow + c.causes.aborted + c.causes.dataLoss + c.causes.warmup +
           c.causes.overlap) ++
         be 2 c.injected ++ be 2 c.causes.registration ++ be 2 c.causes.windowOverflow ++ be 2 c.causes.aborted ++
         be 2 c.causes.dataLoss ++ be 2 c.causes.warmup ++ be 2 c.causes.overlap ++ be 2 c.verdictsLost ++
         be 2 c.cropsMissed ++
         [byte (abortCode c.abort), byte (decisionCode c.decision), byte (gateActionCode c.gateAction),
          byte (bit c.late 1 + bit c.firstTag.isSome 2 + bit c.reg.injected 4)] := by
  have hmarks : ∀ a b c : Bool, boolCode a + 2 * boolCode b + 4 * boolCode c =
      (if a then 1 else 0) + (if b then 2 else 0) + (if c then 4 else 0) := by decide
  unfold panelReportPayload
  simp only [hmarks, fidReportBytes_eq, causeCountBytes, Context.unjudged, List.append_assoc]
  rw [panelReportRegBytes_eq r.ctx.reg.state _ _ (by cases regCause r.ctx.reg.state <;> rfl)]
  simp only [code1_eq, laneByte_eq, slotByte_eq, List.append_assoc, List.cons_append, List.nil_append] <;> rfl

/-- A crop report, field by field: its slot's number, its owner and the pixels of the three planes. -/
theorem cropReportPayload_eq (i : Nat) (x : CropSlot) (o : CropOwner) (h : x.owner = some o) : cropReportPayload i x =
    [BitVec.ofNat 8 i, laneByte o.lane] ++ be 2 o.seq.toNat ++ be 2 o.joint ++ be 2 o.firstCol ++ be 2 o.firstLine ++
      [BitVec.ofNat 8 o.width, BitVec.ofNat 8 o.height, o.phases] ++
      (List.range 12288).map (fun a => x.planes.read a) := by
  simp only [cropReportPayload, h, code1_eq, laneByte_eq, Memory.readList, Nat.zero_add, List.append_assoc,
    List.cons_append, List.nil_append]

/-- The notice's contents are those of its set, whatever stands in the notice queue. -/
theorem Device.sendNotice_eq (d : Device) (i : SetId) (rest : List SetId) : d.sendNotice i rest =
    { d with
      trunk := d.trunk.send .notice (noticePayload d.cond i),
      cond := { d.cond.set i { d.cond.get i with noticePending := false } with noticeQueue := rest } } := by
  have hkept : ∀ j, ((d.cond.mod i fun c => { c with noticePending := false }).get j).raised = (d.cond.get j).raised ∧
      ((d.cond.mod i fun c => { c with noticePending := false }).get j).mask = (d.cond.get j).mask := fun j => by
    rw [CondUnit.get_mod]
    split <;> exact ⟨rfl, rfl⟩
  have hpayload : noticePayload { d.cond.mod i fun c => { c with noticePending := false } with noticeQueue := rest } i =
      noticePayload d.cond i := by
    rw [noticePayload, noticePayload, conditionsRecord, conditionsRecord, ← CondUnit.view_congr hkept i, ← (hkept i).2]
    rfl
  rw [Device.sendNotice]
  simp only [Device.modTrunk, hpayload]
  rfl

theorem Device.sendCrop_eq {d : Device} {i : Nat} {rest : List Nat} {x : CropSlot} (hqueue : d.cropQueue = i :: rest)
    (hrest : i ∉ rest) (hx : d.crops[i]? = some x) : d.sendCrop i =
      { d with
        trunk := d.trunk.send .cropReport (cropReportPayload i x),
        crops := d.crops.set i { x with state := .free, owner := none },
        cropQueue := rest } := by
  have hslot : d.crops.getD i .free = x := by rw [List.getD_eq_getElem?_getD, hx]; rfl
  have hcrops : d.crops.modify i (fun s => { s with state := .free, owner := none }) =
      d.crops.set i { x with state := .free, owner := none } := by
    rw [List.modify_eq_set_getElem?, hx]
    rfl
  have hleft : d.cropQueue.filter (fun j => decide (j ≠ i)) = rest := by
    rw [hqueue, List.filter_cons_of_neg (by simp), List.filter_eq_self]
    exact fun j hj => decide_eq_true fun h => hrest (h ▸ hj)
  rw [Device.sendCrop, hslot]
  simp only [Device.freeCrop, Device.modCrop, Device.modTrunk, hcrops, hleft]

/-- Settles O53, by the arbiter's choice, what a freed place lets happen, and the payloads field by field. -/
theorem framesBeginAndEnd : Obligations.FramesBeginAndEnd := by
  intro s hs d t sent
  have hcomplete : exec .frameComplete s = becomes s { d with trunk := { t with frame := none } } := exec_running hs
  refine ⟨hcomplete, exec_frameBegin_of_idle hs, fun hup hcredit hframe => ?_, fun u hu => ?_,
    fun f hf => d.trkTx_of_frame f hs hf, fun r => ?_, fun u i => ?_, panelReportPayload_eq, cropReportPayload_eq⟩
  · have hbegin := exec_frameBegin hs hup hcredit hframe
    refine ⟨fun r rest hr => ?_, fun i rest h1 hi => ?_, fun r rest h1 h2 hr => ?_, fun r rest h1 h2 h3 hr => ?_,
      fun i rest x h1 h2 h3 h4 hi hrest hx => ?_, fun h1 h2 h3 h4 h5 => ?_⟩
    · intro e
      have hsent : exec .frameBegin s = becomes s e.settleStall.decodeNext :=
        hbegin.trans (congrArg (becomes s) (Device.sendNext_reply hr))
      have hinbound : e.settleStall.trunk.inbound = t.inbound := Device.settleStall_trunk_inbound e
      have hplaces : e.settleStall.replyPlaces = rest.length + d.validation.toList.length := by
        rw [Device.replyPlaces, Device.settleStall_trunk_replies, Device.settleStall_validation]
      refine ⟨hsent, fun hempty => ?_, fun o more hwait => ⟨fun hroom => ?_, fun hfull => ?_⟩⟩
      · rw [hsent, Device.decodeNext_of_empty (hinbound.trans hempty), becomes_settleStall]
      · exact Device.decodeNext_of_room (hinbound.trans hwait) (hplaces ▸ hroom)
      · rw [hsent, Device.decodeNext_of_full (hplaces ▸ hfull), becomes_settleStall]
    · rw [hbegin, Device.sendNext_notice h1 hi, Device.sendNotice_eq]
      rfl
    · intro e
      have hsent : exec .frameBegin s = becomes s (Device.retireFrom d.retireOrder e) :=
        hbegin.trans (congrArg (becomes s) (Device.sendNext_panelReport h1 h2 hr))
      refine ⟨hsent, fun hnone => ?_, fun hfull => Device.retireFrom_of_full hfull _, fun l n more c horder hlast hc => ?_⟩
      · rw [hnone]
        exact congrArg (fun rs => { e with retireOrder := rs }) hnone.symm
      · rw [horder]
        exact Device.retireFrom_of_last_place (d := e) hlast hc more
    · rw [hbegin, Device.sendNext_verdict h1 h2 h3 hr]
      rfl
    · rw [hbegin, Device.sendNext_crop h1 h2 h3 h4 hi, Device.sendCrop_eq hi hrest hx]
      rfl
    · rw [hbegin, Device.sendNext_nothing h1 h2 h3 h4 h5]
  · rw [hcomplete, becomes, Host.Outcome.next.injEq] at hu
    subst hu
    exact Device.trkTx_of_idle _ ((Device.settleStall_resetLow _).trans hs) (Device.settleStall_trunk_frame _)
  · simp only [replyPayload, code1_eq]
    rfl
  · simp only [noticePayload, conditionsRecord, code1_eq, setByte_eq, List.append_assoc]

end Sys2Proof.Machine

/-! # Entries that leave and join an outstanding list (R58 to R60, R67) -/

namespace Sys2Proof.Machine

/-- What entries resolved together raise. -/
def lostConds (es : List Entry) : Word16 := if es.any (fun e => decide (e.kind = .triggered)) then PortCond.lineLost.bit else 0

theorem word16_or_zero (x : Word16) : x ||| 0 = x := BitVec.or_zero

@[simp] theorem lostConds_nil : lostConds [] = 0 := rfl

theorem lostConds_append (es fs : List Entry) : lostConds (es ++ fs) = lostConds es ||| lostConds fs := by
  simp only [lostConds, List.any_append]
  cases es.any (fun e => decide (e.kind = .triggered)) <;> cases fs.any (fun e => decide (e.kind = .triggered)) <;> rfl

theorem lostConds_of_skipped {es : List Entry} (h : ∀ e ∈ es, e.kind = .skipped) : lostConds es = 0 := by
  have hnone : es.any (fun e => decide (e.kind = .triggered)) = false :=
    List.any_eq_false.mpr fun e he => by simp [h e he]
  rw [lostConds, hnone]
  rfl

/-- From `r` to `q` the entries `es` are passed on as loss markers, oldest first, and `rest` stands in the list; a OneShot
may end by them, and nothing else in the port moves. -/
def PortRun.Passes (es rest : List Entry) (r q : PortRun) : Prop :=
  ∃ m t, q = ({ r.1 with outstanding := rest, fifo := r.1.fifo ++ es.map Entry.marker, mode := m, target := t },
      r.2 ||| lostConds es) ∧
    (es = [] ∨ r.1.mode ≠ .oneShot → m = r.1.mode ∧ t = r.1.target)

theorem PortRun.Passes.refl (r : PortRun) : Passes [] r.1.outstanding r r :=
  ⟨r.1.mode, r.1.target, by simp, fun _ => ⟨rfl, rfl⟩⟩

theorem PortRun.Passes.trans {es fs rest rest' : List Entry} {r q p : PortRun} (h : Passes es rest r q)
    (k : Passes fs rest' q p) : Passes (es ++ fs) rest' r p := by
  obtain ⟨m, t, rfl, hmode⟩ := h
  obtain ⟨m', t', rfl, hmode'⟩ := k
  refine ⟨m', t', ?_, fun hno => ?_⟩
  · rw [List.map_append, lostConds_append, ← List.append_assoc, ← BitVec.or_assoc]
  · have hnone : es = [] ∨ r.1.mode ≠ .oneShot := hno.imp_left fun h => (List.append_eq_nil_iff.mp h).1
    obtain ⟨rfl, rfl⟩ := hmode hnone
    exact hmode' (hno.imp_left fun h => (List.append_eq_nil_iff.mp h).2)

theorem Port.oneShotResolved_eq (p : Port) (e : Entry) : ∃ m t, p.oneShotResolved e = { p with mode := m, target := t } ∧
    (p.mode ≠ .oneShot → m = p.mode ∧ t = p.target) ∧
    (p.mode = .oneShot →
      (p.target = .panel e.seq ∧ e.line = p.n.toNat ∧ e.phase = e.lastPhase → m = .off ∧ t = .absent) ∧
      (¬ (p.target = .panel e.seq ∧ e.line = p.n.toNat ∧ e.phase = e.lastPhase) → m = .oneShot ∧ t = p.target)) := by
  unfold Port.oneShotResolved
  split
  · next h => exact ⟨_, _, rfl, fun hno => absurd h.1 hno, fun _ => ⟨fun _ => ⟨rfl, rfl⟩, fun hno => absurd h.2 hno⟩⟩
  · next h =>
    exact ⟨p.mode, p.target, rfl, fun _ => ⟨rfl, rfl⟩, fun hone => ⟨fun hyes => absurd ⟨hone, hyes⟩ h, fun _ => ⟨hone, rfl⟩⟩⟩

theorem PortRun.resolve_passes (r : PortRun) (e : Entry) : Passes [e] r.1.outstanding r (r.resolve e) := by
  obtain ⟨m, t, heq, hmode, -⟩ := (r.1.put e.marker).oneShotResolved_eq e
  refine ⟨m, t, ?_, fun hno => hmode (hno.resolve_left (by simp))⟩
  unfold PortRun.resolve
  simp only [heq]
  cases hkind : e.kind with
  | triggered => simp [PortRun.emit, lostConds, hkind, Port.put]
  | skipped => simp [lostConds, hkind, Port.put]

theorem PortRun.foldl_resolve_passes (es : List Entry) (r : PortRun) :
    Passes es r.1.outstanding r (es.foldl PortRun.resolve r) := by
  induction es generalizing r with
  | nil => exact .refl r
  | cons e es ih =>
    have hrest := ih (r.resolve e)
    rw [PortRun.resolve_outstanding] at hrest
    exact (r.resolve_passes e).trans hrest

theorem PortRun.resolveFirst_passes (k : Nat) (r : PortRun) :
    Passes (r.1.outstanding.take k) (r.1.outstanding.drop k) r (PortRun.resolveFirst k r) :=
  PortRun.foldl_resolve_passes _ ({ r.1 with outstanding := r.1.outstanding.drop k }, r.2)

theorem List.take_length_takeWhile {α : Type} (f : α → Bool) (xs : List α) : xs.take (xs.takeWhile f).length = xs.takeWhile f :=
  (List.prefix_iff_eq_take.mp (List.takeWhile_prefix f)).symm

theorem List.drop_length_takeWhile {α : Type} (f : α → Bool) (xs : List α) : xs.drop (xs.takeWhile f).length = xs.dropWhile f := by
  have h := List.drop_left (l₁ := xs.takeWhile f) (l₂ := xs.dropWhile f)
  rwa [List.takeWhile_append_dropWhile] at h

theorem PortRun.settleFront_passes (r : PortRun) :
    Passes (r.1.outstanding.takeWhile Entry.isSkipped) (r.1.outstanding.dropWhile Entry.isSkipped) r (PortRun.settleFront r) := by
  have h := PortRun.resolveFirst_passes (r.1.outstanding.takeWhile Entry.isSkipped).length r
  rwa [List.take_length_takeWhile, List.drop_length_takeWhile] at h

theorem PortRun.declareAll_passes (r : PortRun) : Passes r.1.outstanding [] r (PortRun.declareAll r) := by
  have h := PortRun.resolveFirst_passes r.1.outstanding.length r
  rwa [List.take_length, List.drop_length] at h

theorem lostConds_takeWhile_skipped (es : List Entry) : lostConds (es.takeWhile Entry.isSkipped) = 0 :=
  lostConds_of_skipped fun e h => of_decide_eq_true (p := e.kind = .skipped) (List.mem_takeWhile_imp (p := Entry.isSkipped) h)

/-! ## Joining -/

/-- How many entries an entry that joins resolves: those up to one of its own tag and phase, else the oldest of 16. -/
def Port.waysMade (p : Port) (e : Entry) : Nat :=
  match p.outstanding.findIdx? (Entry.same e) with
  | some k => k + 1
  | none => if 16 ≤ p.outstanding.length then 1 else 0

theorem Port.oneShotJoined_eq (p : Port) (e : Entry) :
    ∃ m t, p.oneShotJoined e = { p with mode := m, target := t } ∧ (p.mode ≠ .oneShot → m = p.mode ∧ t = p.target) ∧
      (p.mode = .oneShot → e.line = 0 →
        (p.target = .armed → m = .oneShot ∧ t = .panel e.seq) ∧
          ∀ q, p.target = .panel q → q ≠ e.seq → m = .off ∧ t = .absent) := by
  have hsame : ∃ m t, p = { p with mode := m, target := t } ∧ m = p.mode ∧ t = p.target :=
    ⟨p.mode, p.target, rfl, rfl, rfl⟩
  unfold Port.oneShotJoined
  split
  · next h =>
    cases htarget : p.target with
    | armed => exact ⟨p.mode, .panel e.seq, rfl, fun hno => absurd h.1 hno, fun _ _ => ⟨fun _ => ⟨h.1, rfl⟩, by simp⟩⟩
    | absent =>
      exact ⟨p.mode, p.target, rfl, fun _ => ⟨rfl, htarget⟩, fun _ _ => ⟨by simp, by simp⟩⟩
    | panel q =>
      by_cases hq : q = e.seq
      · refine ⟨p.mode, p.target, if_pos hq, fun _ => ⟨rfl, htarget⟩, fun _ _ => ⟨by simp, fun x hx hne => ?_⟩⟩
        exact absurd ((Target.panel.inj hx).symm.trans hq) hne
      · exact ⟨.off, .absent, if_neg hq, fun hno => absurd h.1 hno, fun _ _ => ⟨by simp, fun _ _ _ => ⟨rfl, rfl⟩⟩⟩
  · next h => exact ⟨p.mode, p.target, rfl, fun _ => ⟨rfl, rfl⟩, fun hone hline => absurd ⟨hone, hline⟩ h⟩

theorem List.takeWhile_append_again {α : Type} (f : α → Bool) (xs ys : List α) :
    (xs ++ ys).takeWhile f = xs.takeWhile f ++ (xs.dropWhile f ++ ys).takeWhile f := by
  induction xs with
  | nil => rfl
  | cons x xs ih => cases h : f x <;> simp [h, ih]

theorem List.dropWhile_append_again {α : Type} (f : α → Bool) (xs ys : List α) :
    (xs ++ ys).dropWhile f = (xs.dropWhile f ++ ys).dropWhile f := by
  induction xs with
  | nil => rfl
  | cons x xs ih => cases h : f x <;> simp [h, ih]

/-- The list an entry leaves when it has joined, before the Skipped entries at its front are resolved. -/
def Port.joined (p : Port) (e : Entry) : List Entry := p.outstanding.drop (p.waysMade e) ++ [e]

/-- The entries resolved when an entry joins. -/
def Port.goneBy (p : Port) (e : Entry) : List Entry :=
  p.outstanding.take (p.waysMade e) ++ (p.joined e).takeWhile Entry.isSkipped

theorem PortRun.resolveFirst_settleFront_passes (k : Nat) (r : PortRun) :
    Passes (r.1.outstanding.take k ++ (r.1.outstanding.drop k).takeWhile Entry.isSkipped)
      ((r.1.outstanding.drop k).dropWhile Entry.isSkipped) r (PortRun.settleFront (PortRun.resolveFirst k r)) := by
  have hfront := PortRun.settleFront_passes (PortRun.resolveFirst k r)
  rw [PortRun.resolveFirst_outstanding] at hfront
  exact (r.resolveFirst_passes k).trans hfront

/-- Making way passes on entries so that, with the joining entry at the tail, `Port.goneBy` are gone in the end. -/
theorem PortRun.makeWay_passes (e : Entry) (r : PortRun) : ∃ es rest, Passes es rest r (PortRun.makeWay e r) ∧
    es ++ (rest ++ [e]).takeWhile Entry.isSkipped = r.1.goneBy e ∧
    (rest ++ [e]).dropWhile Entry.isSkipped = (r.1.joined e).dropWhile Entry.isSkipped := by
  have hway : ∀ k, k = r.1.waysMade e → ∃ es rest, Passes es rest r (PortRun.settleFront (PortRun.resolveFirst k r)) ∧
      es ++ (rest ++ [e]).takeWhile Entry.isSkipped = r.1.goneBy e ∧
      (rest ++ [e]).dropWhile Entry.isSkipped = (r.1.joined e).dropWhile Entry.isSkipped := by
    rintro _ rfl
    refine ⟨_, _, r.resolveFirst_settleFront_passes _, ?_, (List.dropWhile_append_again _ _ _).symm⟩
    rw [List.append_assoc, ← List.takeWhile_append_again]
    rfl
  unfold PortRun.makeWay
  cases hfind : r.1.outstanding.findIdx? (Entry.same e) with
  | some k => exact hway (k + 1) (by rw [Port.waysMade, hfind])
  | none =>
    dsimp only
    split
    · next hfull => exact hway 1 (by rw [Port.waysMade, hfind]; exact (if_pos hfull).symm)
    · next hfull =>
      have hnone : r.1.waysMade e = 0 := by
        rw [Port.waysMade, hfind]
        exact if_neg hfull
      refine ⟨_, _, .refl r, ?_, ?_⟩ <;> simp [Port.goneBy, Port.joined, hnone]

/-- What joining makes of a port: its list and FIFO, what is raised, and the OneShot. -/
theorem PortRun.join_eq (x : Port) (cs : Word16) (e : Entry) : ∃ m t,
    PortRun.join (x, cs) e = ({ x with
      outstanding := (x.joined e).dropWhile Entry.isSkipped, fifo := x.fifo ++ (x.goneBy e).map Entry.marker,
      mode := m, target := t }, cs ||| lostConds (x.goneBy e)) ∧
    (x.mode ≠ .oneShot → m = x.mode ∧ t = x.target) ∧
    (x.goneBy e = [] → x.mode = .oneShot → e.line = 0 →
      (x.target = .armed → m = .oneShot ∧ t = .panel e.seq) ∧
        ∀ q, x.target = .panel q → q ≠ e.seq → m = .off ∧ t = .absent) := by
  obtain ⟨es, rest, ⟨m, t, hway, hmode⟩, hgone, hleft⟩ := PortRun.makeWay_passes e (x, cs)
  unfold PortRun.join
  dsimp only at hgone hleft hmode hway ⊢
  rw [hway]
  dsimp only
  obtain ⟨m', t', hjoined, hkeeps, hone⟩ := Port.oneShotJoined_eq
    { x with outstanding := rest ++ [e], fifo := x.fifo ++ es.map Entry.marker, mode := m, target := t } e
  dsimp only at hjoined hkeeps hone
  rw [hjoined]
  obtain ⟨m'', t'', hfront, hmode''⟩ := PortRun.settleFront_passes
    ({ x with outstanding := rest ++ [e], fifo := x.fifo ++ es.map Entry.marker, mode := m', target := t' }, cs ||| lostConds es)
  rw [hfront]
  refine ⟨m'', t'', ?_, fun hno => ?_, fun hnone hx hline => ?_⟩
  · dsimp only
    rw [hleft, ← hgone, List.map_append, List.append_assoc, lostConds_append, BitVec.or_assoc]
  · obtain ⟨rfl, rfl⟩ := hmode (.inr hno)
    obtain ⟨rfl, rfl⟩ := hkeeps hno
    exact hmode'' (.inr hno)
  · rw [← hgone, List.append_eq_nil_iff] at hnone
    obtain ⟨rfl, rfl⟩ := hmode (.inl hnone.1)
    obtain ⟨hm, ht⟩ := hmode'' (.inl hnone.2)
    dsimp only at hm ht
    rw [hm, ht]
    exact hone hx hline


theorem Entry.same_iff (e f : Entry) : Entry.same e f = true ↔ f.lineTag = e.lineTag ∧ f.phase = e.phase := by
  rw [Entry.same, Bool.and_eq_true, decide_eq_true_iff, decide_eq_true_iff, eq_comm, eq_comm (a := e.phase)]

/-- The first place where a test holds, read off a list that is cut there. -/
theorem List.findIdx?_cut {α : Type} {f : α → Bool} {older after : List α} {x : α} (hold : ∀ y ∈ older, ¬ f y = true)
    (hx : f x = true) : (older ++ x :: after).findIdx? f = some older.length := by
  rw [List.findIdx?_append, List.findIdx?_eq_none_iff.mpr fun y hy => by simpa using hold y hy]
  simp [List.findIdx?_cons, hx]

theorem List.find?_cut {α : Type} {f : α → Bool} {older after : List α} {x : α} (hold : ∀ y ∈ older, ¬ f y = true)
    (hx : f x = true) : (older ++ x :: after).find? f = some x := by
  rw [List.find?_append, List.find?_eq_none.mpr hold]
  simp [hx]

theorem Port.waysMade_of_same {p : Port} {e f : Entry} {older after : List Entry} (h : p.outstanding = older ++ f :: after)
    (hf : f.lineTag = e.lineTag ∧ f.phase = e.phase) (hold : ∀ g ∈ older, ¬ (g.lineTag = e.lineTag ∧ g.phase = e.phase)) :
    p.waysMade e = older.length + 1 := by
  rw [Port.waysMade, h, List.findIdx?_cut (fun g hg => mt (Entry.same_iff e g).mp (hold g hg)) ((Entry.same_iff e f).mpr hf)]

theorem Port.waysMade_of_other {p : Port} {e : Entry} (h : ∀ f ∈ p.outstanding, ¬ (f.lineTag = e.lineTag ∧ f.phase = e.phase)) :
    p.waysMade e = if 16 ≤ p.outstanding.length then 1 else 0 := by
  rw [Port.waysMade, List.findIdx?_eq_none_iff.mpr fun f hf => by simpa using mt (Entry.same_iff e f).mp (h f hf)]

/-- What a trigger word makes of a port: its entry joins, and in Dark and Noise the list is declared lost (R60). -/
theorem PortRun.trigger_eq (x : Port) (cs : Word16) (e : Entry) :
    let r := PortRun.join ({ x with trigSent := some (triggerWord e.lineTag e.phase) }, cs) e
    PortRun.trigger e (x, cs) = if x.stream = .dark ∨ x.stream = .noise then PortRun.declareAll r else r := by
  intro r
  have hstream : r.1.stream = x.stream := by
    obtain ⟨m, t, hjoin, -⟩ := PortRun.join_eq { x with trigSent := some (triggerWord e.lineTag e.phase) } cs e
    exact congrArg (fun r : PortRun => r.1.stream) hjoin
  unfold PortRun.trigger
  show (match r.1.stream with | .dark | .noise => PortRun.declareAll r | .unknown | .idle | .active => r) = _
  rw [hstream]
  cases x.stream <;> simp

/-! ## Matching -/

theorem Memory.readList_zero (m : Memory) (n : Nat) : m.readList 0 n = (List.range n).map fun i => m.read i := by
  simp only [Memory.readList, Nat.zero_add]

/-- The item by which a matched packet enters a FIFO (R62, R66). -/
def Port.entering (p : Port) (e : Entry) (pixels : List Byte) : Item :=
  let taken := if p.injectionDue e then (List.range 2048).map (fun i => p.pattern.read i) else pixels
  if 4 ≤ (p.fifo.filter Item.isPacket).length then e.marker
  else { e.marker with payload := .packet taken (p.injectionDue e) }

theorem PortRun.enter_eq (e : Entry) (pixels : List Byte) (x : Port) (cs : Word16) : PortRun.enter e pixels (x, cs) =
    ({ x with fifo := x.fifo ++ [x.entering e pixels] },
      cs ||| (if 4 ≤ (x.fifo.filter Item.isPacket).length then PortCond.fifoSlip.bit else 0)) := by
  unfold PortRun.enter Port.entering
  simp only [Memory.readList_zero]
  split
  · rfl
  · rw [word16_or_zero]
    rfl

theorem PortRun.matchPacket_of_cut {x : Port} {cs lineTag : Word16} {ph : Phase} {px : List Byte} {older after : List Entry}
    {e : Entry} (h : x.outstanding = older ++ e :: after)
    (hold : ∀ f ∈ older, ¬ (f.kind = .triggered ∧ f.lineTag = lineTag ∧ f.phase = ph))
    (he : e.kind = .triggered ∧ e.lineTag = lineTag ∧ e.phase = ph) : ∃ m t m' t',
    PortRun.matchPacket lineTag ph px (x, cs) = ({ x with
      outstanding := after.dropWhile Entry.isSkipped,
      fifo := x.fifo ++ older.map Entry.marker ++ [({ x with mode := m, target := t } : Port).entering e px] ++
        (after.takeWhile Entry.isSkipped).map Entry.marker,
      mode := m', target := t' },
      cs ||| lostConds older ||| (if 4 ≤ (x.fifo.filter Item.isPacket).length then PortCond.fifoSlip.bit else 0)) ∧
    (older = [] ∨ x.mode ≠ .oneShot → m = x.mode ∧ t = x.target) ∧
    (x.mode ≠ .oneShot → m' = x.mode ∧ t' = x.target) ∧
    (older = [] → after.takeWhile Entry.isSkipped = [] → x.mode = .oneShot →
      (x.target = .panel e.seq ∧ e.line = x.n.toNat ∧ e.phase = e.lastPhase → m' = .off ∧ t' = .absent) ∧
      (¬ (x.target = .panel e.seq ∧ e.line = x.n.toNat ∧ e.phase = e.lastPhase) → m' = .oneShot ∧ t' = x.target)) := by
  have htest : ∀ f : Entry, (decide (f.kind = .triggered) && decide (f.lineTag = lineTag) && decide (f.phase = ph)) = true ↔
      f.kind = .triggered ∧ f.lineTag = lineTag ∧ f.phase = ph := fun f => by
    simp only [Bool.and_eq_true, decide_eq_true_iff, and_assoc]
  have hno := fun f hf => mt (htest f).mp (hold f hf)
  obtain ⟨m, t, hpass, hmode⟩ := PortRun.resolveFirst_passes older.length (x, cs)
  simp only [h, List.take_left, List.drop_left] at hpass hmode
  have hpackets : (x.fifo ++ older.map Entry.marker).filter Item.isPacket = x.fifo.filter Item.isPacket := by
    have hnone : (older.map Entry.marker).filter Item.isPacket = [] := List.filter_eq_nil_iff.mpr (by simp)
    rw [List.filter_append, hnone, List.append_nil]
  unfold PortRun.matchPacket
  simp only [h, List.findIdx?_cut hno ((htest e).mpr he), List.find?_cut hno ((htest e).mpr he), hpass, List.drop_one,
    List.tail_cons, PortRun.enter_eq]
  have hentering : ∀ xs : List Entry,
      ({ x with outstanding := xs, fifo := x.fifo ++ older.map Entry.marker, mode := m, target := t } : Port).entering e px =
        ({ x with mode := m, target := t } : Port).entering e px := fun xs => by
    simp only [Port.entering, hpackets]
    rfl
  rw [hentering, hpackets]
  obtain ⟨m1, t1, hres, hother, hone⟩ := Port.oneShotResolved_eq
    { x with outstanding := after,
             fifo := x.fifo ++ older.map Entry.marker ++ [({ x with mode := m, target := t } : Port).entering e px],
             mode := m, target := t } e
  obtain ⟨m2, t2, hfront, hmode2⟩ := PortRun.settleFront_passes
    ({ x with outstanding := after,
              fifo := x.fifo ++ older.map Entry.marker ++ [({ x with mode := m, target := t } : Port).entering e px],
              mode := m1, target := t1 },
      cs ||| lostConds older ||| (if 4 ≤ (x.fifo.filter Item.isPacket).length then PortCond.fifoSlip.bit else 0))
  dsimp only at hres hother hone hmode2
  rw [hres, hfront]
  refine ⟨m, t, m2, t2, ?_, hmode, fun hne => ?_, fun hnone hskip hx => ?_⟩
  · rw [lostConds_takeWhile_skipped, word16_or_zero]
    rfl
  · obtain ⟨rfl, rfl⟩ := hmode (.inr hne)
    obtain ⟨rfl, rfl⟩ := hother hne
    exact hmode2 (.inr hne)
  · obtain ⟨rfl, rfl⟩ := hmode (.inl hnone)
    obtain ⟨rfl, rfl⟩ := hmode2 (.inl hskip)
    exact hone hx

end Sys2Proof.Machine

/-! # The stream state of a port (R47 to R55) -/

namespace Sys2Proof.Machine

/-! ## Entry into a stream state -/

theorem word16_zero_or (x : Word16) : 0 ||| x = x := BitVec.zero_or

/-- What entry into Unknown raises besides StateChange, by the last known state (R54). -/
def LastKnown.unknownBit : LastKnown → Word16
  | .idle | .active => PortCond.unknownAfterGood.bit
  | .dark | .noise => PortCond.unknownAfterBad.bit
  | .never => 0

theorem PortRun.enterUnknown_eq {x : Port} (h : x.stream ≠ .unknown) (cs : Word16) : PortRun.enterStream .unknown (x, cs) =
    ({ x with stream := .unknown, fillRun := 0 }, cs ||| PortCond.stateChange.bit ||| x.lastKnown.unknownBit) := by
  unfold PortRun.enterStream
  rw [if_neg h]
  cases hlast : x.lastKnown <;> simp [PortRun.emit, LastKnown.unknownBit, hlast]

theorem PortRun.enterIdle_eq {x : Port} (h : x.stream ≠ .idle) (cs : Word16) : PortRun.enterStream .idle (x, cs) =
    ({ x with stream := .idle, lastKnown := .idle, fillRun := 0, noiseCount := 0 },
      cs ||| PortCond.stateChange.bit ||| PortCond.enteredIdle.bit) := by
  unfold PortRun.enterStream
  rw [if_neg h]
  rfl

theorem PortRun.enterActive_eq {x : Port} (h : x.stream ≠ .active) (cs : Word16) : PortRun.enterStream .active (x, cs) =
    ({ x with stream := .active, lastKnown := .active, fillRun := 0, noiseCount := 0 },
      cs ||| PortCond.stateChange.bit ||| PortCond.enteredActive.bit) := by
  unfold PortRun.enterStream
  rw [if_neg h]
  rfl

theorem PortRun.enterDark_passes {x : Port} (h : x.stream ≠ .dark) (cs : Word16) : PortRun.Passes x.outstanding []
    ({ x with stream := .dark, lastKnown := .dark, fillRun := 0, assembly := none },
      cs ||| PortCond.stateChange.bit ||| PortCond.enteredDark.bit) (PortRun.enterStream .dark (x, cs)) := by
  unfold PortRun.enterStream
  rw [if_neg h]
  exact PortRun.declareAll_passes _

theorem PortRun.enterNoise_passes {x : Port} (h : x.stream ≠ .noise) (cs : Word16) : PortRun.Passes x.outstanding []
    ({ x with stream := .noise, lastKnown := .noise, fillRun := 0 },
      cs ||| PortCond.stateChange.bit ||| PortCond.enteredNoise.bit) (PortRun.enterStream .noise (x, cs)) := by
  unfold PortRun.enterStream
  rw [if_neg h]
  exact PortRun.declareAll_passes _

/-! ## An operation of a port within the part -/

theorem Device.onStream_quiet {d : Device} {p : PortId} {f : PortRun → PortRun} {y : Port} (h : f (d.port p, 0) = (y, 0))
    (hy : y.stream = (d.port p).stream) : d.onStream p f = withPort d p y := by
  have hon : d.onPort p f = withPort d p y := by
    unfold Device.onPort
    rw [h]
    exact Device.raise_zero _ _
  unfold Device.onStream
  dsimp only
  rw [hon, show (withPort d p y).port p = y from (d.port_setPort p p y).trans (if_pos rfl), if_neg fun hchange => hchange.1 hy]

theorem Device.scansPort_iff (d : Device) (p : PortId) : d.scansPort p = true ↔
    ∃ c : Context, (d.lane p.lane).scanningCtx = some c ∧ portIn (d.slot c.slot).hdr.portSet p.loc = true := by
  unfold Device.scansPort
  cases (d.lane p.lane).scanningCtx <;> simp

theorem Device.lane_setPort (d : Device) (p : PortId) (y : Port) : (d.setPort p y).lane p.lane =
    { d.lane p.lane with ports := (d.lane p.lane).ports.set p.loc y } := d.lane_setLane p.lane _

/-- Whether an operation of a port is a camera loss: it takes the port into Dark or Noise while the lane's Scanning panel has
it in its port set (R55). -/
def Device.losesCamera (d : Device) (p : PortId) (now : Stream) : Bool :=
  decide (now ≠ (d.port p).stream) && now.isBad && d.scansPort p

theorem Device.onStream_gate (d : Device) (p : PortId) (f : PortRun → PortRun) :
    ((d.onStream p f).lane p.lane).gate =
      if d.losesCamera p (f (d.port p, 0)).1.stream then (d.lane p.lane).gateAfter .cameraLoss else (d.lane p.lane).gate := by
  have hlane : (d.onPort p f).lane p.lane =
      { d.lane p.lane with ports := (d.lane p.lane).ports.set p.loc (f (d.port p, 0)).1 } := d.lane_setPort p _
  have hscans : (d.onPort p f).scansPort p = d.scansPort p := by
    rw [Device.scansPort, hlane]
    rfl
  have hport : (d.onPort p f).port p = (f (d.port p, 0)).1 := (d.onPort_port p p f).trans (if_pos rfl)
  unfold Device.onStream
  dsimp only
  rw [hscans, hport]
  by_cases h : d.losesCamera p (f (d.port p, 0)).1.stream = true
  · rw [if_pos h, if_pos (by simpa [Device.losesCamera, and_assoc] using h), Device.fault_lane_eq, if_pos rfl, hlane]
    rfl
  · rw [if_neg h, if_neg (by simpa [Device.losesCamera, and_assoc] using h), hlane]

/-- What an event of a port's stream leaves in the next state. -/
theorem becomes_onStream (s : State) (d : Device) (p : PortId) (f : PortRun → PortRun) :
    ∃ t : State, becomes s (d.onStream p f) = .next t ∧ t.dev.port p = (f (d.port p, 0)).1 ∧
      portConds t.dev p = portConds d p ||| (f (d.port p, 0)).2 ∧
      (t.dev.lane p.lane).gate =
        if d.losesCamera p (f (d.port p, 0)).1.stream then (d.lane p.lane).gateAfter .cameraLoss
        else (d.lane p.lane).gate := by
  refine ⟨_, rfl, ?_, ?_, ?_⟩
  · rw [Device.settleStall_port, Device.onStream_port, if_pos rfl]
  · rw [portConds_settleStall, Device.onStream_conds, if_pos rfl]
  · rw [Device.settleStall_lane, Device.onStream_gate]

theorem Device.fault_gate (d : Device) (l : LaneId) (k : FaultKind) :
    ((d.fault l k).lane l).gate = (d.lane l).gateAfter k := by
  rw [Device.fault_lane_eq, if_pos rfl]

/-! ## CAM_SD (R47, R50, R54, R55) -/

theorem exec_camSdInactive {p : PortId} {s : State} (h : s.dev.resetLow = false) :
    exec (.camSdInactive p) s =
      becomes s ((withPort s.dev p { s.dev.port p with camSd := false }).onStream p (PortRun.enterStream .dark)) := by
  rw [exec_of_pin rfl]
  show becomes s (s.dev.camSdFalls p) = _
  unfold Device.camSdFalls
  rw [if_neg]
  · rfl
  · simp [h]

/-- The part with one port's CAM_SD at a level. -/
theorem withPort_self_port (d : Device) (p : PortId) (y : Port) : (withPort d p y).port p = y :=
  (d.port_setPort p p y).trans (if_pos rfl)

/-- A port put in its own place. -/
theorem withPort_self (d : Device) (p : PortId) : withPort d p (d.port p) = d := by
  refine (congrArg (withLane d p.lane) ?_).trans (withLane_self d p.lane)
  rcases p with ⟨l, k⟩
  cases k <;> rfl

theorem exec_camSdActive {p : PortId} {s : State} (h : s.dev.resetLow = false) :
    exec (.camSdActive p) s =
      becomes s (if (s.dev.port p).stream = .dark then
        (withPort s.dev p { s.dev.port p with camSd := true }).onStream p (PortRun.enterStream .unknown)
      else withPort s.dev p { s.dev.port p with camSd := true }) := by
  rw [exec_of_pin rfl]
  show becomes s (s.dev.camSdRises p) = _
  unfold Device.camSdRises
  rw [if_neg]
  · refine congrArg (becomes s) (if_congr ?_ rfl rfl)
    rw [show (s.dev.setPort p { s.dev.port p with camSd := true }).port p = _ from withPort_self_port _ _ _]
  · simp [h]

theorem Device.camWord_of_no_signal {d : Device} {p : PortId} (h : (d.port p).camSd = false) (w : CamWord) :
    d.camWord p w = d := by
  simp [Device.camWord, h]

theorem Device.camWord_of_signal {d : Device} {p : PortId} (h : (d.port p).camSd = true) (w : CamWord) :
    d.camWord p w = d.onStream p (PortRun.word (d.portActive p) w) := by
  simp [Device.camWord, h]

/-- Settles O24, by `PortRun.enterDark_passes`, `PortRun.enterUnknown_eq` and `becomes_onStream`. -/
theorem signalDetectMovesStream : Obligations.SignalDetectMovesStream := by
  intro p s hs x scans
  have hlane : ∀ y : Port, ((withPort s.dev p y).lane p.lane).gate = (s.dev.lane p.lane).gate := fun y => by
    rw [show (withPort s.dev p y).lane p.lane = _ from s.dev.lane_setPort p y]
  have hafter : ∀ y : Port, ((withPort s.dev p y).lane p.lane).gateAfter .cameraLoss =
      (s.dev.lane p.lane).gateAfter .cameraLoss := fun y => by
    rw [show (withPort s.dev p y).lane p.lane = _ from s.dev.lane_setPort p y]
    rfl
  have hscans : ∀ y : Port, (withPort s.dev p y).scansPort p = true ↔ scans := fun y => by
    rw [Device.scansPort_iff, show (withPort s.dev p y).lane p.lane = _ from s.dev.lane_setPort p y]
    rfl
  refine ⟨fun hx => ?_, fun hx => ?_, fun hx => ?_, fun hx => ?_, fun lineTag check ph px w hsd => ?_⟩
  · rw [exec_camSdInactive hs]
    obtain ⟨t, hnext, hport, hconds, hgate⟩ := becomes_onStream s (withPort s.dev p { s.dev.port p with camSd := false }) p
      (PortRun.enterStream .dark)
    obtain ⟨m, u, hdark, -⟩ := PortRun.enterDark_passes (x := { s.dev.port p with camSd := false }) hx 0
    rw [withPort_self_port, hdark] at hport hconds hgate
    have hlost : (withPort s.dev p { s.dev.port p with camSd := false }).losesCamera p .dark = true ↔ scans := by
      have hne : ¬ Stream.dark = (s.dev.port p).stream := fun h => hx h.symm
      rw [← hscans { s.dev.port p with camSd := false }, Device.losesCamera, withPort_self_port]
      simp [hne, Stream.isBad]
    refine ⟨t, hnext, ?_⟩
    rw [hport]
    refine ⟨rfl, rfl, rfl, rfl, rfl, rfl, rfl, rfl, rfl, ?_, fun h => ?_, fun h => ?_⟩
    · simp only [hconds, word16_zero_or, BitVec.or_assoc]
      rfl
    · rw [hgate, if_pos (hlost.mpr h), hafter, Device.fault_gate]
      exact ⟨rfl, congrArg PerFault.cameraLoss ((s.dev.lane p.lane).gateAfter_counts .cameraLoss)⟩
    · rw [hgate, if_neg (mt hlost.mp h), hlane]
  · rw [exec_camSdInactive hs]
    generalize hd : withPort s.dev p { s.dev.port p with camSd := false } = d
    have hport : d.port p = { s.dev.port p with camSd := false } := by rw [← hd, withPort_self_port]
    have hstays : PortRun.enterStream .dark (d.port p, 0) = (d.port p, 0) := if_pos (by rw [hport]; exact hx)
    rw [Device.onStream_quiet hstays rfl, withPort_self, ← hd]
  · rw [exec_camSdActive hs, if_neg hx]
  · rw [exec_camSdActive hs, if_pos hx]
    obtain ⟨t, hnext, hport, hconds, -⟩ := becomes_onStream s (withPort s.dev p { s.dev.port p with camSd := true }) p
      (PortRun.enterStream .unknown)
    rw [withPort_self_port, PortRun.enterUnknown_eq (x := { s.dev.port p with camSd := true }) (by simp [x, hx])] at hport hconds
    refine ⟨t, hnext, hport, hconds.trans ?_⟩
    rw [word16_zero_or, ← BitVec.or_assoc]
    show portConds s.dev p ||| _ ||| x.lastKnown.unknownBit = _
    cases x.lastKnown <;> rfl
  · have hquiet := Device.camWord_of_no_signal hsd
    refine ⟨?_, ?_, ?_, ?_, ?_⟩ <;> rw [exec_running hs]
    · exact congrArg (becomes s) (hquiet .fill)
    · exact congrArg (becomes s) (hquiet (.start lineTag ph))
    · exact congrArg (becomes s) (hquiet (.data px))
    · exact congrArg (becomes s) (hquiet (.lineEnd check))
    · exact congrArg (becomes s) (hquiet (decodeCamWord w))

end Sys2Proof.Machine

/-! # Words on CAM_RX (R47, R48, R51 to R53) -/

namespace Sys2Proof.Machine

/-! ## A word in place and out of place -/

theorem PortRun.word_misplaced {x : Port} {w : CamWord} (h : x.inPlace w = false) (active : Bool) (cs : Word16) :
    PortRun.word active w (x, cs) = PortRun.noiseEvent (x, cs) := by
  simp [PortRun.word, h]

theorem PortRun.word_fill {x : Port} (h : x.assembly = none) (active : Bool) (cs : Word16) :
    PortRun.word active .fill (x, cs) = PortRun.fill (x, cs) := by
  simp [PortRun.word, Port.inPlace, h]

theorem PortRun.word_start {x : Port} (h : x.assembly = none) (active : Bool) (t : Word16) (p : Phase) (cs : Word16) :
    PortRun.word active (.start t p) (x, cs) = PortRun.start t p ({ x with fillRun := 0 }, cs) := by
  simp [PortRun.word, Port.inPlace, h]

theorem PortRun.word_data {x : Port} {a : Assembly} (h : x.assembly = some a) (hroom : a.received < 2048) (active : Bool)
    (px : Byte) (cs : Word16) : PortRun.word active (.data px) (x, cs) =
      ({ x with fillRun := 0, assembly := some { a with received := a.received + 1, pixels := px :: a.pixels } }, cs) := by
  simp [PortRun.word, Port.inPlace, Port.addPixel, h, hroom]

theorem PortRun.word_end {x : Port} {a : Assembly} (h : x.assembly = some a) (hfull : 2048 ≤ a.received) (active : Bool)
    (check : Word16) (cs : Word16) :
    PortRun.word active (.lineEnd check) (x, cs) = PortRun.finish active check ({ x with fillRun := 0 }, cs) := by
  simp [PortRun.word, Port.inPlace, h, hfull]

/-- Between packets and outside Idle and Active a word other than a Violation is in place. -/
theorem Port.inPlace_between {x : Port} (h : x.assembly = none) (hx : x.stream = .unknown ∨ x.stream = .noise) {w : CamWord}
    (hw : w ≠ .violation) : x.inPlace w = true := by
  rcases hx with hx | hx <;> cases w <;> simp_all [Port.inPlace]

theorem PortRun.word_data_between {x : Port} (h : x.assembly = none) (hx : x.stream = .unknown ∨ x.stream = .noise)
    (active : Bool) (px : Byte) (cs : Word16) : PortRun.word active (.data px) (x, cs) = ({ x with fillRun := 0 }, cs) := by
  have hplace : x.inPlace (.data px) = true := Port.inPlace_between h hx (by simp)
  simp only [PortRun.word, hplace, Port.addPixel, h]
  rfl

theorem PortRun.word_end_between {x : Port} (h : x.assembly = none) (hx : x.stream = .unknown ∨ x.stream = .noise)
    (active : Bool) (check cs : Word16) : PortRun.word active (.lineEnd check) (x, cs) = ({ x with fillRun := 0 }, cs) := by
  have hplace : x.inPlace (.lineEnd check) = true := Port.inPlace_between h hx (by simp)
  simp only [PortRun.word, hplace, PortRun.finish, h]
  rfl

/-! ## The words of a port with a signal -/

section
variable {p : PortId} {s : State}

theorem exec_fillWord (hs : s.dev.resetLow = false) (hsd : (s.dev.port p).camSd = true) :
    exec (.fillWord p) s = becomes s (s.dev.onStream p (PortRun.word (s.dev.portActive p) .fill)) :=
  (exec_running hs).trans (congrArg (becomes s) (Device.camWord_of_signal hsd .fill))

theorem exec_startWord (hs : s.dev.resetLow = false) (hsd : (s.dev.port p).camSd = true) (t : Word16) (ph : Phase) :
    exec (.startWord p t ph) s = becomes s (s.dev.onStream p (PortRun.word (s.dev.portActive p) (.start t ph))) :=
  (exec_running hs).trans (congrArg (becomes s) (Device.camWord_of_signal hsd (.start t ph)))

theorem exec_dataWord (hs : s.dev.resetLow = false) (hsd : (s.dev.port p).camSd = true) (px : Byte) :
    exec (.dataWord p px) s = becomes s (s.dev.onStream p (PortRun.word (s.dev.portActive p) (.data px))) :=
  (exec_running hs).trans (congrArg (becomes s) (Device.camWord_of_signal hsd (.data px)))

theorem exec_endWord (hs : s.dev.resetLow = false) (hsd : (s.dev.port p).camSd = true) (check : Word16) :
    exec (.endWord p check) s = becomes s (s.dev.onStream p (PortRun.word (s.dev.portActive p) (.lineEnd check))) :=
  (exec_running hs).trans (congrArg (becomes s) (Device.camWord_of_signal hsd (.lineEnd check)))

theorem exec_violationWord (hs : s.dev.resetLow = false) (hsd : (s.dev.port p).camSd = true) {w : BitVec 24}
    (hw : decodeCamWord w = .violation) :
    exec (.violationWord p w) s = becomes s (s.dev.onStream p (PortRun.word (s.dev.portActive p) .violation)) := by
  rw [exec_running hs, ← hw]
  exact congrArg (becomes s) (Device.camWord_of_signal hsd (decodeCamWord w))

end

/-! ## Fills and packets (R48, R51, R52) -/

theorem PortRun.fill_of_counting {x : Port} (h : x.fillRun < 3 ∨ x.stream = .idle) :
    PortRun.fill (x, 0) = ({ x with fillRun := min 4 (x.fillRun + 1) }, 0) := by
  unfold PortRun.fill
  dsimp only
  rcases h with h | h
  · exact if_neg (by omega)
  · rw [h]
    exact ite_self _

theorem PortRun.fill_of_fourth {x : Port} (h : x.fillRun = 3)
    (hx : x.stream = .unknown ∨ x.stream = .noise ∨ x.stream = .active) : PortRun.fill (x, 0) =
      ({ x with stream := .idle, lastKnown := .idle, fillRun := 0, noiseCount := 0 },
        PortCond.stateChange.bit ||| PortCond.enteredIdle.bit) := by
  unfold PortRun.fill
  dsimp only
  rw [h, if_pos (by rfl)]
  have hne : x.stream ≠ .idle := by rcases hx with hx | hx | hx <;> simp [hx]
  have henter := PortRun.enterIdle_eq (x := { x with fillRun := min 4 (3 + 1) }) hne 0
  rcases hx with hx | hx | hx <;> rw [hx] at henter ⊢ <;> exact henter

theorem PortRun.start_of_unlocked {x : Port} (hx : x.stream = .unknown ∨ x.stream = .noise) (t : Word16) (ph : Phase) :
    PortRun.start t ph (x, 0) = (x, 0) := by
  rcases hx with hx | hx <;> simp [PortRun.start, hx]

/-- A port with a packet begun. -/
def Port.opened (x : Port) (t : Word16) (ph : Phase) : Port :=
  { x with assembly := some { lineTag := t, phase := ph, received := 0, pixels := [] } }

theorem PortRun.start_of_active {x : Port} (hx : x.stream = .active) (t : Word16) (ph : Phase) (cs : Word16) :
    PortRun.start t ph (x, cs) = (x.opened t ph, cs) := by
  simp [PortRun.start, Port.opened, hx]

theorem PortRun.start_of_idle {x : Port} (hx : x.stream = .idle) (t : Word16) (ph : Phase) (cs : Word16) :
    PortRun.start t ph (x, cs) = PortRun.enterStream .active (x.opened t ph, cs) := by
  simp [PortRun.start, Port.opened, hx]

/-- Settles O25, word by word, by `PortRun.fill_of_counting`, `PortRun.fill_of_fourth` and `Device.onStream_quiet`. -/
theorem fillsAndPacketsAssemble : Obligations.FillsAndPacketsAssemble := by
  intro p s lineTag ph px hs x opened hsd
  refine ⟨fun hnone hcount => ?_, fun hnone hthree hx => ?_, fun hx hnone => ?_, fun check hx hnone => ⟨?_, ?_, ?_⟩,
    fun hx hnone => ?_, fun a ha hroom => ?_⟩
  · rw [exec_fillWord hs hsd]
    exact congrArg (becomes s) (Device.onStream_quiet ((PortRun.word_fill hnone _ _).trans (PortRun.fill_of_counting hcount)) rfl)
  · rw [exec_fillWord hs hsd]
    obtain ⟨t, hnext, hport, hconds, -⟩ := becomes_onStream s s.dev p (PortRun.word (s.dev.portActive p) .fill)
    rw [PortRun.word_fill hnone, PortRun.fill_of_fourth hthree hx] at hport hconds
    exact ⟨t, hnext, hport, by rw [hconds, BitVec.or_assoc]⟩
  · rw [exec_startWord hs hsd]
    exact congrArg (becomes s) (Device.onStream_quiet
      ((PortRun.word_start hnone _ _ _ _).trans (PortRun.start_of_active (x := { x with fillRun := 0 }) hx _ _ _)) rfl)
  · rw [exec_startWord hs hsd]
    exact congrArg (becomes s) (Device.onStream_quiet
      ((PortRun.word_start hnone _ _ _ _).trans (PortRun.start_of_unlocked (x := { x with fillRun := 0 }) hx _ _)) rfl)
  · rw [exec_dataWord hs hsd]
    exact congrArg (becomes s) (Device.onStream_quiet (PortRun.word_data_between hnone hx _ _ _) rfl)
  · rw [exec_endWord hs hsd]
    exact congrArg (becomes s) (Device.onStream_quiet (PortRun.word_end_between hnone hx _ _ _) rfl)
  · rw [exec_startWord hs hsd]
    obtain ⟨t, hnext, hport, hconds, -⟩ := becomes_onStream s s.dev p (PortRun.word (s.dev.portActive p) (.start lineTag ph))
    rw [PortRun.word_start hnone, PortRun.start_of_idle (x := { x with fillRun := 0 }) hx, PortRun.enterActive_eq (fun h => by cases hx.symm.trans h)]
      at hport hconds
    exact ⟨t, hnext, hport, by rw [hconds, word16_zero_or, BitVec.or_assoc]⟩
  · rw [exec_dataWord hs hsd]
    exact congrArg (becomes s) (Device.onStream_quiet (PortRun.word_data ha hroom _ _ _) rfl)

end Sys2Proof.Machine

/-! # Noise events (R47, R53 to R56) -/

namespace Sys2Proof.Machine

/-- A port in which a noise event is counted, before its stream state moves (R53, R56). -/
def Port.noisy (x : Port) : Port := { x with
  assembly := none, fillRun := 0, noiseCount := min 16 (x.noiseCount + 1),
  noiseMonitor := if x.noiseMonitor = 0 then 0 else x.noiseMonitor - 1 }

/-- What the noise monitor raises at a noise event (R56). -/
def Port.noiseBit (x : Port) : Word16 := if x.noiseMonitor = 1 then PortCond.noiseThreshold.bit else 0

theorem Byte.pred_eq_zero_iff {b : Byte} (h : b ≠ 0) : b - 1 = 0 ↔ b = 1 := by
  constructor
  · intro h1
    have := congrArg (· + 1) h1
    simpa using this
  · rintro rfl
    rfl

theorem Byte.toNat_pred (b : Byte) : (if b = 0 then 0 else b - 1).toNat = b.toNat - 1 := by
  split
  · next h => simp [h]
  · next h =>
    have hpos : b.toNat ≠ 0 := fun h0 => h (BitVec.eq_of_toNat_eq h0)
    bv_omega

theorem PortRun.countNoise_eq (x : Port) (cs : Word16) : PortRun.countNoise (x, cs) =
    ({ x with noiseMonitor := if x.noiseMonitor = 0 then 0 else x.noiseMonitor - 1 }, cs ||| x.noiseBit) := by
  unfold PortRun.countNoise Port.noiseBit
  by_cases h : x.noiseMonitor = 0
  · have hself : x = { x with noiseMonitor := 0 } := by rw [← h]
    simp only [h, if_true]
    rw [if_neg (by decide), word16_or_zero]
    exact congrArg (·, cs) hself
  · dsimp only
    rw [if_neg h, if_neg h]
    by_cases h1 : x.noiseMonitor = 1
    · rw [if_pos ((Byte.pred_eq_zero_iff h).mpr h1), if_pos h1]
      rfl
    · rw [if_neg (mt (Byte.pred_eq_zero_iff h).mp h1), if_neg h1, word16_or_zero]

/-- A noise event by the state and the count it leaves (R53). -/
theorem PortRun.noiseEvent_eq (x : Port) : PortRun.noiseEvent (x, 0) =
    match x.stream with
    | .unknown => if x.noisy.noiseCount = 16 then PortRun.enterStream .noise (x.noisy, x.noiseBit) else (x.noisy, x.noiseBit)
    | .idle | .active => PortRun.enterStream (if x.noisy.noiseCount = 16 then .noise else .unknown) (x.noisy, x.noiseBit)
    | .noise | .dark => (x.noisy, x.noiseBit) := by
  unfold PortRun.noiseEvent
  rw [PortRun.countNoise_eq, word16_zero_or]
  rfl

theorem PortRun.noiseEvent_of_stays {x : Port}
    (h : x.stream = .noise ∨ x.stream = .dark ∨ (x.stream = .unknown ∧ x.noisy.noiseCount < 16)) :
    PortRun.noiseEvent (x, 0) = (x.noisy, x.noiseBit) := by
  rw [PortRun.noiseEvent_eq]
  rcases h with h | h | ⟨h, hn⟩
  · simp [h]
  · simp [h]
  · simp [h, hn.ne]

theorem PortRun.noiseEvent_of_unknown {x : Port} (h : x.stream = .idle ∨ x.stream = .active) (hn : x.noisy.noiseCount < 16) :
    PortRun.noiseEvent (x, 0) = ({ x.noisy with stream := .unknown },
      x.noiseBit ||| PortCond.stateChange.bit ||| x.lastKnown.unknownBit) := by
  have henter : PortRun.noiseEvent (x, 0) = PortRun.enterStream .unknown (x.noisy, x.noiseBit) := by
    rw [PortRun.noiseEvent_eq]
    rcases h with h | h <;> simp [h, hn.ne]
  rw [henter, PortRun.enterUnknown_eq]
  · rfl
  · rcases h with h | h <;> exact fun hu => by cases h.symm.trans hu

theorem PortRun.noiseEvent_of_noise {x : Port} (h : x.stream = .unknown ∨ x.stream = .idle ∨ x.stream = .active)
    (hn : x.noisy.noiseCount = 16) : PortRun.Passes x.outstanding []
      ({ x.noisy with stream := .noise, lastKnown := .noise },
        x.noiseBit ||| PortCond.stateChange.bit ||| PortCond.enteredNoise.bit) (PortRun.noiseEvent (x, 0)) := by
  have henter : PortRun.noiseEvent (x, 0) = PortRun.enterStream .noise (x.noisy, x.noiseBit) := by
    rw [PortRun.noiseEvent_eq]
    rcases h with h | h | h <;> simp [h, hn]
  rw [henter]
  refine PortRun.enterNoise_passes (x := x.noisy) ?_ _
  rcases h with h | h | h <;> exact fun hu => by cases h.symm.trans hu

/-- The three things a noise event can do to the stream state. -/
theorem Port.noise_cases (x : Port) :
    (x.stream = .noise ∨ x.stream = .dark ∨ (x.stream = .unknown ∧ x.noisy.noiseCount < 16)) ∨
      ((x.stream = .idle ∨ x.stream = .active) ∧ x.noisy.noiseCount < 16) ∨
      ((x.stream = .unknown ∨ x.stream = .idle ∨ x.stream = .active) ∧ x.noisy.noiseCount = 16) := by
  have hle : x.noisy.noiseCount ≤ 16 := Nat.min_le_left _ _
  rcases Nat.lt_or_eq_of_le hle with hn | hn <;> cases h : x.stream <;> simp [hn]

/-- What every noise event leaves in the port. -/
theorem PortRun.noiseEvent_port (x : Port) :
    (PortRun.noiseEvent (x, 0)).1.assembly = none ∧ (PortRun.noiseEvent (x, 0)).1.fillRun = 0 ∧
      (PortRun.noiseEvent (x, 0)).1.noiseCount = x.noisy.noiseCount ∧
      (PortRun.noiseEvent (x, 0)).1.noiseMonitor = x.noisy.noiseMonitor ∧
      ∃ more, (PortRun.noiseEvent (x, 0)).2 = x.noiseBit ||| more := by
  rcases x.noise_cases with h | ⟨h, hn⟩ | ⟨h, hn⟩
  · rw [PortRun.noiseEvent_of_stays h]
    exact ⟨rfl, rfl, rfl, rfl, 0, (word16_or_zero _).symm⟩
  · rw [PortRun.noiseEvent_of_unknown h hn]
    exact ⟨rfl, rfl, rfl, rfl, _, BitVec.or_assoc _ _ _⟩
  · obtain ⟨m, u, heq, -⟩ := PortRun.noiseEvent_of_noise h hn
    rw [heq]
    exact ⟨rfl, rfl, rfl, rfl, _, by rw [BitVec.or_assoc, BitVec.or_assoc]⟩

theorem PortRun.noiseEvent_stream (x : Port) : (PortRun.noiseEvent (x, 0)).1.stream =
    (match x.stream with
     | .unknown => if x.noisy.noiseCount = 16 then .noise else .unknown
     | .idle | .active => if x.noisy.noiseCount = 16 then .noise else .unknown
     | .noise => .noise
     | .dark => .dark) := by
  rcases x.noise_cases with h | ⟨h, hn⟩ | ⟨h, hn⟩
  · rw [PortRun.noiseEvent_of_stays h]
    rcases h with h | h | ⟨h, hn⟩
    · simp [Port.noisy, h]
    · simp [Port.noisy, h]
    · show x.stream = _
      simp [h, hn.ne]
  · rw [PortRun.noiseEvent_of_unknown h hn]
    rcases h with h | h <;> simp [h, hn.ne]
  · obtain ⟨m, u, heq, -⟩ := PortRun.noiseEvent_of_noise h hn
    rw [heq]
    rcases h with h | h | h <;> simp [h, hn]

theorem Device.onStream_congr {d : Device} {p : PortId} {f g : PortRun → PortRun} (h : f (d.port p, 0) = g (d.port p, 0)) :
    d.onStream p f = d.onStream p g := by
  have hon : d.onPort p f = d.onPort p g := by
    unfold Device.onPort
    rw [h]
  unfold Device.onStream
  rw [hon]

/-- Words that are out of place (R47). -/
theorem Port.inPlace_of_open {x : Port} {a : Assembly} (h : x.assembly = some a) :
    x.inPlace .fill = false ∧ (∀ t ph, x.inPlace (.start t ph) = false) ∧
      (∀ px, x.inPlace (.data px) = decide (a.received < 2048)) ∧ ∀ c, x.inPlace (.lineEnd c) = decide (2048 ≤ a.received) := by
  simp [Port.inPlace, h]

theorem Port.inPlace_of_locked {x : Port} (h : x.assembly = none) (hx : x.stream = .idle ∨ x.stream = .active) :
    (∀ px, x.inPlace (.data px) = false) ∧ ∀ c, x.inPlace (.lineEnd c) = false := by
  rcases hx with hx | hx <;> simp [Port.inPlace, h, hx]

/-- Settles O27, by the three cases of a noise event and `PortRun.word_misplaced` for the words out of place. -/
theorem violationIsNoiseEvent : Obligations.ViolationIsNoiseEvent := by
  intro p s w hs hw x n hsd
  obtain ⟨t, hnext, hport, hconds, hgate⟩ := becomes_onStream s s.dev p (PortRun.word (s.dev.portActive p) .violation)
  have hviolation : PortRun.word (s.dev.portActive p) .violation (s.dev.port p, 0) = PortRun.noiseEvent (x, 0) :=
    PortRun.word_misplaced (by simp [Port.inPlace]) _ _
  have hsame : ∀ u : CamWord, x.inPlace u = false →
      becomes s (s.dev.onStream p (PortRun.word (s.dev.portActive p) u)) = .next t := fun u hu => by
    rw [← hnext]
    exact congrArg (becomes s) (Device.onStream_congr ((PortRun.word_misplaced hu _ _).trans hviolation.symm))
  rw [hviolation] at hport hconds hgate
  obtain ⟨hassembly, hfill, hcount, hmonitor, more, hmore⟩ := PortRun.noiseEvent_port x
  refine ⟨t, (exec_violationWord hs hsd hw).trans hnext, ?_⟩
  rw [hport]
  refine ⟨hassembly, hfill, hcount, ?_, ?_, fun hone => ?_, ⟨fun hn hx => ?_, fun hn hx => ?_, fun hx => ?_⟩,
    fun lineTag ph ha => ⟨?_, ?_⟩, fun a px ha hfull => ?_, fun a check ha hroom => ?_, fun px check hnone hx => ⟨?_, ?_⟩⟩
  · rw [hmonitor]
    exact Byte.toNat_pred _
  · exact PortRun.noiseEvent_stream x
  · have hbit : x.noiseBit = PortCond.noiseThreshold.bit := if_pos hone
    rw [hconds, hmore, ← BitVec.or_assoc, hbit, BitVec.raised_and_bit]
    decide
  · obtain ⟨m, u, heq, -⟩ := PortRun.noiseEvent_of_noise hx hn
    rw [heq] at hconds hgate
    have hne : ¬ Stream.noise = (s.dev.port p).stream := fun h => by
      rcases hx with hx | hx | hx <;> cases h.trans hx
    have hlost : s.dev.losesCamera p .noise = true ↔ s.dev.scansPort p = true := by
      simp [Device.losesCamera, hne, Stream.isBad]
    rw [Device.scansPort_iff] at hlost
    rw [heq]
    refine ⟨rfl, rfl, rfl, rfl, rfl, ?_, fun hscans => ?_, fun hscans => ?_⟩
    · rw [hconds]
      simp only [BitVec.or_assoc]
      rfl
    · rw [hgate, if_pos (hlost.mpr hscans), Device.fault_gate]
      exact ⟨rfl, congrArg PerFault.cameraLoss ((s.dev.lane p.lane).gateAfter_counts .cameraLoss)⟩
    · rw [hgate, if_neg (mt hlost.mp hscans)]
  · have heq := PortRun.noiseEvent_of_unknown hx hn
    rw [heq] at hconds hgate
    rw [heq]
    refine ⟨rfl, hgate.trans (if_neg (by simp [Device.losesCamera, Stream.isBad])), ?_⟩
    rw [hconds, ← BitVec.or_assoc, ← BitVec.or_assoc]
    cases hlast : x.lastKnown <;> simp only [LastKnown.unknownBit] <;> rfl
  · have heq := PortRun.noiseEvent_of_stays hx
    rw [heq] at hconds hgate
    rw [heq]
    exact ⟨rfl, hgate.trans (if_neg (by simp [Device.losesCamera, Port.noisy, x])), hconds⟩
  · obtain ⟨a, ha⟩ := Option.ne_none_iff_exists'.mp ha
    rw [exec_fillWord hs hsd, hsame _ (Port.inPlace_of_open ha).1]
  · obtain ⟨a, ha⟩ := Option.ne_none_iff_exists'.mp ha
    rw [exec_startWord hs hsd, hsame _ ((Port.inPlace_of_open ha).2.1 _ _)]
  · rw [exec_dataWord hs hsd, hsame _ (((Port.inPlace_of_open ha).2.2.1 _).trans (decide_eq_false (by omega)))]
  · rw [exec_endWord hs hsd, hsame _ (((Port.inPlace_of_open ha).2.2.2 _).trans (decide_eq_false (by omega)))]
  · rw [exec_dataWord hs hsd, hsame _ ((Port.inPlace_of_locked hnone hx).1 _)]
  · rw [exec_endWord hs hsd, hsame _ ((Port.inPlace_of_locked hnone hx).2 _)]

end Sys2Proof.Machine

/-! # The end of a packet (R48, R56, R58 to R62, R66, R67) -/

namespace Sys2Proof.Machine

theorem PortRun.finish_of_bad {x : Port} {a : Assembly} {check : Word16} (h : x.assembly = some a)
    (hbad : ¬ packetCheck a.lineTag a.phase a.pixels.reverse = check) (active : Bool) (cs : Word16) :
    PortRun.finish active check (x, cs) = PortRun.countBadCheck ({ x with assembly := none }, cs) := by
  simp [PortRun.finish, h, hbad]

theorem PortRun.finish_of_good {x : Port} {a : Assembly} {check : Word16} (h : x.assembly = some a)
    (hgood : packetCheck a.lineTag a.phase a.pixels.reverse = check) (active : Bool) (cs : Word16) :
    PortRun.finish active check (x, cs) =
      if active then PortRun.matchPacket a.lineTag a.phase a.pixels.reverse ({ x with assembly := none }, cs)
      else ({ x with assembly := none }, cs) := by
  simp [PortRun.finish, h, hgood]

theorem PortRun.countBadCheck_eq (x : Port) (cs : Word16) : PortRun.countBadCheck (x, cs) =
    ({ x with checkMonitor := if x.checkMonitor = 0 then 0 else x.checkMonitor - 1 },
      cs ||| if x.checkMonitor = 1 then PortCond.checkThreshold.bit else 0) := by
  unfold PortRun.countBadCheck
  by_cases h : x.checkMonitor = 0
  · have hself : x = { x with checkMonitor := 0 } := by rw [← h]
    simp only [h, if_true]
    rw [if_neg (by decide), word16_or_zero]
    exact congrArg (·, cs) hself
  · dsimp only
    rw [if_neg h, if_neg h]
    by_cases h1 : x.checkMonitor = 1
    · rw [if_pos ((Byte.pred_eq_zero_iff h).mpr h1), if_pos h1]
      rfl
    · rw [if_neg (mt (Byte.pred_eq_zero_iff h).mp h1), if_neg h1, word16_or_zero]

/-- No packet that an entry awaits: a stray one (R60). -/
theorem PortRun.matchPacket_of_none {x : Port} {lineTag : Word16} {ph : Phase}
    (h : ∀ f ∈ x.outstanding, ¬ (f.kind = .triggered ∧ f.lineTag = lineTag ∧ f.phase = ph)) (px : List Byte) (cs : Word16) :
    PortRun.matchPacket lineTag ph px (x, cs) = (x, cs ||| PortCond.strayPacket.bit) := by
  have hno : x.outstanding.findIdx? (fun e => decide (e.kind = .triggered) && decide (e.lineTag = lineTag) && decide (e.phase = ph)) =
      none := List.findIdx?_eq_none_iff.mpr fun f hf => by
    have := h f hf
    simp only [Bool.and_eq_false_iff, decide_eq_false_iff_not]
    tauto
  simp only [PortRun.matchPacket, hno]
  rfl

/-- Whether a packet of an entry is replaced, by the injection mode (R66). -/
theorem Port.injectionDue_eq (x : Port) (e : Entry) : x.injectionDue e =
    (match x.mode with
     | .off => false
     | .continuous => true
     | .periodic => decide (e.line % x.n.toNat = 0)
     | .oneShot => decide (x.target = .panel e.seq ∧ e.line = x.n.toNat)) := by
  unfold Port.injectionDue
  cases x.mode with
  | oneShot => exact (Bool.decide_and _ _).symm
  | off | continuous | periodic => rfl

/-- The packets of a port that matches its oldest entry, with injection Off, room in the FIFO and no skips behind. -/
theorem PortRun.matchPacket_of_oldest {x : Port} {e : Entry} {rest : List Entry} (h : x.outstanding = e :: rest)
    (he : e.kind = .triggered) (hrest : ∀ f ∈ rest, f.kind = .triggered) (hoff : x.mode = .off)
    (hroom : (x.fifo.filter Item.isPacket).length < 4) (px : List Byte) :
    PortRun.matchPacket e.lineTag e.phase px (x, 0) =
      ({ x with outstanding := rest, fifo := x.fifo ++ [{ e.marker with payload := .packet px false }] }, 0) := by
  obtain ⟨m, t, m', t', heq, hmode, hmode', -⟩ := PortRun.matchPacket_of_cut (x := x) (cs := 0) (px := px) (older := [])
    h (by simp) ⟨he, rfl, rfl⟩
  have hnotOne : x.mode ≠ .oneShot := by rw [hoff]; simp
  obtain ⟨rfl, rfl⟩ := hmode (.inl rfl)
  obtain ⟨rfl, rfl⟩ := hmode' hnotOne
  have hfront : rest.takeWhile Entry.isSkipped = [] ∧ rest.dropWhile Entry.isSkipped = rest := by
    cases rest with
    | nil => exact ⟨rfl, rfl⟩
    | cons f fs => simp [Entry.isSkipped, hrest f List.mem_cons_self]
  have hentering : x.entering e px = { e.marker with payload := .packet px false } := by
    have hdue : x.injectionDue e = false := by rw [Port.injectionDue_eq, hoff]
    simp only [Port.entering, hdue]
    exact if_neg (by omega)
  rw [heq, hfront.1, hfront.2, hentering, if_neg (by omega)]
  simp

/-- Settles O26, by `PortRun.matchPacket_of_cut` for the packets and `PortRun.join_eq` for the entries that join. -/
theorem packetCompletes : Obligations.PacketCompletes := by
  refine ⟨?_, ?_, ?_⟩
  · intro p s a check hs x px good hsd ha hfull
    have hword := PortRun.word_end ha hfull (s.dev.portActive p) check 0
    have hbad : ¬ good → PortRun.word (s.dev.portActive p) (.lineEnd check) (s.dev.port p, 0) =
        ({ x with fillRun := 0, assembly := none, checkMonitor := if x.checkMonitor = 0 then 0 else x.checkMonitor - 1 },
          0 ||| if x.checkMonitor = 1 then PortCond.checkThreshold.bit else 0) := fun hbad =>
      hword.trans ((PortRun.finish_of_bad (x := { x with fillRun := 0 }) ha hbad _ _).trans (PortRun.countBadCheck_eq _ _))
    have hgood : good → PortRun.word (s.dev.portActive p) (.lineEnd check) (s.dev.port p, 0) =
        if s.dev.portActive p then PortRun.matchPacket a.lineTag a.phase px ({ x with fillRun := 0, assembly := none }, 0)
        else ({ x with fillRun := 0, assembly := none }, 0) := fun hgood =>
      hword.trans (PortRun.finish_of_good (x := { x with fillRun := 0 }) ha hgood _ _)
    rw [exec_endWord hs hsd]
    refine ⟨fun hb hone => ?_, fun hb hone => ?_, fun hb hzero => ?_, fun hg hidle => ?_,
      fun e rest hg hactive hout he htag hphase hrest hoff hroom => ?_, fun hg hactive => ?_⟩
    · have h0 : ¬ x.checkMonitor = 0 := fun h => by rw [h] at hone; simp at hone
      have h1 : ¬ x.checkMonitor = 1 := fun h => by rw [h] at hone; simp at hone
      have hb := hbad hb
      rw [if_neg h0, if_neg h1] at hb
      exact congrArg (becomes s) (Device.onStream_quiet hb rfl)
    · obtain ⟨t, hnext, hport, hconds, -⟩ := becomes_onStream s s.dev p (PortRun.word (s.dev.portActive p) (.lineEnd check))
      rw [hbad hb, hone] at hport hconds
      exact ⟨t, hnext, hport, hconds⟩
    · have hb := hbad hb
      rw [if_pos hzero, if_neg (by rw [hzero]; decide)] at hb
      refine congrArg (becomes s) (Device.onStream_quiet (hb.trans ?_) rfl)
      rw [hzero]
      rfl
    · have hg := hgood hg
      rw [if_neg (by rw [hidle]; simp)] at hg
      exact congrArg (becomes s) (Device.onStream_quiet hg rfl)
    · have hg := hgood hg
      rw [if_pos hactive, ← htag, ← hphase, PortRun.matchPacket_of_oldest (x := { x with fillRun := 0, assembly := none })
        hout he hrest hoff hroom] at hg
      exact congrArg (becomes s) (Device.onStream_quiet hg rfl)
    · obtain ⟨t, hnext, hport, hconds, -⟩ := becomes_onStream s s.dev p (PortRun.word (s.dev.portActive p) (.lineEnd check))
      rw [hgood hg, if_pos hactive] at hport hconds
      exact ⟨t, hnext, hport, hconds⟩
  · intro x cs lineTag ph px hits marker lost r
    refine ⟨fun hno => PortRun.matchPacket_of_none hno px cs, ?_⟩
    intro older after e hcut hold he due slip skipped pixels item
    obtain ⟨m, t, m', t', heq, hmode, hother, hone⟩ := PortRun.matchPacket_of_cut (cs := cs) (px := px) hcut hold he
    rw [show r = _ from heq]
    refine ⟨fun hfixed => ⟨rfl, ?_, rfl⟩, hother, hone⟩
    obtain ⟨rfl, rfl⟩ := hmode hfixed
    have hitem : x.entering e px = item := by
      simp only [Port.entering, Port.injectionDue_eq]
      rfl
    rw [← hitem]
    rfl
  · intro x cs e k same marker hk rest gone r u
    have hways : k = x.waysMade e := by
      rcases hk with ⟨older, after, f, hcut, hf, hold, rfl⟩ | ⟨hno, rfl⟩
      · exact (Port.waysMade_of_same hcut hf hold).symm
      · exact (Port.waysMade_of_other hno).symm
    obtain ⟨m, t, hjoin, hmode, hone⟩ := PortRun.join_eq x cs e
    obtain ⟨m', t', hsent, -⟩ := PortRun.join_eq { x with trigSent := some (triggerWord e.lineTag e.phase) } cs e
    obtain ⟨m'', t'', hlost, -⟩ := PortRun.declareAll_passes
      (PortRun.join ({ x with trigSent := some (triggerWord e.lineTag e.phase) }, cs) e)
    rw [hsent] at hlost
    have htrigger := PortRun.trigger_eq x cs e
    dsimp only at htrigger
    rw [hsent] at htrigger
    subst hways
    rw [show r = _ from hjoin, show u = _ from htrigger]
    refine ⟨rfl, rfl, rfl, hmode, hone, ?_, fun hd hn => ?_, fun hbad => ?_⟩
    · split
      · rw [hlost]
      · rfl
    · rw [if_neg (not_or.mpr ⟨hd, hn⟩)]
      exact ⟨rfl, rfl, rfl⟩
    · rw [if_pos hbad, hlost]
      exact ⟨rfl, rfl⟩

end Sys2Proof.Machine

/-! # The strobe sequencer and the timers (R41 to R45, R130, R171) -/

namespace Sys2Proof.Machine

/-! ## An operation on the ports of a port set -/

theorem Device.onPort_lane_of (d : Device) (l m : LaneId) (k : LocalPort) (f : PortRun → PortRun) :
    ((d.onPort ⟨l, k⟩ f).lane m) = if m = l then
      { d.lane l with ports := (d.lane l).ports.set k (f (d.port ⟨l, k⟩, 0)).1 } else d.lane m :=
  d.lane_setLane_of l m _

theorem Device.onPort_strobe (d : Device) (p : PortId) (f : PortRun → PortRun) (m : LaneId) :
    ((d.onPort p f).lane m).strobe = (d.lane m).strobe := by
  rw [show (d.onPort p f).lane m = _ from d.onPort_lane_of p.lane m p.loc f]
  split
  · next h => rw [h]
  · rfl

theorem Device.onPortSet_strobe (d : Device) (l : LaneId) (set : Byte) (f : PortRun → PortRun) (m : LaneId) :
    ((d.onPortSet l set f).lane m).strobe = (d.lane m).strobe := by
  unfold Device.onPortSet
  dsimp only
  split <;> split <;> simp only [Device.onPort_strobe]

theorem Device.onPortSet_port (d : Device) (l : LaneId) (set : Byte) (f : PortRun → PortRun) (k : LocalPort) :
    (d.onPortSet l set f).port ⟨l, k⟩ = if portIn set k then (f (d.port ⟨l, k⟩, 0)).1 else d.port ⟨l, k⟩ := by
  have h01 : (⟨l, .p0⟩ : PortId) ≠ ⟨l, .p1⟩ := by simp
  unfold Device.onPortSet
  dsimp only
  cases k <;> split <;> split <;> simp_all [Device.onPort_port]

theorem Device.onPort_laneConds (d : Device) (p : PortId) (f : PortRun → PortRun) (m : LaneId) :
    ((d.onPort p f).cond.get (.lane m)).raised = (d.cond.get (.lane m)).raised := by
  unfold Device.onPort
  rw [Device.raise_raised, if_neg (by simp)]
  rfl

theorem Device.onPortSet_laneConds (d : Device) (l : LaneId) (set : Byte) (f : PortRun → PortRun) (m : LaneId) :
    ((d.onPortSet l set f).cond.get (.lane m)).raised = (d.cond.get (.lane m)).raised := by
  unfold Device.onPortSet
  dsimp only
  split <;> split <;> simp only [Device.onPort_laneConds]

/-! ## The sequence of a line -/

/-- The part with one lane's sequencer replaced. -/
def Device.withStrobe (d : Device) (l : LaneId) (x : Strobe) : Device := withLane d l { d.lane l with strobe := x }

@[simp] theorem Device.withStrobe_strobe (d : Device) (l : LaneId) (x : Strobe) : ((d.withStrobe l x).lane l).strobe = x :=
  congrArg Lane.strobe (d.lane_setLane l _)

@[simp] theorem Device.withStrobe_port (d : Device) (l : LaneId) (x : Strobe) (k : LocalPort) :
    (d.withStrobe l x).port ⟨l, k⟩ = d.port ⟨l, k⟩ := by
  rw [Device.port, show (d.withStrobe l x).lane l = _ from d.lane_setLane l { d.lane l with strobe := x }]
  rfl

/-- What the entry into Flash leaves of the sequencer and of the lane's ports. -/
theorem Device.enterFlash_eq (d : Device) (l : LaneId) (r : LineRun) (p : Phase) :
    ((d.enterFlash l r p).lane l).strobe =
        { (d.lane l).strobe with state := .flash p, run := some r, flashLeft := (r.flash.get p).toNat } ∧
      ∀ k : LocalPort, (d.enterFlash l r p).port ⟨l, k⟩ =
        if portIn r.portSet k then (PortRun.trigger (r.entry .triggered p) (d.port ⟨l, k⟩, 0)).1 else d.port ⟨l, k⟩ := by
  have hflash : d.enterFlash l r p = (d.withStrobe l { (d.lane l).strobe with
      state := .flash p, run := some r, flashLeft := (r.flash.get p).toNat }).onPortSet l r.portSet
        (PortRun.trigger (r.entry .triggered p)) := rfl
  rw [hflash, Device.onPortSet_strobe, Device.withStrobe_strobe]
  refine ⟨rfl, fun k => ?_⟩
  rw [Device.onPortSet_port, Device.withStrobe_port]

theorem PortRun.trigger_trigSent (e : Entry) (x : Port) (cs : Word16) :
    (PortRun.trigger e (x, cs)).1.trigSent = some (triggerWord e.lineTag e.phase) := by
  obtain ⟨m, t, hjoin, -⟩ := PortRun.join_eq { x with trigSent := some (triggerWord e.lineTag e.phase) } cs e
  obtain ⟨m', t', hlost, -⟩ := PortRun.declareAll_passes
    (PortRun.join ({ x with trigSent := some (triggerWord e.lineTag e.phase) }, cs) e)
  have htrigger := PortRun.trigger_eq x cs e
  dsimp only at htrigger
  rw [htrigger]
  split
  · rw [hlost, hjoin]
  · rw [hjoin]

theorem PortRun.foldl_join_held (es : List Entry) (r : PortRun) : (es.foldl PortRun.join r).1.held = r.1.held := by
  induction es generalizing r with
  | nil => rfl
  | cons e es ih =>
    obtain ⟨x, cs⟩ := r
    obtain ⟨m, t, hjoin, -⟩ := PortRun.join_eq x cs e
    rw [List.foldl_cons, ih, hjoin]

theorem PortRun.foldl_hold (r : LineRun) (ps : List Phase) (x : PortRun) :
    ps.foldl (fun x p => PortRun.hold (r.entry .skipped p) x) x =
      ({ x.1 with held := x.1.held ++ ps.map (r.entry .skipped) }, x.2) := by
  induction ps generalizing x with
  | nil => simp
  | cons p ps ih =>
    rw [List.foldl_cons, ih]
    simp [PortRun.hold]

/-- What the end of a sequence leaves of the sequencer and of the lane's ports. -/
theorem Device.sequenceEnds_eq (d : Device) (l : LaneId) :
    ((d.sequenceEnds l).lane l).strobe = { (d.lane l).strobe with state := .idle, run := none } ∧
      ∀ k : LocalPort, (d.sequenceEnds l).port ⟨l, k⟩ = (PortRun.joinHeld (d.port ⟨l, k⟩, 0)).1 := by
  have hends : d.sequenceEnds l = ((d.withStrobe l { (d.lane l).strobe with state := .idle, run := none }).onPort ⟨l, .p0⟩
      PortRun.joinHeld).onPort ⟨l, .p1⟩ PortRun.joinHeld := rfl
  rw [hends, Device.onPort_strobe, Device.onPort_strobe, Device.withStrobe_strobe]
  refine ⟨rfl, fun k => ?_⟩
  rw [Device.onPort_port, Device.onPort_port, Device.onPort_port]
  cases k <;> simp

theorem PortRun.joinHeld_held (x : Port) (cs : Word16) : (PortRun.joinHeld (x, cs)).1.held = [] := PortRun.foldl_join_held _ _

/-- The phases of a set stand in the order of their bits. -/
theorem phasesOf_sorted (set : Byte) : (phasesOf set).Pairwise fun p q => phaseBit p < phaseBit q :=
  List.Pairwise.filter _ (by decide)

/-- The next phase is the least phase of the set above the present one. -/
theorem nextPhase_least {set : Byte} {p q : Phase} (h : nextPhase set p = some q) :
    q ∈ phasesOf set ∧ phaseBit p < phaseBit q ∧
      ∀ x ∈ phasesOf set, phaseBit p < phaseBit x → phaseBit q ≤ phaseBit x := by
  unfold nextPhase at h
  obtain ⟨hq, before, after, hcut, hno⟩ := List.find?_eq_some_iff_append.mp h
  have hsorted := phasesOf_sorted set
  rw [hcut] at hsorted ⊢
  refine ⟨by simp, of_decide_eq_true hq, fun x hx hpx => ?_⟩
  rcases List.mem_append.mp hx with hb | hx
  · simpa [hpx] using hno x hb
  · rcases List.mem_cons.mp hx with rfl | ha
    · exact le_rfl
    · exact (List.rel_of_pairwise_cons (List.pairwise_append.mp hsorted).2.1 ha).le

/-- What expiry of a settle counter does to the sequence: the next phase flashes, or the sequence ends (R42). -/
theorem Device.settleExpires_of_settle {d : Device} {l : LaneId} {p : Phase} (h : (d.lane l).strobe.state = .settle p) :
    d.settleExpires l =
      let e := d.withStrobe l { (d.lane l).strobe with settle := (d.lane l).strobe.settle.set p 0 }
      match (d.lane l).strobe.run with
      | none => e.sequenceEnds l
      | some r =>
        match nextPhase r.phaseSet p with
        | some q => e.enterFlash l r q
        | none => e.sequenceEnds l := by
  generalize he : d.withStrobe l { (d.lane l).strobe with settle := (d.lane l).strobe.settle.set p 0 } = e
  have hrun : (e.lane l).strobe.run = (d.lane l).strobe.run := by rw [← he, Device.withStrobe_strobe]
  dsimp only
  rw [← hrun]
  unfold Device.settleExpires
  rw [h]
  subst he
  rfl

theorem Device.settleExpires_of_next {d : Device} {l : LaneId} {p q : Phase} {r : LineRun}
    (hstate : (d.lane l).strobe.state = .settle p) (hrun : (d.lane l).strobe.run = some r)
    (hnext : nextPhase r.phaseSet p = some q) : d.settleExpires l =
      (d.withStrobe l { (d.lane l).strobe with settle := (d.lane l).strobe.settle.set p 0 }).enterFlash l r q := by
  rw [Device.settleExpires_of_settle hstate]
  generalize d.withStrobe l _ = e
  simp only [hrun, hnext]

theorem Device.settleExpires_of_last {d : Device} {l : LaneId} {p : Phase} {r : LineRun}
    (hstate : (d.lane l).strobe.state = .settle p) (hrun : (d.lane l).strobe.run = some r)
    (hnext : nextPhase r.phaseSet p = none) : d.settleExpires l =
      (d.withStrobe l { (d.lane l).strobe with settle := (d.lane l).strobe.settle.set p 0 }).sequenceEnds l := by
  rw [Device.settleExpires_of_settle hstate]
  generalize d.withStrobe l _ = e
  simp only [hrun, hnext]

theorem Device.flashEnds_of_flash {d : Device} {l : LaneId} {p : Phase} (h : (d.lane l).strobe.state = .flash p) :
    d.flashEnds l = withLane d l { d.lane l with strobe := { (d.lane l).strobe with
      state := .settle p, flashLeft := 0,
      settle := (d.lane l).strobe.settle.set p (d.lane l).settings.settleReload.toNat } } := by
  unfold Device.flashEnds
  rw [h]
  rfl

theorem Device.strobeLine_of_idle {d : Device} {l : LaneId} {r : LineRun} {p : Phase} {rest : List Phase}
    (h : (d.lane l).strobe.state = .idle) (hp : phasesOf r.phaseSet = p :: rest) : d.strobeLine l r = d.enterFlash l r p := by
  unfold Device.strobeLine
  rw [if_pos h, hp]

theorem Device.strobeLine_of_busy {d : Device} {l : LaneId} (h : (d.lane l).strobe.state ≠ .idle) (r : LineRun) :
    d.strobeLine l r = (d.raiseLane l .overspeed).onPortSet l r.portSet
      fun x => (phasesOf r.phaseSet).foldl (fun x p => PortRun.hold (r.entry .skipped p) x) x := if_neg h

/-- Settles O21, by `Device.enterFlash_eq`, `Device.sequenceEnds_port` and `Device.onPortSet_port`. -/
theorem strobeSequence : Obligations.StrobeSequence := by
  refine ⟨fun l p s hs => ⟨fun h => ⟨(Lane.strobeOn_iff _ p).mpr h, ?_⟩, fun r q hstate hrun hnext => ⟨⟨_, rfl, nextPhase_least hnext⟩, ?_⟩,
    fun r hstate hrun hnext => ?_⟩, fun d l r k p rest hidle hp => ?_, fun d l r k hbusy => ?_⟩
  · rw [exec_running hs]
    exact congrArg (becomes s) (Device.flashEnds_of_flash h)
  · rw [exec_running hs]
    obtain ⟨hst, hports⟩ := (s.dev.withStrobe l { (s.dev.lane l).strobe with
      settle := (s.dev.lane l).strobe.settle.set p 0 }).enterFlash_eq l r q
    rw [← Device.settleExpires_of_next hstate hrun hnext, Device.withStrobe_strobe] at hst
    have hport : ∀ k, (s.dev.settleExpires l).settleStall.port ⟨l, k⟩ = (if portIn r.portSet k then
        (PortRun.trigger (r.entry .triggered q) (s.dev.port ⟨l, k⟩, 0)).1 else s.dev.port ⟨l, k⟩) := fun k => by
      rw [Device.settleStall_port, Device.settleExpires_of_next hstate hrun hnext, hports, Device.withStrobe_port]
    refine ⟨_, rfl, ?_, fun k => ⟨hport k, fun hk => ?_⟩⟩
    · exact (congrArg Lane.strobe (Device.settleStall_lane _ l)).trans hst
    · refine (congrArg Port.trigSent (hport k)).trans ?_
      rw [if_pos hk, PortRun.trigger_trigSent]
      rfl
  · rw [exec_running hs]
    obtain ⟨hst, hports⟩ := (s.dev.withStrobe l { (s.dev.lane l).strobe with
      settle := (s.dev.lane l).strobe.settle.set p 0 }).sequenceEnds_eq l
    rw [← Device.settleExpires_of_last hstate hrun hnext] at hst
    replace hst := (congrArg Lane.strobe ((s.dev.settleExpires l).settleStall_lane l)).trans hst
    have hport : ∀ k, (s.dev.settleExpires l).settleStall.port ⟨l, k⟩ = (PortRun.joinHeld (s.dev.port ⟨l, k⟩, 0)).1 := fun k => by
      rw [Device.settleStall_port, Device.settleExpires_of_last hstate hrun hnext, hports, Device.withStrobe_port]
    refine ⟨_, rfl, congrArg Strobe.state hst, congrArg Strobe.run hst, fun k => ⟨hport k, ?_⟩⟩
    exact (congrArg Port.held (hport k)).trans (PortRun.joinHeld_held _ _)
  · obtain ⟨hst, hports⟩ := d.enterFlash_eq l r p
    rw [← Device.strobeLine_of_idle hidle hp] at hst hports
    refine ⟨hst, (Lane.strobeOn_iff _ p).mpr (by rw [hst]), hports k, fun hk => ?_⟩
    rw [hports k, if_pos hk, PortRun.trigger_trigSent]
    rfl
  · intro t
    have hport : t.port ⟨l, k⟩ = if portIn r.portSet k then
        { d.port ⟨l, k⟩ with held := (d.port ⟨l, k⟩).held ++ (phasesOf r.phaseSet).map (r.entry .skipped) }
        else d.port ⟨l, k⟩ := by
      rw [show t = _ from Device.strobeLine_of_busy hbusy r, Device.onPortSet_port, PortRun.foldl_hold]
      rfl
    refine ⟨?_, ?_, ?_, ?_, ?_⟩
    · rw [show t = _ from Device.strobeLine_of_busy hbusy r, Device.onPortSet_strobe]
      rfl
    · rw [show t = _ from Device.strobeLine_of_busy hbusy r, Device.onPortSet_laneConds, Device.raiseLane, Device.raise_raised,
        if_pos rfl, ← word16_or_zero (_ ||| _), BitVec.raised_and_bit]
      decide
    all_goals
      rw [hport]
      split
    · rfl
    · rfl
    · rfl
    · rfl
    · rfl
    · exact (List.append_nil _).symm

end Sys2Proof.Machine

/-! # The timers (R42, R45, R130, R171) -/

namespace Sys2Proof.Machine

theorem Device.warmupExpires_of_runs {d : Device} {l : LaneId} (h : (d.lane l).warmupLeft.isSome = true) :
    d.warmupExpires l = withLane d l { d.lane l with
      mode := .ready, light := .ready, warmupLeft := none,
      idleLeft := if (d.lane l).settings.idleTimeout ≠ 0 ∧ (d.lane l).oldestWaiting = none
                  then some ((d.lane l).settings.idleTimeout.toNat * 1000000) else (d.lane l).idleLeft } := by
  unfold Device.warmupExpires
  rw [if_pos h]
  exact congrArg (withLane d l) (Lane.enterReady_eq _)

theorem Device.idleExpires_of_runs {d : Device} {l : LaneId} (h : (d.lane l).idleLeft.isSome = true) :
    d.idleExpires l = withLane d l { d.lane l with mode := .standby, light := .off, warmupLeft := none, idleLeft := none } :=
  if_pos h

/-! ## One microsecond -/

theorem Device.tickStrobe_of_idle {d : Device} {l : LaneId} (h : (d.lane l).strobe.state = .idle) : d.tickStrobe l = d := by
  unfold Device.tickStrobe
  dsimp only
  rw [h]

theorem Device.tickStrobe_of_flash {d : Device} {l : LaneId} {p : Phase} (h : (d.lane l).strobe.state = .flash p) :
    d.tickStrobe l = if (d.lane l).strobe.flashLeft ≤ 1 then d.flashEnds l
      else withLane d l { d.lane l with strobe := { (d.lane l).strobe with flashLeft := (d.lane l).strobe.flashLeft - 1 } } := by
  unfold Device.tickStrobe
  dsimp only
  split
  case h_1 hidle => cases h.symm.trans hidle
  case h_2 q hflash => rfl
  case h_3 q hsettle => cases h.symm.trans hsettle

theorem Device.tickStrobe_of_settle {d : Device} {l : LaneId} {p : Phase} (h : (d.lane l).strobe.state = .settle p) :
    d.tickStrobe l = if (d.lane l).strobe.settle.get p ≤ 1 then d.settleExpires l
      else withLane d l { d.lane l with strobe := { (d.lane l).strobe with
        settle := (d.lane l).strobe.settle.set p ((d.lane l).strobe.settle.get p - 1) } } := by
  unfold Device.tickStrobe
  dsimp only
  split
  case h_1 hidle => cases h.symm.trans hidle
  case h_2 q hflash => cases h.symm.trans hflash
  case h_3 q hsettle =>
    obtain rfl : p = q := StrobeState.settle.inj (h.symm.trans hsettle)
    rfl

theorem Device.tickIdle_of_runs {d : Device} {l : LaneId} {n : Nat} (h : (d.lane l).idleLeft = some n) :
    d.tickIdle l = if n ≤ 1 then d.idleExpires l else withLane d l { d.lane l with idleLeft := some (n - 1) } := by
  unfold Device.tickIdle
  rw [h]
  rfl

theorem Device.tickWarmup_of_runs {d : Device} {l : LaneId} {n : Nat} (h : (d.lane l).warmupLeft = some n) :
    d.tickWarmup l = if n ≤ 1 then d.warmupExpires l else withLane d l { d.lane l with warmupLeft := some (n - 1) } := by
  unfold Device.tickWarmup
  rw [h]
  rfl

theorem Device.tickStall_of_runs {d : Device} {n : Nat} (h : d.trunk.stallLeft = some n) :
    d.tickStall = if n ≤ 1 then d.stallExpires else { d with trunk := { d.trunk with stallLeft := some (n - 1) } } := by
  unfold Device.tickStall
  rw [h]
  rfl

/-- Settles O22, timer by timer, by the equations of the expiries and of one microsecond. -/
theorem laneTimersExpire : Obligations.LaneTimersExpire := by
  refine ⟨fun l s hs => ?_, fun l d => ?_⟩
  · exact ⟨fun h => (exec_running hs).trans (congrArg (becomes s) (Device.warmupExpires_of_runs h)),
      fun h => (exec_running hs).trans (congrArg (becomes s) (Device.idleExpires_of_runs h)), exec_running hs, exec_running hs,
      exec_running hs, exec_running hs, exec_running hs⟩
  · refine ⟨fun h => ?_, (Lane.lightOn_iff _).mpr, rfl, Device.tickStrobe_of_idle, fun p h => ?_, fun p h => ?_, fun h => ?_,
      fun n h => ?_, fun h => ?_, fun n h => ?_, fun h => ?_, fun n h => ?_⟩
    · exact Bool.eq_false_iff.mpr fun hon => (Lane.lightOn_iff _).mp hon h
    · rw [Device.tickStrobe_of_flash h]
      exact ⟨fun hrun => if_neg (by omega), fun hend => if_pos hend⟩
    · rw [Device.tickStrobe_of_settle h]
      exact ⟨fun hrun => if_neg (by omega), fun hend => if_pos hend⟩
    · simp only [Device.tickIdle, h]
    · rw [Device.tickIdle_of_runs h]
      exact ⟨fun hrun => if_neg (by omega), fun hend => if_pos hend⟩
    · simp only [Device.tickWarmup, h]
    · rw [Device.tickWarmup_of_runs h]
      exact ⟨fun hrun => if_neg (by omega), fun hend => if_pos hend⟩
    · simp only [Device.tickStall, h]
    · rw [Device.tickStall_of_runs h]
      exact ⟨fun hrun => if_neg (by omega), fun hend => if_pos hend⟩

end Sys2Proof.Machine

/-! # What panel work leaves of the motion units and of the Waiting contexts (chapters 2 and 7) -/

namespace Sys2Proof.Machine

/-! ## Operations that move no context from its state -/

/-- What no panel changes of a context but lane control: its number, state, sequence number, recipe slot and scan start. -/
def Context.panel (c : Context) : Fin 4 × CtxState × Word16 × Fin 4 × Word32 := (c.num, c.state, c.seq, c.slot, c.scanStart)

/-- Two lanes with the same motion unit, settings, recipe to come and gate queue, whose contexts are the same panels in the same states. -/
structure Lane.Steady (L M : Lane) : Prop where
  motion : M.motion = L.motion
  settings : M.settings = L.settings
  nextSeq : M.nextSeq = L.nextSeq
  pending : M.pendingRecipe = L.pendingRecipe
  queue : M.gate.queue = L.gate.queue
  panels : M.live.map Context.panel = L.live.map Context.panel

theorem Lane.Steady.refl (L : Lane) : L.Steady L := ⟨rfl, rfl, rfl, rfl, rfl, rfl⟩

theorem Lane.Steady.trans {L M N : Lane} (h : L.Steady M) (k : M.Steady N) : L.Steady N :=
  ⟨k.motion.trans h.motion, k.settings.trans h.settings, k.nextSeq.trans h.nextSeq, k.pending.trans h.pending,
    k.queue.trans h.queue,
    k.panels.trans h.panels⟩

/-- Every lane is steady. -/
def Device.Steady (d e : Device) : Prop := ∀ m, (d.lane m).Steady (e.lane m)

theorem Device.Steady.refl (d : Device) : d.Steady d := fun _ => .refl _

theorem Device.Steady.trans {d e f : Device} (h : d.Steady e) (k : e.Steady f) : d.Steady f := fun m => (h m).trans (k m)

theorem Device.Steady.of_lanes {d e : Device} (h : ∀ m, e.lane m = d.lane m) : d.Steady e := fun m => by rw [h]; exact .refl _

theorem Device.Steady.setLane (d : Device) (l : LaneId) {L : Lane} (h : (d.lane l).Steady L) : d.Steady (d.setLane l L) :=
  fun m => by
    rw [Device.lane_setLane_of]
    split
    · next hm => exact hm ▸ h
    · exact .refl _

theorem Device.Steady.modLane (d : Device) (l : LaneId) {f : Lane → Lane} (h : (d.lane l).Steady (f (d.lane l))) :
    d.Steady (d.modLane l f) := .setLane d l h

theorem Device.Steady.modCtx (d : Device) (l : LaneId) (n : Fin 4) {f : Context → Context} (h : ∀ c, (f c).panel = c.panel) :
    d.Steady (d.modCtx l n f) := by
  refine .modLane d l ⟨rfl, rfl, rfl, rfl, rfl, ?_⟩
  simp only [Lane.modCtx, List.map_map]
  refine List.map_congr_left fun c _ => ?_
  simp only [Function.comp]
  split
  · exact h c
  · rfl

theorem Device.Steady.fault (d : Device) (l : LaneId) (k : FaultKind) : d.Steady (d.fault l k) := fun m => by
  rw [Device.fault_lane_eq]
  split
  · next hm =>
    subst hm
    exact ⟨rfl, rfl, rfl, rfl, ((d.lane m).gateAfter_same k).2.1, rfl⟩
  · exact .refl _

theorem Device.Steady.raiseLane (d : Device) (l : LaneId) (c : LaneCond) : d.Steady (d.raiseLane l c) := .of_lanes fun _ => rfl

theorem Device.Steady.ite {d e f : Device} {P : Prop} [Decidable P] (h : P → d.Steady e) (k : ¬ P → d.Steady f) :
    d.Steady (if P then e else f) := by
  split
  · exact h ‹_›
  · exact k ‹_›

theorem Device.Steady.onPort (d : Device) (p : PortId) (f : PortRun → PortRun) : d.Steady (d.onPort p f) := fun m => by
  rw [show (d.onPort p f).lane m = _ from d.onPort_lane_of p.lane m p.loc f]
  split
  · next hm =>
    subst hm
    exact ⟨rfl, rfl, rfl, rfl, rfl, rfl⟩
  · exact .refl _

theorem Device.Steady.onPortSet (d : Device) (l : LaneId) (set : Byte) (f : PortRun → PortRun) : d.Steady (d.onPortSet l set f) := by
  have hfirst : d.Steady (if portIn set .p0 then d.onPort ⟨l, .p0⟩ f else d) := .ite (fun _ => .onPort d _ f) fun _ => .refl d
  exact .ite (fun _ => hfirst.trans (.onPort _ _ f)) fun _ => hfirst

theorem Device.Steady.strobeLine (d : Device) (l : LaneId) (r : LineRun) : d.Steady (d.strobeLine l r) := by
  refine .ite (fun _ => ?_) fun _ => (Device.Steady.raiseLane d l _).trans (.onPortSet _ l _ _)
  split
  · exact .refl d
  · exact (Device.Steady.modLane d l ⟨rfl, rfl, rfl, rfl, rfl, rfl⟩).trans (.onPortSet _ l _ _)

theorem Device.Steady.endRegistration (d : Device) (l : LaneId) (r : Registration) (st : RegState) :
    d.Steady (d.endRegistration l r st) := by
  have hrecord : d.Steady ((d.modLane l (fun L => { L with reg := none })).modCtx l r.ctx (Context.recordReg r st)) :=
    (Device.Steady.modLane d l ⟨rfl, rfl, rfl, rfl, rfl, rfl⟩).trans (.modCtx _ l _ fun _ => rfl)
  have hfailed : ∀ (joints : Nat) (c : Context), (c.regFailed joints).panel = c.panel := fun joints c => by
    unfold Context.regFailed Context.writeAbort
    split <;> rfl
  unfold Device.endRegistration
  dsimp only
  split
  · exact (hrecord.trans (.modCtx _ l _ (hfailed _))).trans (.raiseLane _ l _)
  all_goals exact hrecord

theorem Device.Steady.registrationDeadline (d : Device) (l : LaneId) : d.Steady (d.registrationDeadline l) := by
  unfold Device.registrationDeadline
  split
  · exact .refl d
  · exact .endRegistration d l _ _

theorem Device.Steady.scheduleJoint (d : Device) (l : LaneId) (c : Context) (e : JointEntry) (dx dy : Int) :
    d.Steady (d.scheduleJoint l c e dx dy) := by
  rcases Nat.lt_or_ge (d.lane l).openList.length 512 with hroom | hfull
  · rw [Device.scheduleJoint_of_room c e dx dy hroom]
    refine Device.Steady.trans ?_ (.modCtx _ l _ fun _ => rfl)
    exact (Device.Steady.of_lanes (Device.takeCropIf_lane d _ _)).trans (.modLane _ l ⟨rfl, rfl, rfl, rfl, rfl, rfl⟩)
  · rw [Device.scheduleJoint_of_full c e dx dy hfull]
    exact (Device.Steady.modCtx d l c.num (f := Context.noteOverflow) fun _ => rfl).trans (.raiseLane _ l _)

theorem Device.Steady.openJoints (l : LaneId) (n : Fin 4) (line fuel : Nat) (d : Device) :
    d.Steady (Device.openJoints l n line fuel d) := by
  induction fuel generalizing d with
  | zero => exact .refl d
  | succ fuel ih =>
    unfold Device.openJoints
    split
    · exact .refl d
    · split
      · exact .refl d
      · exact .refl d
      · exact .ite (fun _ => (Device.Steady.scheduleJoint d l _ _ _ _).trans (ih _)) fun _ => .refl d

/-! ## Operations that leave the motion units alone and make no context Wait -/

/-- Two lanes with the same motion unit, settings, recipe to come and gate queue, the second of which has no Waiting context that did not
Wait in the first. -/
structure Lane.Tracks (L M : Lane) : Prop where
  motion : M.motion = L.motion
  settings : M.settings = L.settings
  nextSeq : M.nextSeq = L.nextSeq
  pending : M.pendingRecipe = L.pendingRecipe
  queue : M.gate.queue = L.gate.queue
  waiting : ∀ c ∈ M.live, c.state = .waiting → c.panel ∈ L.live.map Context.panel

theorem Lane.Steady.tracks {L M : Lane} (h : L.Steady M) : L.Tracks M :=
  ⟨h.motion, h.settings, h.nextSeq, h.pending, h.queue, fun _ hc _ => h.panels ▸ List.mem_map_of_mem hc⟩

theorem Lane.Tracks.refl (L : Lane) : L.Tracks L := (Lane.Steady.refl L).tracks

theorem Lane.Tracks.trans {L M N : Lane} (h : L.Tracks M) (k : M.Tracks N) : L.Tracks N := by
  refine ⟨k.motion.trans h.motion, k.settings.trans h.settings, k.nextSeq.trans h.nextSeq, k.pending.trans h.pending,
    k.queue.trans h.queue,
    fun c hc hs => ?_⟩
  obtain ⟨b, hb, hpanel⟩ := List.mem_map.mp (k.waiting c hc hs)
  have hbs : b.state = .waiting := (congrArg (fun x => x.2.1) hpanel : b.state = c.state).trans hs
  exact hpanel ▸ h.waiting b hb hbs

def Device.Tracks (d e : Device) : Prop := ∀ m, (d.lane m).Tracks (e.lane m)

theorem Device.Steady.tracks {d e : Device} (h : d.Steady e) : d.Tracks e := fun m => (h m).tracks

theorem Device.Tracks.refl (d : Device) : d.Tracks d := fun _ => .refl _

theorem Device.Tracks.trans {d e f : Device} (h : d.Tracks e) (k : e.Tracks f) : d.Tracks f := fun m => (h m).trans (k m)

/-- `Device.Tracks.trans` with the later change first, as the shape of an operation gives it. -/
theorem Device.Tracks.after {d e f : Device} (k : e.Tracks f) (h : d.Tracks e) : d.Tracks f := h.trans k

theorem Device.Tracks.ite {d e f : Device} {P : Prop} [Decidable P] (h : P → d.Tracks e) (k : ¬ P → d.Tracks f) :
    d.Tracks (if P then e else f) := by
  split
  · exact h ‹_›
  · exact k ‹_›

theorem Device.Tracks.of_lanes {d e : Device} (h : ∀ m, e.lane m = d.lane m) : d.Tracks e := (Device.Steady.of_lanes h).tracks

theorem Device.Tracks.setLane (d : Device) (l : LaneId) {L : Lane} (h : (d.lane l).Tracks L) : d.Tracks (d.setLane l L) :=
  fun m => by
    rw [Device.lane_setLane_of]
    split
    · next hm => exact hm ▸ h
    · exact .refl _

theorem Device.Tracks.modLane (d : Device) (l : LaneId) {f : Lane → Lane} (h : (d.lane l).Tracks (f (d.lane l))) :
    d.Tracks (d.modLane l f) := .setLane d l h

/-- A context is changed, and Waits afterwards only where it stands. -/
theorem Lane.Tracks.modCtx (L : Lane) (n : Fin 4) {f : Context → Context}
    (h : ∀ c, (f c).state = .waiting → (f c).panel = c.panel) : L.Tracks (L.modCtx n f) := by
  refine ⟨rfl, rfl, rfl, rfl, rfl, fun c hc hs => ?_⟩
  obtain ⟨b, hb, rfl⟩ := List.mem_map.mp hc
  by_cases hnum : b.num = n
  · rw [if_pos hnum] at hs ⊢
    exact h b hs ▸ List.mem_map_of_mem hb
  · rw [if_neg hnum]
    exact List.mem_map_of_mem hb

theorem Device.Tracks.modCtx (d : Device) (l : LaneId) (n : Fin 4) {f : Context → Context}
    (h : ∀ c, (f c).state = .waiting → (f c).panel = c.panel) : d.Tracks (d.modCtx l n f) :=
  .modLane d l (.modCtx _ n h)

theorem Device.Tracks.retireNow (d : Device) (l : LaneId) (n : Fin 4) : d.Tracks (d.retireNow l n) := fun m => by
  rw [Device.retireNow_lane]
  split
  · next hm =>
    subst hm
    exact ⟨rfl, rfl, rfl, rfl, rfl, fun c hc _ => List.mem_map_of_mem (List.mem_of_mem_filter hc)⟩
  · exact .refl _

theorem Device.Tracks.retire (d : Device) (l : LaneId) (n : Fin 4) : d.Tracks (d.retire l n) := by
  refine .ite (fun _ => .retireNow d l n) fun _ => ?_
  exact (Device.Tracks.modCtx d l n fun c hs => by cases hs).trans (.of_lanes fun _ => rfl)

theorem Device.Tracks.raiseLane (d : Device) (l : LaneId) (c : LaneCond) : d.Tracks (d.raiseLane l c) := .of_lanes fun _ => rfl

theorem Device.Tracks.fault (d : Device) (l : LaneId) (k : FaultKind) : d.Tracks (d.fault l k) := (Device.Steady.fault d l k).tracks

theorem Device.Tracks.tryDecide (d : Device) (l : LaneId) (n : Fin 4) : d.Tracks (d.tryDecide l n) := by
  have hrejected : ∀ (e : Device) (P : Prop) [Decidable P], e.Tracks (if P then e.raiseLane l .panelRejected else e) :=
    fun e P _ => .ite (fun _ => .raiseLane e l _) fun _ => .refl e
  have hdecided : ∀ x : Decision, d.Tracks (d.modCtx l n fun c => { c with decision := some x, state := .decided }) :=
    fun x => .modCtx d l n fun c hs => by cases hs
  have hpassed : ∀ x : Decision, d.Tracks (d.modCtx l n fun c => { c with decision := some x }) :=
    fun x => .modCtx d l n fun c _ => rfl
  unfold Device.tryDecide
  split
  · exact .refl d
  · refine .ite (fun _ => ?_) fun _ => .refl d
    dsimp only
    split
    · exact (hdecided _).trans (hrejected _ _)
    · exact ((hpassed _).trans (hrejected _ _)).trans (.retire _ l n)
    all_goals exact .refl d

theorem Device.Tracks.settleCtx (d : Device) (l : LaneId) (n : Fin 4) : d.Tracks (d.settleCtx l n) :=
  .modCtx d l n (f := Context.settle) fun c hs => by rcases c.settle_state with h | h <;> cases h.symm.trans hs

theorem Lane.Tracks.enterReady (L : Lane) : L.Tracks L.enterReady := by
  rw [Lane.enterReady_eq]
  exact ⟨rfl, rfl, rfl, rfl, rfl, fun c hc _ => List.mem_map_of_mem hc⟩

theorem Device.Tracks.leaveScanning (d : Device) (l : LaneId) (n : Fin 4) : d.Tracks (d.leaveScanning l n) :=
  .after (.tryDecide _ l n) (.after (.modLane _ l (.enterReady _)) (.settleCtx d l n))

theorem Device.Tracks.gateAct (d : Device) (l : LaneId) (c : Context) (code : Decision) : d.Tracks (d.gateAct l c code) := by
  have hdecided : d.Tracks (d.modCtx l c.num fun x => { x with gateAction := .applied code }) := .modCtx d l _ fun x _ => rfl
  have hsettling : d.Tracks (d.modCtx l c.num fun x => { x with gateAction := .applied code, late := true, state := .passed }) :=
    .modCtx d l _ fun x hs => by cases hs
  have hearly : d.Tracks (d.modCtx l c.num fun x => { x with gateAction := .applied code, late := true }) :=
    .modCtx d l _ fun x _ => rfl
  unfold Device.gateAct
  split
  · exact hdecided.trans (.retire _ l _)
  · exact hsettling.trans (.raiseLane _ l _)
  · exact hearly.trans (.raiseLane _ l _)
  · exact hearly.trans (.raiseLane _ l _)
  all_goals exact .refl d

/-- The motion unit of every lane stands. -/
theorem Device.gateArrival_motion (d : Device) (l m : LaneId) : ((d.gateArrival l).lane m).motion = (d.lane m).motion := by
  have htaken : ∀ g : Gate, ((d.setLane l { d.lane l with gate := g }).lane m).motion = (d.lane m).motion := fun g => by
    rw [Device.lane_setLane_of]
    split
    · next hm => rw [hm]
    · rfl
  unfold Device.gateArrival
  dsimp only
  split
  · rfl
  · split
    · exact htaken _
    · exact ((Device.Tracks.gateAct _ l _ _) m).motion.trans (htaken _)

theorem Device.gateArrivals_motion (l : LaneId) (fuel : Nat) (d : Device) (m : LaneId) :
    ((Device.gateArrivals l fuel d).lane m).motion = (d.lane m).motion := by
  induction fuel generalizing d with
  | zero => rfl
  | succ fuel ih =>
    unfold Device.gateArrivals
    split
    · exact (ih _).trans (d.gateArrival_motion l m)
    · rfl

/-! ## Line issues and scan starts -/

/-- From `d` to `e` the motion units stand but for the tag counter and the next line of lane `l`, and no context Waits that did
not Wait before. -/
def Device.Runs (l : LaneId) (d e : Device) : Prop :=
  ∃ t n, (withLane d l { d.lane l with motion := { (d.lane l).motion with tagCounter := t, nextLine := n } }).Tracks e

theorem Device.Tracks.runs {d e : Device} (h : d.Tracks e) (l : LaneId) : Device.Runs l d e :=
  ⟨(d.lane l).motion.tagCounter, (d.lane l).motion.nextLine, by
    show (withLane d l (d.lane l)).Tracks e
    rwa [withLane_self]⟩

/-- The fields that a line issue and a scan start may move, set to new values. -/
theorem Device.Tracks.withRun {d e : Device} {l : LaneId} (h : d.Tracks e) (t : Word16) (n : Option Word32) :
    (withLane d l { d.lane l with motion := { (d.lane l).motion with tagCounter := t, nextLine := n } }).Tracks
      (withLane e l { e.lane l with motion := { (e.lane l).motion with tagCounter := t, nextLine := n } }) := fun m => by
  rw [show (withLane d l _).lane m = _ from d.lane_setLane_of l m _, show (withLane e l _).lane m = _ from e.lane_setLane_of l m _]
  split
  · exact ⟨congrArg (fun x : Motion => { x with tagCounter := t, nextLine := n }) (h l).motion, (h l).settings, (h l).nextSeq,
      (h l).pending, (h l).queue, (h l).waiting⟩
  · exact h m

theorem withLane_withLane (d : Device) (l : LaneId) (L M : Lane) : withLane (withLane d l L) l M = withLane d l M := by
  simp only [withLane, PerLane.set_set]

theorem Device.Runs.trans {l : LaneId} {d e f : Device} (h : Device.Runs l d e) (k : Device.Runs l e f) : Device.Runs l d f := by
  obtain ⟨t, n, h⟩ := h
  obtain ⟨t', n', k⟩ := k
  refine ⟨t', n', ?_⟩
  have hset := h.withRun (l := l) t' n'
  have hlane : (withLane d l { d.lane l with motion := { (d.lane l).motion with tagCounter := t, nextLine := n } }).lane l =
      { d.lane l with motion := { (d.lane l).motion with tagCounter := t, nextLine := n } } := d.lane_setLane l _
  rw [hlane] at hset
  rw [withLane_withLane] at hset
  exact hset.trans k

theorem Device.Runs.refl (l : LaneId) (d : Device) : Device.Runs l d d := (Device.Tracks.refl d).runs l

/-- Whether a line is the last of its panel (R37). -/
def Device.lastLine (d : Device) (l : LaneId) (c : Context) : Bool :=
  decide (c.lineOf (d.lane l).motion.tagCounter + 1 = (d.slot c.slot).hdr.panelLength.toNat)

/-- The part once an issued line has consumed its tag and moved the next-line position on (R36, R37). -/
def Device.lineMoved (d : Device) (l : LaneId) (c : Context) (pos : Word32) : Device :=
  withLane d l { d.lane l with motion := { (d.lane l).motion with
    tagCounter := (d.lane l).motion.tagCounter + 1,
    nextLine := if d.lastLine l c then none else some (pos + (d.slot c.slot).hdr.linePitch.setWidth 32) } }

/-- The part once an issued line has passed the registration deadline too (R38). -/
def Device.lineChecked (d : Device) (l : LaneId) (c : Context) (pos : Word32) : Device :=
  if c.lineOf (d.lane l).motion.tagCounter = (d.slot c.slot).hdr.zone.toNat + 64 then
    (d.lineMoved l c pos).registrationDeadline l
  else d.lineMoved l c pos

/-- The part once an issued line has reached the deadline check, the window scheduler and the strobe sequencer (R38). -/
def Device.lineLit (d : Device) (l : LaneId) (c : Context) (pos : Word32) : Device :=
  (Device.openJoints l c.num (c.lineOf (d.lane l).motion.tagCounter) (d.slot c.slot).hdr.jointCount.toNat
    (d.lineChecked l c pos)).strobeLine l
      (lineRun c (d.slot c.slot).hdr (d.lane l).motion.tagCounter (c.lineOf (d.lane l).motion.tagCounter))

theorem Device.issueLine_eq (d : Device) (l : LaneId) (c : Context) (pos : Word32) : d.issueLine l c pos =
    if d.lastLine l c then (d.lineLit l c pos).leaveScanning l c.num else d.lineLit l c pos := rfl

theorem Device.Steady.lineLit (d : Device) (l : LaneId) (c : Context) (pos : Word32) :
    (d.lineMoved l c pos).Steady (d.lineLit l c pos) := by
  have hchecked : (d.lineMoved l c pos).Steady (d.lineChecked l c pos) :=
    .ite (fun _ => .registrationDeadline _ l) fun _ => .refl _
  exact (hchecked.trans (.openJoints l _ _ _ _)).trans (.strobeLine _ l _)

theorem Device.Tracks.issueLine (d : Device) (l : LaneId) (c : Context) (pos : Word32) :
    (d.lineMoved l c pos).Tracks (d.issueLine l c pos) := by
  rw [Device.issueLine_eq]
  exact .ite (fun _ => (Device.Steady.lineLit d l c pos).tracks.trans (.leaveScanning _ l _))
    fun _ => (Device.Steady.lineLit d l c pos).tracks

theorem Device.Runs.issueLine (d : Device) (l : LaneId) (c : Context) (pos : Word32) :
    Device.Runs l d (d.issueLine l c pos) := ⟨_, _, .issueLine d l c pos⟩

theorem Device.Runs.issueDue (d : Device) (l : LaneId) : Device.Runs l d (d.issueDue l) := by
  unfold Device.issueDue
  dsimp only
  split
  · split
    · exact .issueLine d l _ _
    · exact .refl l d
  · exact .refl l d

theorem Device.Tracks.beginScan (d : Device) (l : LaneId) (c : Context) (h : Header) :
    d.Tracks (d.modLane l fun L => L.beginScan c h) := by
  have hctx := Lane.Tracks.modCtx (d.lane l) c.num (f := Context.begin (d.lane l).motion.tagCounter) fun c hs => by cases hs
  exact .modLane d l ⟨hctx.motion, hctx.settings, hctx.nextSeq, hctx.pending, hctx.queue, hctx.waiting⟩

theorem Device.Runs.startScan (d : Device) (l : LaneId) (c : Context) : Device.Runs l d (d.startScan l c) := by
  rw [Device.startScan_eq]
  have hbegun := (Device.Tracks.beginScan d l c (d.slot c.slot).hdr).runs l
  dsimp only
  split
  · exact hbegun
  · exact hbegun.trans (.issueLine _ l _ _)

/-- A scan start that is aborted: the panel's record, its way out of Waiting, and what is raised. -/
theorem Device.Tracks.abortAtStart (d : Device) (l : LaneId) (n : Fin 4) (a : AbortCause) (joints : Nat) :
    d.Tracks ((d.modCtx l n (Context.abortAtStart a joints)).settleCtx l n) := by
  refine .after (.settleCtx _ l n) (Device.Steady.tracks (.modCtx d l n fun c => ?_))
  unfold Context.abortAtStart Context.writeAbort
  split <;> rfl

theorem Device.Runs.scanStart (d : Device) (l : LaneId) (c : Context) : Device.Runs l d (d.scanStart l c) := by
  have hwarmup : d.Tracks (d.abortWarmup l c) :=
    .after (.tryDecide _ l _) (.after (.fault _ l _) (.abortAtStart d l c.num .warmup _))
  have hoverlap : d.Tracks (d.abortOverlap l c) :=
    .after (.tryDecide _ l _) (.after (.raiseLane _ l _) (.abortAtStart d l c.num .overlap _))
  unfold Device.scanStart
  split
  · exact .startScan d l c
  · exact hoverlap.runs l
  all_goals exact hwarmup.runs l

theorem Device.Runs.scanStarts (l : LaneId) (fuel : Nat) (d : Device) : Device.Runs l d (Device.scanStarts l fuel d) := by
  induction fuel generalizing d with
  | zero => exact .refl l d
  | succ fuel ih =>
    unfold Device.scanStarts
    dsimp only
    split
    · exact .refl l d
    · split
      · exact (Device.Runs.scanStart d l _).trans (ih _)
      · exact .refl l d

/-- What a run leaves of the lane's own counts. -/
theorem Device.Runs.own {l : LaneId} {d e : Device} (h : Device.Runs l d e) :
    (e.lane l).motion.h = (d.lane l).motion.h ∧ (e.lane l).motion.d = (d.lane l).motion.d ∧
      (e.lane l).motion.lastEdge = (d.lane l).motion.lastEdge ∧ (e.lane l).nextSeq = (d.lane l).nextSeq ∧
      (e.lane l).pendingRecipe = (d.lane l).pendingRecipe ∧ (e.lane l).gate.queue = (d.lane l).gate.queue := by
  obtain ⟨t, n, h⟩ := h
  have hl := h l
  rw [show (withLane d l _).lane l = _ from d.lane_setLane l _] at hl
  have hm := hl.motion
  exact ⟨by rw [hm], by rw [hm], by rw [hm], hl.nextSeq, hl.pending, hl.queue⟩

theorem Device.Runs.other {l m : LaneId} {d e : Device} (h : Device.Runs l d e) (hm : m ≠ l) :
    (e.lane m).motion = (d.lane m).motion := by
  obtain ⟨t, n, h⟩ := h
  have hl := h m
  rw [show (withLane d l _).lane m = _ from d.lane_setLane_of l m _, if_neg hm] at hl
  exact hl.motion

/-- The counts of lane `l` and the motion unit of the other lane stand. -/
def Device.SameCounts (l : LaneId) (d e : Device) : Prop :=
  (e.lane l).motion.h = (d.lane l).motion.h ∧ (e.lane l).motion.d = (d.lane l).motion.d ∧
    ∀ m, m ≠ l → (e.lane m).motion = (d.lane m).motion

theorem Device.SameCounts.trans {l : LaneId} {d e f : Device} (h : Device.SameCounts l d e) (k : Device.SameCounts l e f) :
    Device.SameCounts l d f :=
  ⟨k.1.trans h.1, k.2.1.trans h.2.1, fun m hm => (k.2.2 m hm).trans (h.2.2 m hm)⟩

theorem Device.Runs.sameCounts {l : LaneId} {d e : Device} (h : Device.Runs l d e) : Device.SameCounts l d e := by
  obtain ⟨hh, hd, -⟩ := h.own
  exact ⟨hh, hd, fun m hm => h.other hm⟩

theorem Device.SameCounts.testPositions (d : Device) (l : LaneId) : Device.SameCounts l d (d.testPositions l) := by
  have hgates : ∀ e : Device, Device.SameCounts l e (Device.gateArrivals l (e.lane l).gate.queue.length e) := fun e =>
    ⟨congrArg Motion.h (Device.gateArrivals_motion l _ e l), congrArg Motion.d (Device.gateArrivals_motion l _ e l),
      fun m _ => Device.gateArrivals_motion l _ e m⟩
  have hscans : ∀ e : Device, Device.SameCounts l e (Device.scanStarts l (e.lane l).live.length e) :=
    fun e => (Device.Runs.scanStarts l _ e).sameCounts
  have hline : ∀ e : Device, Device.SameCounts l e (e.issueDue l) := fun e => (Device.Runs.issueDue e l).sameCounts
  have hfree : Device.SameCounts l d { d with freeIndex := d.freeIndex + 1 } := ⟨rfl, rfl, fun _ _ => rfl⟩
  unfold Device.testPositions
  dsimp only
  split
  · split
    · exact ((hfree.trans (hgates _)).trans (hline _)).trans (hscans _)
    · exact ((hfree.trans (hline _)).trans (hgates _)).trans (hscans _)
    · exact ((hfree.trans (hline _)).trans (hscans _)).trans (hgates _)
  · exact ((hline d).trans (hscans _)).trans (hgates _)

end Sys2Proof.Machine

/-! # Counts and edges (R29 to R34) -/

namespace Sys2Proof.Machine

/-- A lane whose H has risen by one (R30). -/
def Lane.counted (L : Lane) : Lane := { L with motion := { L.motion with h := L.motion.h + 1 } }

theorem Device.forwardCount_of_off {d : Device} {l : LaneId} (h : (d.lane l).mode = .off) : d.forwardCount l = d := by
  simp [Device.forwardCount, h]

theorem Device.reverseCount_of_off {d : Device} {l : LaneId} (h : (d.lane l).mode = .off) : d.reverseCount l = d := by
  simp [Device.reverseCount, h]

theorem Device.edgeRises_of_off {d : Device} {l : LaneId} (h : (d.lane l).mode = .off) : d.edgeRises l = d := by
  simp [Device.edgeRises, h]

theorem Device.forwardCount_of_deep {d : Device} {l : LaneId} (h : (d.lane l).mode ≠ .off) (hd : (d.lane l).motion.d ≠ 0) :
    d.forwardCount l = withLane d l { d.lane l with motion := { (d.lane l).motion with d := (d.lane l).motion.d - 1 } } := by
  unfold Device.forwardCount
  dsimp only
  rw [if_neg h, if_neg hd]
  rfl

theorem Device.forwardCount_of_risen {d : Device} {l : LaneId} (h : (d.lane l).mode ≠ .off) (hd : (d.lane l).motion.d = 0) :
    d.forwardCount l = (withLane d l (d.lane l).counted).testPositions l := by
  unfold Device.forwardCount
  dsimp only
  rw [if_neg h, if_pos hd]
  rfl

/-! ## The watched positions -/

theorem atOrBeyond_iff (h p : Word32) : atOrBeyond h p = true ↔ (h - p).toNat < 2 ^ 31 := by
  simp [atOrBeyond]

theorem Lane.gateDue_iff (L : Lane) : L.gateDue = true ↔
    ∃ (e : GateEntry) (rest : List GateEntry), L.gate.queue = e :: rest ∧ (L.motion.h - e.pos).toNat < 2 ^ 31 := by
  unfold Lane.gateDue
  cases L.gate.queue with
  | nil => simp
  | cons e rest => simp [atOrBeyond_iff]

theorem Device.gateArrivals_of_due {d : Device} {l : LaneId} (h : (d.lane l).gateDue = true) (n : Nat) :
    Device.gateArrivals l (n + 1) d = Device.gateArrivals l n (d.gateArrival l) := if_pos h

theorem Device.gateArrivals_of_not_due {d : Device} {l : LaneId} (h : (d.lane l).gateDue = false) (n : Nat) :
    Device.gateArrivals l n d = d := by
  cases n with
  | zero => rfl
  | succ n => exact if_neg (by simp [h])

theorem Device.issueDue_of_due {d : Device} {l : LaneId} {c : Context} {pos : Word32}
    (hpos : (d.lane l).motion.nextLine = some pos) (hc : (d.lane l).scanningCtx = some c)
    (hdue : atOrBeyond (d.lane l).motion.h pos = true) : d.issueDue l = d.issueLine l c pos := by
  simp [Device.issueDue, hpos, hc, hdue]

theorem Device.issueDue_of_not_due {d : Device} {l : LaneId} (h : (d.lane l).lineDue = false) : d.issueDue l = d := by
  unfold Lane.lineDue at h
  unfold Device.issueDue
  dsimp only
  cases hpos : (d.lane l).motion.nextLine with
  | none => rfl
  | some pos =>
    rw [hpos] at h
    cases hc : (d.lane l).scanningCtx with
    | none => rfl
    | some c => exact if_neg (by simpa [hc] using h)

theorem Device.scanStarts_of_due {d : Device} {l : LaneId} {c : Context} (hc : (d.lane l).oldestWaiting = some c)
    (hdue : atOrBeyond (d.lane l).motion.h c.scanStart = true) (n : Nat) :
    Device.scanStarts l (n + 1) d = Device.scanStarts l n (d.scanStart l c) := by
  rw [Device.scanStarts]
  simp only [hc, hdue, if_true]

theorem Device.scanStarts_of_not_due {d : Device} {l : LaneId} (h : (d.lane l).scanDue = false) (n : Nat) :
    Device.scanStarts l n d = d := by
  cases n with
  | zero => rfl
  | succ n =>
    unfold Lane.scanDue at h
    rw [Device.scanStarts]
    cases hc : (d.lane l).oldestWaiting with
    | none => rfl
    | some c =>
      rw [hc] at h
      exact if_neg (by simpa using h)

/-- The order of what a risen H brings (R34). -/
theorem Device.testPositions_of_no_line {d : Device} {l : LaneId} (hline : (d.lane l).lineDue = false)
    (hscan : (d.lane l).scanDue = false) : d.testPositions l = Device.gateArrivals l (d.lane l).gate.queue.length d := by
  simp [Device.testPositions, hline, hscan, Device.issueDue_of_not_due hline, Device.scanStarts_of_not_due hscan]

theorem Device.Runs.gateDue {d e : Device} {l : LaneId} (h : Device.Runs l d e) : (e.lane l).gateDue = (d.lane l).gateDue := by
  obtain ⟨hh, -, -, -, -, hqueue⟩ := h.own
  simp only [Lane.gateDue, hh, hqueue]

theorem Device.testPositions_of_no_gate {d : Device} {l : LaneId} (h : (d.lane l).gateDue = false) :
    d.testPositions l = Device.scanStarts l ((d.issueDue l).lane l).live.length (d.issueDue l) := by
  have hruns : Device.Runs l d (Device.scanStarts l ((d.issueDue l).lane l).live.length (d.issueDue l)) :=
    (Device.Runs.issueDue d l).trans (.scanStarts l _ _)
  unfold Device.testPositions
  dsimp only
  rw [if_neg (by simp [h]), Device.gateArrivals_of_not_due (hruns.gateDue.trans h)]

theorem Device.testPositions_of_both {d : Device} {l : LaneId} (hgate : (d.lane l).gateDue = true)
    (h : (d.lane l).lineDue = true ∨ (d.lane l).scanDue = true) : d.testPositions l =
      let e := { d with freeIndex := d.freeIndex + 1 }
      let gates : Device → Device := fun d => Device.gateArrivals l (d.lane l).gate.queue.length d
      let scans : Device → Device := fun d => Device.scanStarts l (d.lane l).live.length d
      match Config.gateOrder d.freeIndex with
      | .beforeLine => scans ((gates e).issueDue l)
      | .betweenLineAndScan => scans (gates (e.issueDue l))
      | .afterScan => gates (scans (e.issueDue l)) := by
  unfold Device.testPositions
  dsimp only
  rw [if_pos (by rcases h with h | h <;> simp [hgate, h])] <;> rfl

theorem Device.reverseCount_of_top {d : Device} {l : LaneId} (h : (d.lane l).motion.d = 0xFFFF) : d.reverseCount l = d := by
  simp [Device.reverseCount, h]

/-- A lane whose D has risen by one (R31). -/
def Lane.reversed (L : Lane) : Lane := { L with motion := { L.motion with d := L.motion.d + 1 } }

theorem Device.reverseCount_of_counted {d : Device} {l : LaneId} (h : (d.lane l).mode ≠ .off)
    (hd : (d.lane l).motion.d ≠ 0xFFFF) : d.reverseCount l =
      match (d.lane l).scanningCtx with
      | none => withLane d l (d.lane l).reversed
      | some c =>
        if (d.lane l).settings.reverseLimit.toNat < ((d.lane l).motion.d + 1).toNat then
          ((withLane d l (d.lane l).reversed).fault l .motionFault).abortMotion l c
        else withLane d l (d.lane l).reversed := by
  unfold Device.reverseCount
  dsimp only
  rw [if_neg (not_or.mpr ⟨h, hd⟩)]
  have hscan : (d.lane l).scanningCtx = Lane.scanningCtx { d.lane l with motion := { (d.lane l).motion with
      d := (d.lane l).motion.d + 1 } } := rfl
  cases hc : (d.lane l).scanningCtx <;> rfl

theorem Word16.succ_toNat {x : Word16} (h : x ≠ 0xFFFF) : (x + 1).toNat = x.toNat + 1 := by
  have hne : x.toNat ≠ 0xFFFF := fun hx => h (BitVec.eq_of_toNat_eq hx)
  bv_omega

/-- The lane of `withLane`. -/
theorem lane_withLane (d : Device) (l : LaneId) (L : Lane) : (withLane d l L).lane l = L := d.lane_setLane l L

theorem lane_withLane_of_ne (d : Device) {l m : LaneId} (L : Lane) (h : m ≠ l) : (withLane d l L).lane m = d.lane m :=
  (d.lane_setLane_of l m L).trans (if_neg h)

/-- Settles O16, by the equations of the counts and of the watched positions. -/
theorem countsMove : Obligations.CountsMove := by
  refine ⟨fun l m s hs hm => ⟨fun hoff => ⟨?_, ?_, ?_⟩, fun hon hd => ?_, fun hon hd hline hscan hgate => ?_, fun hon hd => ?_,
    fun hon hd => ?_, fun hon hd hstays => ?_⟩, fun l s hs hon => ?_, fun d l n => ?_⟩
  · exact (exec_running hs).trans (congrArg (becomes s) (Device.forwardCount_of_off hoff))
  · exact (exec_running hs).trans (congrArg (becomes s) (Device.reverseCount_of_off hoff))
  · exact (exec_running hs).trans (congrArg (becomes s) (Device.edgeRises_of_off hoff))
  · exact (exec_running hs).trans (congrArg (becomes s) (Device.forwardCount_of_deep hon hd))
  · refine (exec_running hs).trans (congrArg (becomes s) ((Device.forwardCount_of_risen hon hd).trans ?_))
    have hlane := lane_withLane s.dev l (s.dev.lane l).counted
    exact (Device.testPositions_of_no_line (by rw [hlane]; exact hline) (by rw [hlane]; exact hscan)).trans
      (Device.gateArrivals_of_not_due (by rw [hlane]; exact hgate) _)
  · obtain ⟨hh, hzero, hother⟩ := Device.SameCounts.testPositions (withLane s.dev l (s.dev.lane l).counted) l
    rw [lane_withLane] at hh hzero
    refine ⟨_, (exec_running hs).trans (congrArg (becomes s) (Device.forwardCount_of_risen hon hd)), ?_, ?_, ?_⟩ <;>
      dsimp only <;> rw [Device.settleStall_lane]
    · exact hh
    · exact hzero.trans hd
    · rw [hother m hm, lane_withLane_of_ne _ _ hm]
  · exact (exec_running hs).trans (congrArg (becomes s) (Device.reverseCount_of_top hd))
  · refine (exec_running hs).trans (congrArg (becomes s) ((Device.reverseCount_of_counted hon hd).trans ?_))
    rcases hstays with hnone | hlimit
    · rw [hnone]
      rfl
    · cases hc : (s.dev.lane l).scanningCtx with
      | none => rfl
      | some c => exact if_neg (by rw [Word16.succ_toNat hd]; omega)
  · intro L up d counted gates scans line hd
    have hrisen : exec (.encoderForwardCount l) s = becomes s (d.testPositions l) :=
      (exec_running hs).trans (congrArg (becomes s) (Device.forwardCount_of_risen hon hd))
    have hlane : d.lane l = up := lane_withLane s.dev l (s.dev.lane l).counted
    rw [hrisen]
    refine ⟨fun hline hscan => ?_, fun hgate => ?_, fun hgate hboth => ?_⟩
    · exact congrArg (becomes s) (Device.testPositions_of_no_line (by rw [hlane]; exact hline) (by rw [hlane]; exact hscan))
    · exact congrArg (becomes s) (Device.testPositions_of_no_gate (by rw [hlane]; exact hgate))
    · rw [Device.testPositions_of_both (by rw [hlane]; exact hgate) (by rw [hlane]; exact hboth)]
      cases Config.gateOrder d.freeIndex with
      | beforeLine => exact .inl rfl
      | betweenLineAndScan => exact .inr (.inl rfl)
      | afterScan => exact .inr (.inr rfl)
  · exact ⟨Lane.gateDue_iff _, fun h => Device.gateArrivals_of_due h n, fun h => Device.gateArrivals_of_not_due h n,
      fun c pos hpos hc hdue => Device.issueDue_of_due hpos hc ((atOrBeyond_iff _ _).mpr hdue), Device.issueDue_of_not_due,
      fun c hc hdue => Device.scanStarts_of_due hc ((atOrBeyond_iff _ _).mpr hdue) n,
      fun h => Device.scanStarts_of_not_due h n⟩

/-! ## Edges (R32, R33, R133) -/

theorem Lane.acceptsEdge_iff (L : Lane) : L.acceptsEdge = true ↔ L.motion.d = 0 ∧
    ∀ e : Word32, L.motion.lastEdge = some e → (L.motion.h - (e + L.settings.edgeGuard.setWidth 32)).toNat < 2 ^ 31 := by
  unfold Lane.acceptsEdge
  cases L.motion.lastEdge <;> simp [atOrBeyond_iff]

theorem Device.edgeRises_of_ignored {d : Device} {l : LaneId} (h : (d.lane l).mode ≠ .off) (he : (d.lane l).acceptsEdge = false) :
    d.edgeRises l = d.raiseLane l .edgeIgnored := by
  simp [Device.edgeRises, h, he]

theorem Device.edgeRises_of_accepted {d : Device} {l : LaneId} (h : (d.lane l).mode ≠ .off) (he : (d.lane l).acceptsEdge = true) :
    d.edgeRises l = d.acceptedEdge l := by
  simp [Device.edgeRises, h, he]

/-- What an accepted edge has written stands: the counts' captured edge, the panel's number taken, no recipe to come. -/
def Lane.EdgeKept (L M : Lane) : Prop :=
  M.motion.h = L.motion.h ∧ M.motion.lastEdge = L.motion.lastEdge ∧ M.nextSeq = L.nextSeq ∧ M.pendingRecipe = L.pendingRecipe

theorem Lane.EdgeKept.trans {L M N : Lane} (h : L.EdgeKept M) (k : M.EdgeKept N) : L.EdgeKept N :=
  ⟨k.1.trans h.1, k.2.1.trans h.2.1, k.2.2.1.trans h.2.2.1, k.2.2.2.trans h.2.2.2⟩

theorem Device.Runs.edgeKept {l : LaneId} {d e : Device} (h : Device.Runs l d e) : (d.lane l).EdgeKept (e.lane l) := by
  obtain ⟨hh, -, hedge, hseq, hpending, -⟩ := h.own
  exact ⟨hh, hedge, hseq, hpending⟩

theorem Device.Tracks.edgeKept {d e : Device} (h : d.Tracks e) (l : LaneId) : (d.lane l).EdgeKept (e.lane l) := (h.runs l).edgeKept

theorem Device.passGateEntry_edgeKept (d : Device) (l : LaneId) (e : GateEntry) :
    (d.lane l).EdgeKept ((d.passGateEntry l e).lane l) := by
  have hrefused : d.Tracks (d.fault l .panelOverrun) := .fault d l _
  unfold Device.passGateEntry
  dsimp only
  split
  · rw [Device.lane_setLane]
    exact ⟨rfl, rfl, rfl, rfl⟩
  · split
    · next n _ =>
      have hnoEntry : (d.fault l .panelOverrun).Steady
          ((d.fault l .panelOverrun).modCtx l n fun c => { c with gateAction := .noEntry }) := .modCtx _ l n fun _ => rfl
      exact (hrefused.trans hnoEntry.tracks).edgeKept l
    · exact hrefused.edgeKept l

theorem Device.untracked_edgeKept (d : Device) (l : LaneId) (q : Word16) (gatePos : Word32) :
    (d.lane l).EdgeKept ((d.untracked l q gatePos).lane l) := by
  have hidle : ∀ L : Lane, L.EdgeKept L.loadIdle := fun L => by
    rcases L.loadIdle_eq with h | ⟨-, h⟩ <;> rw [h] <;> exact ⟨rfl, rfl, rfl, rfl⟩
  refine (d.passGateEntry_edgeKept l { pos := gatePos, seq := q, kind := .fixedReview }).trans ?_
  rw [Device.untracked, Device.lane_modLane]
  exact hidle _

theorem Device.tracked_edgeKept (d : Device) (l : LaneId) (n slot : Fin 4) (q : Word16) (edge start gatePos : Word32) :
    (d.lane l).EdgeKept ((d.tracked l n slot q edge start gatePos).lane l) := by
  refine Lane.EdgeKept.trans ?_ (Device.Runs.scanStarts l _ _).edgeKept
  refine Lane.EdgeKept.trans ?_ (Device.passGateEntry_edgeKept _ l _)
  rw [Device.lane_modLane]
  exact ⟨rfl, rfl, rfl, rfl⟩

theorem Lane.takeRecipe_kept (L : Lane) : L.takeRecipe.motion = L.motion ∧ L.takeRecipe.pendingRecipe = none := by
  rcases L.takeRecipe_eq with ⟨hnone, h⟩ | ⟨i, -, h⟩ <;> rw [h]
  · exact ⟨rfl, hnone⟩
  · exact ⟨rfl, rfl⟩

theorem Lane.enterWarming_motion (L : Lane) : L.enterWarming.motion = L.motion := by
  unfold Lane.enterWarming Lane.warmupExpires
  dsimp only
  split
  · rw [Lane.enterReady_eq]
  · rfl

/-- What an accepted edge writes in its lane (R33). -/
theorem Lane.edge_writes (L : Lane) : L.edge.motion = { L.motion with lastEdge := some L.motion.h } ∧
    L.edge.nextSeq = L.nextSeq + 1 ∧ L.edge.pendingRecipe = none := by
  unfold Lane.edge
  dsimp only
  refine ⟨(Lane.takeRecipe_kept _).1.trans ?_, rfl, (Lane.takeRecipe_kept _).2⟩
  split
  · exact Lane.enterWarming_motion _
  · rfl

theorem Device.acceptedEdge_edgeKept (d : Device) (l : LaneId) : (d.lane l).edge.EdgeKept ((d.acceptedEdge l).lane l) := by
  have hset := d.lane_setLane l (d.lane l).edge
  rw [Device.acceptedEdge_eq]
  dsimp only
  split
  · have h := Device.untracked_edgeKept ((d.setLane l (d.lane l).edge).raiseLane l .noRecipe) l (d.lane l).nextSeq
      ((d.lane l).motion.h + (d.lane l).edge.settings.gateDistance.setWidth 32)
    rwa [show ((d.setLane l (d.lane l).edge).raiseLane l .noRecipe).lane l = _ from hset] at h
  · next slot n _ _ =>
    have h := Device.tracked_edgeKept (d.setLane l (d.lane l).edge) l n slot (d.lane l).nextSeq (d.lane l).motion.h
      ((d.lane l).motion.h + (d.lane l).edge.settings.leadIn.setWidth 32)
      ((d.lane l).motion.h + (d.lane l).edge.settings.gateDistance.setWidth 32)
    rwa [hset] at h
  · have hfault := (Device.Tracks.fault (d.setLane l (d.lane l).edge) l .panelOverrun).edgeKept l
    rw [hset] at hfault
    exact hfault.trans (Device.untracked_edgeKept _ l _ _)

/-- Settles O18, by `Lane.acceptsEdge_iff`, `Lane.edge_writes` and `Device.acceptedEdge_edgeKept`. -/
theorem edgesTaken : Obligations.EdgesTaken := by
  intro l s hs hon L accepted
  have hiff : (s.dev.lane l).acceptsEdge = true ↔ accepted := Lane.acceptsEdge_iff _
  refine ⟨hiff, fun hno => ?_, fun hyes => ?_⟩
  · exact (exec_running hs).trans (congrArg (becomes s)
      (Device.edgeRises_of_ignored hon (Bool.eq_false_iff.mpr fun h => hno (hiff.mp h))))
  · refine ⟨_, (exec_running hs).trans (congrArg (becomes s) (Device.edgeRises_of_accepted hon (hiff.mpr hyes))), ?_⟩
    obtain ⟨hh, hedge, hseq, hpending⟩ := s.dev.acceptedEdge_edgeKept l
    obtain ⟨hmotion, hnext, hnone⟩ := (s.dev.lane l).edge_writes
    dsimp only
    rw [Device.settleStall_lane, hh, hedge, hseq, hpending, hmotion, hnext, hnone]
    exact ⟨rfl, rfl, rfl, rfl⟩

end Sys2Proof.Machine

/-! # Line issues and scan starts (R34 to R38, R135 to R138) -/

namespace Sys2Proof.Machine

/-! ## The contexts that Wait -/

/-- The Waiting contexts of a lane, oldest first, as their panels. -/
def Lane.waits (L : Lane) : List (Fin 4 × CtxState × Word16 × Fin 4 × Word32) :=
  (L.live.map Context.panel).filter fun x => decide (x.2.1 = .waiting)

/-- No context of a number Waits. -/
def Lane.Clear (n : Fin 4) (L : Lane) : Prop := ∀ c ∈ L.live, c.state = .waiting → c.num ≠ n

theorem Lane.mem_waits {L : Lane} {x : Fin 4 × CtxState × Word16 × Fin 4 × Word32} :
    x ∈ L.waits ↔ ∃ c ∈ L.live, c.state = .waiting ∧ c.panel = x := by
  simp only [Lane.waits, List.mem_filter, List.mem_map, decide_eq_true_iff]
  constructor
  · rintro ⟨⟨c, hc, rfl⟩, hs⟩
    exact ⟨c, hc, hs, rfl⟩
  · rintro ⟨c, hc, hs, rfl⟩
    exact ⟨⟨c, hc, rfl⟩, hs⟩

theorem Lane.oldestWaiting_panel (L : Lane) : L.oldestWaiting.map Context.panel = L.waits.head? := by
  unfold Lane.oldestWaiting Lane.waits
  rw [List.filter_map, ← List.head?_filter, List.head?_map]
  rfl

theorem Lane.waits_eq (L : Lane) : L.waits = (L.live.filter fun c => decide (c.state = .waiting)).map Context.panel := by
  rw [Lane.waits, List.filter_map]
  rfl

/-- An operation on the contexts of one number that do not Wait: they stay so, and those that Wait stand. -/
def Lane.SameWaits (n : Fin 4) (L M : Lane) : Prop := L.Clear n → M.Clear n ∧ M.waits = L.waits

theorem Lane.SameWaits.refl (n : Fin 4) (L : Lane) : L.SameWaits n L := fun h => ⟨h, rfl⟩

theorem Lane.SameWaits.trans {n : Fin 4} {L M N : Lane} (h : L.SameWaits n M) (k : M.SameWaits n N) : L.SameWaits n N := fun hL => by
  obtain ⟨hM, hw⟩ := h hL
  obtain ⟨hN, hw'⟩ := k hM
  exact ⟨hN, hw'.trans hw⟩

theorem Lane.Steady.sameWaits {L M : Lane} (h : L.Steady M) (n : Fin 4) : L.SameWaits n M := fun hL => by
  have hw : M.waits = L.waits := by rw [Lane.waits, h.panels]; rfl
  refine ⟨fun c hc hs => ?_, hw⟩
  obtain ⟨b, hb, hbs, hpanel⟩ := Lane.mem_waits.mp (hw ▸ Lane.mem_waits.mpr ⟨c, hc, hs, rfl⟩)
  have hnum : b.num = c.num := congrArg Prod.fst hpanel
  exact hnum ▸ hL b hb hbs

/-- The contexts of the number are changed in a way that makes none Wait. -/
theorem Lane.SameWaits.modCtx (L : Lane) (n : Fin 4) {f : Context → Context}
    (h : ∀ c, (f c).state = .waiting → c.state = .waiting) : L.SameWaits n (L.modCtx n f) := fun hL => by
  have hstate : ∀ c ∈ L.live, c.num = n → ¬ (f c).state = .waiting := fun c hc hnum hs => hL c hc (h c hs) hnum
  refine ⟨fun x hx hs => ?_, ?_⟩
  · obtain ⟨c, hc, rfl⟩ := List.mem_map.mp hx
    by_cases hnum : c.num = n
    · rw [if_pos hnum] at hs
      exact absurd hs (hstate c hc hnum)
    · rwa [if_neg hnum]
  · rw [Lane.waits_eq, Lane.waits_eq, Lane.modCtx]
    dsimp only
    rw [List.filter_map, List.map_map]
    have hfilter : L.live.filter ((fun c : Context => decide (c.state = .waiting)) ∘ fun c => if c.num = n then f c else c) =
        L.live.filter fun c => decide (c.state = .waiting) := List.filter_congr fun c hc => by
      by_cases hnum : c.num = n
      · have hno : ¬ c.state = .waiting := fun hs => hL c hc hs hnum
        simp [hnum, hstate c hc hnum, hno]
      · simp [hnum]
    rw [hfilter]
    refine List.map_congr_left fun c hc => ?_
    obtain ⟨hc, hs⟩ := List.mem_filter.mp hc
    simp [hL c hc (of_decide_eq_true hs)]

/-- The contexts of the number that do not Wait leave. -/
theorem Lane.SameWaits.dropCtx (L : Lane) (n : Fin 4) : L.SameWaits n (L.dropCtx n) := fun hL => by
  refine ⟨fun c hc => hL c (List.mem_of_mem_filter hc), ?_⟩
  rw [Lane.waits_eq, Lane.waits_eq, Lane.dropCtx, List.filter_filter]
  refine congrArg (List.map Context.panel) (List.filter_congr fun c hc => ?_)
  by_cases hs : c.state = .waiting
  · simp [hs, hL c hc hs]
  · simp [hs]

/-- The same of lane `l` of the part. -/
def Device.SameWaits (l : LaneId) (n : Fin 4) (d e : Device) : Prop := (d.lane l).SameWaits n (e.lane l)

section
variable (d : Device) (l : LaneId) (n : Fin 4)

theorem Device.SameWaits.refl : Device.SameWaits l n d d := Lane.SameWaits.refl n _

theorem Device.SameWaits.modCtx {f : Context → Context} (h : ∀ c, (f c).state = .waiting → c.state = .waiting) :
    Device.SameWaits l n d (d.modCtx l n f) := by
  rw [Device.SameWaits, Device.modCtx, Device.lane_modLane]
  exact .modCtx _ n h

variable {d l n} in
theorem Device.SameWaits.of_steady {e : Device} (h : d.Steady e) : Device.SameWaits l n d e := (h l).sameWaits n

variable {d l n} in
theorem Device.SameWaits.trans {e f : Device} (h : Device.SameWaits l n d e) (k : Device.SameWaits l n e f) :
    Device.SameWaits l n d f := Lane.SameWaits.trans h k

theorem Device.SameWaits.retire : Device.SameWaits l n d (d.retire l n) := by
  unfold Device.retire
  split
  · rw [Device.SameWaits, Device.retireNow_lane, if_pos rfl]
    exact .dropCtx _ n
  · exact Device.SameWaits.modCtx d l n fun c hs => by cases hs

theorem Device.SameWaits.tryDecide : Device.SameWaits l n d (d.tryDecide l n) := by
  have hrejected : ∀ (e : Device) (P : Prop) [Decidable P], e.Steady (if P then e.raiseLane l .panelRejected else e) :=
    fun e P _ => .ite (fun _ => .raiseLane e l _) fun _ => .refl e
  have hdecided : ∀ x : Decision, Device.SameWaits l n d (d.modCtx l n fun c => { c with decision := some x, state := .decided }) :=
    fun x => .modCtx d l n fun c hs => by cases hs
  have hpassed : ∀ x : Decision, Device.SameWaits l n d (d.modCtx l n fun c => { c with decision := some x }) :=
    fun x => .modCtx d l n fun c hs => hs
  unfold Device.tryDecide
  split
  · exact .refl d l n
  · split
    · dsimp only
      split
      · exact (hdecided _).trans (.of_steady (hrejected _ _))
      · exact ((hpassed _).trans (.of_steady (hrejected _ _))).trans (.retire _ l n)
      all_goals exact .refl d l n
    · exact .refl d l n

theorem Lane.SameWaits.enterReady (L : Lane) : L.SameWaits n L.enterReady := by
  rw [Lane.enterReady_eq]
  exact fun hL => ⟨hL, rfl⟩

theorem Device.SameWaits.leaveScanning : Device.SameWaits l n d (d.leaveScanning l n) := by
  rw [Device.leaveScanning_eq]
  refine Lane.SameWaits.trans ?_ (Device.SameWaits.tryDecide _ l n)
  rw [Device.lane_modLane]
  refine Lane.SameWaits.trans (.modCtx _ n fun c hs => ?_) (.enterReady n _)
  rcases c.settle_state with h | h <;> cases h.symm.trans hs

theorem Device.SameWaits.issueLine (c : Context) (pos : Word32) : Device.SameWaits l c.num d (d.issueLine l c pos) := by
  have hmoved : Device.SameWaits l c.num d (d.lineMoved l c pos) := by
    rw [Device.SameWaits, show (d.lineMoved l c pos).lane l = _ from lane_withLane d l _]
    exact fun hL => ⟨hL, rfl⟩
  have hlit : Device.SameWaits l c.num d (d.lineLit l c pos) :=
    hmoved.trans (.of_steady (.lineLit d l c pos))
  rw [Device.issueLine_eq]
  split
  · exact hlit.trans (.leaveScanning _ l _)
  · exact hlit

end

/-! ## After a scan start the context Waits no more -/

theorem Lane.Clear.modCtx (L : Lane) (n : Fin 4) {f : Context → Context} (h : ∀ c, (f c).state ≠ .waiting) : (L.modCtx n f).Clear n := fun x hx hs => by
  obtain ⟨c, hc, rfl⟩ := List.mem_map.mp hx
  by_cases hcn : c.num = n
  · rw [if_pos hcn] at hs
    exact absurd hs (h c)
  · rwa [if_neg hcn]

theorem Device.abortAtStart_clear (d : Device) (l : LaneId) (n : Fin 4) (a : AbortCause) (joints : Nat) :
    (((d.modCtx l n (Context.abortAtStart a joints)).settleCtx l n).lane l).Clear n := by
  rw [Device.settleCtx_eq, Device.modCtx, Device.lane_modLane]
  refine .modCtx _ n fun c hs => ?_
  rcases c.settle_state with h | h <;> cases h.symm.trans hs

theorem Device.scanStart_clear (d : Device) (l : LaneId) (c : Context) : ((d.scanStart l c).lane l).Clear c.num := by
  have habort : ∀ {e f : Device} (a : AbortCause) (joints : Nat), (d.modCtx l c.num (Context.abortAtStart a joints)).settleCtx l c.num = e →
      e.Steady f → ((f.tryDecide l c.num).lane l).Clear c.num := fun a joints he hf =>
    ((Device.SameWaits.of_steady hf).trans (.tryDecide _ l _) (he ▸ d.abortAtStart_clear l c.num a joints)).1
  unfold Device.scanStart
  split
  · rw [Device.startScan_eq]
    have hbegun : ((d.modLane l fun L => L.beginScan c (d.slot c.slot).hdr).lane l).Clear c.num := by
      rw [Device.lane_modLane]
      exact Lane.Clear.modCtx (d.lane l) c.num (f := Context.begin (d.lane l).motion.tagCounter) fun c hs => by cases hs
    dsimp only
    split
    · exact hbegun
    · next x hx =>
      have hnum : x.num = c.num := Lane.num_of_ctx hx
      rw [← hnum] at hbegun ⊢
      exact (Device.SameWaits.issueLine _ l x _ hbegun).1
  · exact habort .overlap _ rfl (.raiseLane _ l _)
  all_goals exact habort .warmup _ rfl (.fault _ l _)

/-- After a scan start of the one Waiting panel no context Waits. -/
theorem Device.scanStart_none_waits {d : Device} {l : LaneId} {c : Context}
    (hone : ∀ x ∈ (d.lane l).waits, x = c.panel) : ((d.scanStart l c).lane l).oldestWaiting = none := by
  refine List.find?_eq_none.mpr fun x hx hs => ?_
  have hs : x.state = .waiting := of_decide_eq_true hs
  obtain ⟨t, n, hruns⟩ := Device.Runs.scanStart d l c
  have hbefore := (hruns l).waiting x hx hs
  rw [lane_withLane] at hbefore
  obtain ⟨b, hb, hpanel⟩ := List.mem_map.mp hbefore
  have hbs : b.state = .waiting := (congrArg (fun x => x.2.1) hpanel : b.state = x.state).trans hs
  have hbc := hone _ (Lane.mem_waits.mpr ⟨b, hb, hbs, hpanel⟩)
  exact d.scanStart_clear l c x hx hs (congrArg Prod.fst hbc)

/-- A scan start looks at its context's panel alone. -/
theorem Device.scanStart_congr (d : Device) (l : LaneId) {b c : Context} (h : b.panel = c.panel) :
    d.scanStart l b = d.scanStart l c := by
  have hnum : b.num = c.num := congrArg Prod.fst h
  have hseq : b.seq = c.seq := congrArg (fun x => x.2.2.1) h
  have hslot : b.slot = c.slot := congrArg (fun x => x.2.2.2.1) h
  simp only [Device.scanStart, Device.startScan_eq, Device.abortWarmup, Device.abortOverlap, Device.jointCount, Lane.beginScan,
    hnum, hseq, hslot]

theorem Lane.scanDue_of_none {L : Lane} (h : L.oldestWaiting = none) : L.scanDue = false := by
  simp [Lane.scanDue, h]

/-- Whether a scan start is due is read off the Waiting panels. -/
theorem Lane.scanDue_eq (L : Lane) : L.scanDue = (L.waits.head?.map fun x => atOrBeyond L.motion.h x.2.2.2.2).getD false := by
  rw [← Lane.oldestWaiting_panel]
  unfold Lane.scanDue
  cases L.oldestWaiting <;> rfl

/-- The scan starts of a lane in which one panel Waits that has reached its position. -/
theorem Device.scanStarts_of_one {d : Device} {l : LaneId} {w : Context} (hwaits : (d.lane l).waits.head? = some w.panel)
    (hone : ∀ x ∈ (d.lane l).waits, x = w.panel) (hdue : atOrBeyond (d.lane l).motion.h w.scanStart = true) :
    Device.scanStarts l (d.lane l).live.length d = d.scanStart l w := by
  rw [← Lane.oldestWaiting_panel] at hwaits
  obtain ⟨x, hx, hpanel⟩ := Option.map_eq_some_iff.mp hwaits
  have hlive : (d.lane l).live ≠ [] := List.ne_nil_of_mem (Lane.oldestWaiting_spec hx).1
  obtain ⟨k, hk⟩ := Nat.exists_eq_succ_of_ne_zero (mt List.length_eq_zero_iff.mp hlive)
  have hstart : x.scanStart = w.scanStart := congrArg (fun x => x.2.2.2.2) hpanel
  rw [hk, Device.scanStarts_of_due hx (hstart ▸ hdue), Device.scanStart_congr d l hpanel,
    Device.scanStarts_of_not_due (Lane.scanDue_of_none (Device.scanStart_none_waits hone))]

/-- In a lane whose contexts have different numbers none Waits with the number of its Scanning one. -/
theorem Lane.clear_of_scanning {L : Lane} {c : Context} (hnodup : (L.live.map fun c => c.num).Nodup)
    (hc : L.scanningCtx = some c) : L.Clear c.num := fun x hx hs hnum => by
  obtain ⟨hmem, hstate⟩ := Lane.scanningCtx_spec hc
  have hxc : x = c := List.inj_on_of_nodup_map hnodup hx hmem hnum
  rw [hxc, hstate] at hs
  cases hs

/-- The panels that Wait after a line issue are those that Waited before it. -/
theorem Device.issueLine_waits {d : Device} {l : LaneId} {c : Context} (hnodup : ((d.lane l).live.map fun c => c.num).Nodup)
    (hc : (d.lane l).scanningCtx = some c) (pos : Word32) : ((d.issueLine l c pos).lane l).waits = (d.lane l).waits :=
  (Device.SameWaits.issueLine d l c pos (Lane.clear_of_scanning hnodup hc)).2

theorem Device.issueLine_scanDue {d : Device} {l : LaneId} {c : Context} (hnodup : ((d.lane l).live.map fun c => c.num).Nodup)
    (hc : (d.lane l).scanningCtx = some c) (pos : Word32) : ((d.issueLine l c pos).lane l).scanDue = (d.lane l).scanDue := by
  rw [Lane.scanDue_eq, Lane.scanDue_eq, Device.issueLine_waits hnodup hc, (Device.Runs.issueLine d l c pos).own.1]

/-- A forward count on a running lane with D zero, by what the risen H brings. -/
theorem exec_forwardCount_of_risen {l : LaneId} {s : State} (hs : s.dev.resetLow = false) (hon : (s.dev.lane l).mode ≠ .off)
    (hd : (s.dev.lane l).motion.d = 0) :
    exec (.encoderForwardCount l) s = becomes s ((withLane s.dev l (s.dev.lane l).counted).testPositions l) :=
  (exec_running hs).trans (congrArg (becomes s) (Device.forwardCount_of_risen hon hd))

/-- A line issue with no gate arrival due comes before the scan starts. -/
theorem Device.testPositions_of_line {d : Device} {l : LaneId} {c : Context} {pos : Word32} (hgate : (d.lane l).gateDue = false)
    (hpos : (d.lane l).motion.nextLine = some pos) (hc : (d.lane l).scanningCtx = some c)
    (hdue : atOrBeyond (d.lane l).motion.h pos = true) : d.testPositions l =
      Device.scanStarts l ((d.issueLine l c pos).lane l).live.length (d.issueLine l c pos) := by
  rw [Device.testPositions_of_no_gate hgate, Device.issueDue_of_due hpos hc hdue]

theorem Lane.waits_of_one {L : Lane} {w : Context} (hw : L.oldestWaiting = some w)
    (hone : ∀ x ∈ L.live, x.state = .waiting → x = w) : L.waits.head? = some w.panel ∧ ∀ x ∈ L.waits, x = w.panel := by
  refine ⟨by rw [← Lane.oldestWaiting_panel, hw]; rfl, fun x hx => ?_⟩
  obtain ⟨c, hc, hs, rfl⟩ := Lane.mem_waits.mp hx
  rw [hone c hc hs]

/-- The first part: what a line issue alone does. -/
theorem lineIssue_alone (l : LaneId) (s : State) (c : Context) (pos : Word32) (hs : s.dev.resetLow = false)
    (hon : (s.dev.lane l).mode ≠ .off) (hnodup : ((s.dev.lane l).live.map fun c => c.num).Nodup)
    (hd : (s.dev.lane l).motion.d = 0) (hpos : (s.dev.lane l).motion.nextLine = some pos)
    (hdue : atOrBeyond ((s.dev.lane l).motion.h + 1) pos = true) (hc : (s.dev.lane l).scanningCtx = some c)
    (hscan : (s.dev.lane l).counted.scanDue = false) (hgate : (s.dev.lane l).counted.gateDue = false) :
    exec (.encoderForwardCount l) s = becomes s ((withLane s.dev l (s.dev.lane l).counted).issueLine l c pos) := by
  have hup : (withLane s.dev l (s.dev.lane l).counted).lane l = (s.dev.lane l).counted := lane_withLane _ _ _
  rw [exec_forwardCount_of_risen hs hon hd]
  generalize withLane s.dev l (s.dev.lane l).counted = d at hup
  rw [Device.testPositions_of_line (by rw [hup]; exact hgate) (by rw [hup]; exact hpos) (by rw [hup]; exact hc)
    (by rw [hup]; exact hdue), Device.scanStarts_of_not_due]
  rw [Device.issueLine_scanDue (by rw [hup]; exact hnodup) (by rw [hup]; exact hc), hup, hscan]

theorem lineIssue_then_scan (l : LaneId) (s : State) (c w : Context) (pos : Word32) (hs : s.dev.resetLow = false)
    (hon : (s.dev.lane l).mode ≠ .off) (hnodup : ((s.dev.lane l).live.map fun c => c.num).Nodup)
    (hd : (s.dev.lane l).motion.d = 0) (hpos : (s.dev.lane l).motion.nextLine = some pos)
    (hdue : atOrBeyond ((s.dev.lane l).motion.h + 1) pos = true) (hc : (s.dev.lane l).scanningCtx = some c)
    (hw : (s.dev.lane l).oldestWaiting = some w) (hone : ∀ x ∈ (s.dev.lane l).live, x.state = .waiting → x = w)
    (hreached : atOrBeyond ((s.dev.lane l).motion.h + 1) w.scanStart = true) (hgate : (s.dev.lane l).counted.gateDue = false) :
    exec (.encoderForwardCount l) s =
      becomes s (((withLane s.dev l (s.dev.lane l).counted).issueLine l c pos).scanStart l w) := by
  have hup : (withLane s.dev l (s.dev.lane l).counted).lane l = (s.dev.lane l).counted := lane_withLane _ _ _
  rw [exec_forwardCount_of_risen hs hon hd]
  generalize withLane s.dev l (s.dev.lane l).counted = d at hup
  have hwaits : ((d.issueLine l c pos).lane l).waits = (s.dev.lane l).waits := by
    rw [Device.issueLine_waits (by rw [hup]; exact hnodup) (by rw [hup]; exact hc), hup]
    rfl
  have hh : ((d.issueLine l c pos).lane l).motion.h = (s.dev.lane l).motion.h + 1 := by
    rw [(Device.Runs.issueLine d l c pos).own.1, hup]
    rfl
  obtain ⟨hhead, hall⟩ := Lane.waits_of_one hw hone
  rw [Device.testPositions_of_line (by rw [hup]; exact hgate) (by rw [hup]; exact hpos) (by rw [hup]; exact hc)
    (by rw [hup]; exact hdue), Device.scanStarts_of_one (w := w)]
  · rwa [hwaits]
  · rwa [hwaits]
  · rwa [hh]

theorem scanStart_alone (l : LaneId) (s : State) (c : Context) (hs : s.dev.resetLow = false)
    (hon : (s.dev.lane l).mode ≠ .off) (hd : (s.dev.lane l).motion.d = 0) (hw : (s.dev.lane l).oldestWaiting = some c)
    (hone : ∀ x ∈ (s.dev.lane l).live, x.state = .waiting → x = c)
    (hreached : atOrBeyond ((s.dev.lane l).motion.h + 1) c.scanStart = true) (hline : (s.dev.lane l).counted.lineDue = false)
    (hgate : (s.dev.lane l).counted.gateDue = false) :
    exec (.encoderForwardCount l) s = becomes s ((withLane s.dev l (s.dev.lane l).counted).scanStart l c) := by
  have hup : (withLane s.dev l (s.dev.lane l).counted).lane l = (s.dev.lane l).counted := lane_withLane _ _ _
  rw [exec_forwardCount_of_risen hs hon hd]
  generalize withLane s.dev l (s.dev.lane l).counted = d at hup
  obtain ⟨hhead, hall⟩ := Lane.waits_of_one hw hone
  rw [Device.testPositions_of_no_gate (by rw [hup]; exact hgate), Device.issueDue_of_not_due (by rw [hup]; exact hline),
    Device.scanStarts_of_one (w := c)]
  · rw [hup]; exact hhead
  · rw [hup]; exact hall
  · rw [hup]; exact hreached

/-- The context of a finished scan as the next state has it (R138). -/
theorem Context.settle_eq (c : Context) :
    c.settle = { c with state := if c.gateAction = .pending then .settling else .passed } := by
  unfold Context.settle Context.passedGate
  by_cases h : c.gateAction = .pending <;> simp [h]

theorem Device.lineMoved_lane (d : Device) (l : LaneId) (c : Context) (pos : Word32) : (d.lineMoved l c pos).lane l =
    { d.lane l with motion := { (d.lane l).motion with
      tagCounter := (d.lane l).motion.tagCounter + 1,
      nextLine := if d.lastLine l c then none else some (pos + (d.slot c.slot).hdr.linePitch.setWidth 32) } } :=
  lane_withLane d l _

/-- A line that is neither the deadline's nor the last, of a panel whose registration is Pending, moves the next-line position
and reaches the sequencer. -/
theorem Device.issueLine_of_pending {d : Device} {l : LaneId} {c : Context} (hctx : (d.lane l).ctx c.num = some c)
    (hpending : c.reg.state = .pending) (hlast : d.lastLine l c = false)
    (hearly : c.lineOf (d.lane l).motion.tagCounter ≠ (d.slot c.slot).hdr.zone.toNat + 64) (pos : Word32) :
    d.issueLine l c pos = (d.lineMoved l c pos).strobeLine l
      (lineRun c (d.slot c.slot).hdr (d.lane l).motion.tagCounter (c.lineOf (d.lane l).motion.tagCounter)) := by
  have hchecked : d.lineChecked l c pos = d.lineMoved l c pos := if_neg hearly
  have hmoved : ((d.lineMoved l c pos).lane l).ctx c.num = some c := by rw [Device.lineMoved_lane]; exact hctx
  have hopen : ∀ line fuel, Device.openJoints l c.num line fuel (d.lineMoved l c pos) = d.lineMoved l c pos := fun line fuel => by
    cases fuel with
    | zero => rfl
    | succ fuel =>
      rw [Device.openJoints, hmoved]
      dsimp only
      rw [hpending]
  rw [Device.issueLine_eq, if_neg (by simp [hlast]), Device.lineLit, hchecked, hopen]

/-- The end of a panel's scan, field by field. -/
theorem Device.leaveScanning_fields (d : Device) (l : LaneId) (n : Fin 4) :
    let M := d.lane l
    let live := M.live.map (fun x => if x.num = n then
      { x with state := if x.gateAction = .pending then .settling else .passed } else x)
    d.leaveScanning l n = (withLane d l { M with
      live := live, mode := .ready, light := .ready,
      idleLeft := if M.settings.idleTimeout ≠ 0 ∧ live.find? (fun x => decide (x.state = .waiting)) = none
                  then some (M.settings.idleTimeout.toNat * 1000000) else M.idleLeft }).tryDecide l n := by
  intro M live
  have hlive : M.modCtx n Context.settle = { M with live := live } := by
    simp only [Lane.modCtx, Context.settle_eq]
    rfl
  rw [Device.leaveScanning_eq, Device.modLane, show d.lane l = M from rfl, hlive, Lane.enterReady_eq]
  rfl

/-- The lane of a Ready panel's scan start, but for its ports, its sequencer and its gate unit (R35, R70, R135). -/
def Lane.scanBegun (L : Lane) (c : Context) (h : Header) : Lane :=
  { L.beginScan c h with motion := { L.motion with
      tagCounter := L.motion.tagCounter + 1, nextLine := some (c.scanStart + h.linePitch.setWidth 32) } }

/-- The line 0 of a panel whose scan starts at a tag. -/
def LineRun.first (c : Context) (h : Header) (lineTag : Word16) : LineRun :=
  { lineTag := lineTag, seq := c.seq, line := 0, phaseSet := h.phaseSet, flash := flashTimes h, portSet := h.portSet }

/-- A scan start taken, of a panel of more than one line whose registration is Pending: line 0 reaches the sequencer. -/
theorem Device.startScan_of_pending {d : Device} {l : LaneId} {c : Context} (hctx : (d.lane l).ctx c.num = some c)
    (hpending : c.reg.state = .pending) (hlength : (d.slot c.slot).hdr.panelLength.toNat ≠ 1) : d.startScan l c =
      (withLane d l ((d.lane l).scanBegun c (d.slot c.slot).hdr)).strobeLine l
        (.first c (d.slot c.slot).hdr (d.lane l).motion.tagCounter) := by
  have hbegun : ((d.modLane l fun L => L.beginScan c (d.slot c.slot).hdr).lane l).ctx c.num =
      some (c.begin (d.lane l).motion.tagCounter) := by
    rw [Device.lane_modLane]
    show ((d.lane l).modCtx c.num (Context.begin (d.lane l).motion.tagCounter)).ctx c.num = _
    rw [Lane.ctx_modCtx _ _ (Context.begin (d.lane l).motion.tagCounter) (fun _ => rfl), hctx]
    rfl
  have hmotion : ((d.modLane l fun L => L.beginScan c (d.slot c.slot).hdr).lane l).motion = (d.lane l).motion := by
    rw [Device.lane_modLane]
    rfl
  have hline : (c.begin (d.lane l).motion.tagCounter).lineOf (d.lane l).motion.tagCounter = 0 := by
    simp [Context.lineOf, Context.begin]
  have hmore : (d.modLane l fun L => L.beginScan c (d.slot c.slot).hdr).lastLine l (c.begin (d.lane l).motion.tagCounter) = false := by
    rw [Device.lastLine, hmotion, hline]
    exact decide_eq_false fun h => hlength h.symm
  rw [Device.startScan_eq]
  dsimp only
  rw [hbegun]
  dsimp only
  rw [Device.issueLine_of_pending (c := c.begin (d.lane l).motion.tagCounter) hbegun hpending hmore
    (by rw [hmotion, hline]; omega), hmotion, hline]
  refine congrArg (fun e : Device => e.strobeLine l (.first c (d.slot c.slot).hdr (d.lane l).motion.tagCounter)) ?_
  rw [Device.lineMoved, hmore]
  refine (withLane_withLane d l _ _).trans (congrArg (withLane d l) ?_)
  rw [Device.lane_modLane]
  rfl

/-- Two changes of the contexts of one number, one after the other. -/
theorem Lane.modCtx_modCtx (L : Lane) (n : Fin 4) (f g : Context → Context) (hnum : ∀ c, (f c).num = c.num) :
    (L.modCtx n f).modCtx n g = L.modCtx n fun c => g (f c) := by
  simp only [Lane.modCtx, List.map_map]
  congr 1
  refine List.map_congr_left fun c _ => ?_
  by_cases h : c.num = n <;> simp [h, hnum]

theorem Device.modCtx_modCtx (d : Device) (l : LaneId) (n : Fin 4) (f g : Context → Context) (hnum : ∀ c, (f c).num = c.num) :
    (d.modCtx l n f).modCtx l n g = d.modCtx l n fun c => g (f c) := by
  unfold Device.modCtx Device.modLane
  rw [Device.lane_setLane]
  exact (withLane_withLane d l _ _).trans (congrArg (withLane d l) (Lane.modCtx_modCtx _ n f g hnum))

theorem Device.abortAtStart_settled (d : Device) (l : LaneId) (n : Fin 4) (a : AbortCause) (joints : Nat) :
    (d.modCtx l n (Context.abortAtStart a joints)).settleCtx l n = d.modCtx l n fun c => (c.abortAtStart a joints).settle :=
  d.modCtx_modCtx l n _ _ fun c => by
    unfold Context.abortAtStart Context.writeAbort
    split <;> rfl

theorem Context.abortAtStart_warmup (c : Context) (joints : Nat) : (c.abortAtStart .warmup joints).settle = { c with
    abort := if c.abort = .none then .warmup else c.abort,
    state := if c.gateAction = .pending then .settling else .passed, pointer := joints,
    causes := { c.causes with warmup := c.causes.warmup + joints } } := by
  rw [Context.settle_eq]
  unfold Context.abortAtStart Context.writeAbort
  by_cases h : c.abort = .none <;> simp [h]

theorem Context.abortAtStart_overlap (c : Context) (joints : Nat) : (c.abortAtStart .overlap joints).settle = { c with
    abort := if c.abort = .none then .overlap else c.abort,
    state := if c.gateAction = .pending then .settling else .passed, pointer := joints,
    causes := { c.causes with overlap := c.causes.overlap + joints } } := by
  rw [Context.settle_eq]
  unfold Context.abortAtStart Context.writeAbort
  by_cases h : c.abort = .none <;> simp [h]

/-- Settles O17, part by part: `lineIssue_alone` and `Device.Tracks.issueLine`, `lineIssue_then_scan`,
`Device.leaveScanning_fields`, `scanStart_alone`, `Device.startScan_of_pending` and `Device.abortAtStart_settled`. -/
theorem lineIssueConsumesTag : Obligations.LineIssueConsumesTag := by
  refine ⟨fun l s c pos hs hon => ?_, fun l s c w pos hs hon => ?_, fun d l c pos => ?_, fun l s c hs hon => ?_,
    fun d l c hctx hsame => ?_⟩
  · intro L hnodup up h hd hpos hdue hc hscan hgate
    have hexec := lineIssue_alone l s c pos hs hon hnodup hd hpos hdue hc hscan hgate
    refine ⟨hexec, _, hexec, ?_⟩
    have hmotion := (Device.Tracks.issueLine (withLane s.dev l (s.dev.lane l).counted) l c pos l).motion
    rw [Device.lineMoved_lane, lane_withLane] at hmotion
    dsimp only
    rw [Device.settleStall_lane, hmotion]
    simp only [Device.lastLine, lane_withLane, decide_eq_true_iff]
    rfl
  · intro L hnodup up issued hd hpos hdue hc hw hone hreached hgate
    exact lineIssue_then_scan l s c w pos hs hon hnodup hd hpos hdue hc hw hone hreached hgate
  · intro L h line last moved checked opened lit M live
    have hlit : d.lineLit l c pos = lit := by
      have hreg : ((d.lineMoved l c pos).lane l).reg = L.reg := by rw [Device.lineMoved_lane]
      have hchecked : d.lineChecked l c pos = checked := by
        unfold Device.lineChecked Device.registrationDeadline
        rw [hreg]
        show _ = match L.reg with
          | none => moved
          | some r => if line = h.zone.toNat + 64 then moved.endRegistration l r (.failed .late) else moved
        cases L.reg with
        | none => exact ite_self _
        | some r => rfl
      unfold Device.lineLit
      rw [hchecked]
      rfl
    refine ⟨fun hlast => ?_, fun hlast => ?_⟩
    · rw [Device.issueLine_eq, hlit]
      exact if_neg (by rw [show d.lastLine l c = last from rfl, hlast]; simp)
    · rw [Device.issueLine_eq, hlit, if_pos (show d.lastLine l c = true from hlast)]
      exact lit.leaveScanning_fields l c.num
  · intro L up hd hw hone hreached hline hgate
    exact scanStart_alone l s c hs hon hd hw hone hreached hline hgate
  · intro L h t joints run aborted out
    have hmodCtx : ∀ k : Context, ∀ f : Context → Context, f c = k → d.modCtx l c.num f = aborted k := fun k f hf => by
      refine congrArg (withLane d l) ?_
      have hlive : L.live.map (fun x => if x.num = c.num then f x else x) = L.live.map fun x => if x.num = c.num then k else x :=
        List.map_congr_left fun x hx => by
          by_cases hnum : x.num = c.num
          · rw [if_pos hnum, if_pos hnum, hsame x hx hnum, hf]
          · rw [if_neg hnum, if_neg hnum]
      exact congrArg (fun xs => { L with live := xs }) hlive
    refine ⟨fun hmode hpending hlength => ?_, fun hmode => ?_, fun hmode => ?_⟩
    · have ht : t = (withLane d l (L.scanBegun c h)).strobeLine l (.first c h L.motion.tagCounter) := by
        refine Eq.trans ?_ (Device.startScan_of_pending hctx hpending hlength)
        show d.scanStart l c = _
        unfold Device.scanStart
        rw [hmode]
      obtain ⟨ports, strobe, gate, hlane⟩ := (withLane d l (L.scanBegun c h)).strobeLine_sameWork l
        (.first c h L.motion.tagCounter) l
      rw [← ht, lane_withLane] at hlane
      rw [hlane]
      refine ⟨rfl, rfl, rfl, rfl, ?_, rfl, fun p ps hidle hps => ?_⟩
      · show (L.modCtx c.num (Context.begin L.motion.tagCounter)).ctx c.num = _
        rw [Lane.ctx_modCtx _ _ (Context.begin L.motion.tagCounter) (fun _ => rfl), show L.ctx c.num = some c from hctx]
        rfl
      · have hstrobe : (t.lane l).strobe = strobe := by rw [hlane]
        rw [← hstrobe, ht, Device.strobeLine_of_idle (by rw [lane_withLane]; exact hidle) hps, (Device.enterFlash_eq _ l _ p).1,
          lane_withLane]
        rfl
    · refine Eq.trans ?_ (congrArg (fun e : Device => (e.fault l .warmupLate).tryDecide l c.num)
        ((d.abortAtStart_settled l c.num .warmup joints).trans (hmodCtx _ _ (c.abortAtStart_warmup joints))))
      show d.scanStart l c = _
      unfold Device.scanStart
      rw [hmode]
      rfl
    · refine Eq.trans ?_ (congrArg (fun e : Device => (e.raiseLane l .overlap).tryDecide l c.num)
        ((d.abortAtStart_settled l c.num .overlap joints).trans (hmodCtx _ _ (c.abortAtStart_overlap joints))))
      show d.scanStart l c = _
      unfold Device.scanStart
      rw [hmode]
      rfl

end Sys2Proof.Machine

/-! # Crop slots that become Free, and the Motion abort (R39, R102, R103) -/

namespace Sys2Proof.Machine

/-! ## Freed crop slots -/

/-- A crop slot with no owner; its pixels stand (R102). -/
def CropSlot.freed (x : CropSlot) : CropSlot := { x with state := .free, owner := none }

theorem Device.freeCrop_crops (d : Device) (i j : Nat) :
    (d.freeCrop i).crops[j]? = if j = i then d.crops[j]?.map CropSlot.freed else d.crops[j]? := by
  show (d.crops.modify i CropSlot.freed)[j]? = _
  rw [List.getElem?_modify]
  by_cases h : j = i
  · rw [if_pos h, h]
    simp
  · rw [if_neg h]
    have hne : ¬ i = j := fun hij => h hij.symm
    simp [hne]

theorem Device.freeCropOf_crops (d : Device) (w : Window) (j : Nat) :
    (d.freeCropOf w).crops[j]? = if w.crop = some j then d.crops[j]?.map CropSlot.freed else d.crops[j]? := by
  unfold Device.freeCropOf
  cases h : w.crop with
  | none => simp
  | some i =>
    dsimp only
    rw [Device.freeCrop_crops]
    exact if_congr (by rw [Option.some.injEq, eq_comm]) rfl rfl

theorem Device.freeCropOf_cropQueue (d : Device) (w : Window) :
    (d.freeCropOf w).cropQueue = d.cropQueue.filter fun j => decide (w.crop ≠ some j) := by
  unfold Device.freeCropOf
  cases h : w.crop with
  | none => simp
  | some i =>
    refine List.filter_congr fun j _ => ?_
    simp [eq_comm]

/-- The crop slots of the windows freed one after the other: each is Free with its pixels standing, no other changes. -/
theorem Device.foldl_freeCropOf_crops (ws : List Window) (d : Device) (j : Nat) : (ws.foldl Device.freeCropOf d).crops[j]? =
    if ∃ w ∈ ws, w.crop = some j then d.crops[j]?.map CropSlot.freed else d.crops[j]? := by
  induction ws generalizing d with
  | nil => simp
  | cons w ws ih =>
    rw [List.foldl_cons, ih, Device.freeCropOf_crops]
    have htwice : CropSlot.freed ∘ CropSlot.freed = CropSlot.freed := rfl
    by_cases hw : w.crop = some j <;> by_cases hws : ∃ v ∈ ws, v.crop = some j <;> simp [hw, hws, htwice]

theorem Device.foldl_freeCropOf_cropQueue (ws : List Window) (d : Device) : (ws.foldl Device.freeCropOf d).cropQueue =
    d.cropQueue.filter fun j => decide (∀ w ∈ ws, w.crop ≠ some j) := by
  induction ws generalizing d with
  | nil => simp
  | cons w ws ih =>
    rw [List.foldl_cons, ih, Device.freeCropOf_cropQueue, List.filter_filter]
    refine List.filter_congr fun j _ => ?_
    simp [Bool.and_comm]

/-- What freeing crop slots leaves of the part. -/
theorem Device.foldl_freeCropOf_kept {α : Type} (g : Device → α) (h : ∀ d w, g (Device.freeCropOf d w) = g d) (ws : List Window)
    (d : Device) : g (ws.foldl Device.freeCropOf d) = g d := by
  induction ws generalizing d with
  | nil => rfl
  | cons w ws ih => rw [List.foldl_cons, ih, h]

/-! ## What a decision touches -/

/-- A decision and a retirement change nothing of a lane but its contexts. -/
theorem Device.retire_lane (d : Device) (l : LaneId) (n : Fin 4) (m : LaneId) :
    ∃ live, (d.retire l n).lane m = { d.lane m with live := live } := by
  unfold Device.retire
  split
  · rw [Device.retireNow_lane]
    split
    · next hm => exact ⟨_, by rw [hm]; rfl⟩
    · exact ⟨(d.lane m).live, rfl⟩
  · show ∃ live, (d.modCtx l n _).lane m = _
    rw [Device.modCtx, Device.lane_modLane_of]
    split
    · next hm => exact ⟨_, by rw [hm]; rfl⟩
    · exact ⟨(d.lane m).live, rfl⟩

theorem Device.tryDecide_lane (d : Device) (l : LaneId) (n : Fin 4) (m : LaneId) :
    ∃ live, (d.tryDecide l n).lane m = { d.lane m with live := live } := by
  have hmod : ∀ (f : Context → Context) (dec : Decision),
      ∃ live, ((d.modCtx l n f).noteDecision l dec).lane m = { d.lane m with live := live } := fun f dec => by
    rw [Device.noteDecision_lane, Device.modCtx, Device.lane_modLane_of]
    split
    · next hm => exact ⟨_, by rw [hm]; rfl⟩
    · exact ⟨(d.lane m).live, rfl⟩
  have hself : ∃ live, d.lane m = { d.lane m with live := live } := ⟨(d.lane m).live, rfl⟩
  cases hc : (d.lane l).ctx n with
  | none => simpa only [Device.tryDecide, hc] using hself
  | some c =>
    by_cases hall : c.accounted = d.jointCount c
    · cases hs : c.state with
      | settling => rw [Device.tryDecide_of_settling hc hall hs]; exact hmod _ _
      | passed =>
        rw [Device.tryDecide_of_passed hc hall hs]
        obtain ⟨live, h⟩ := hmod (fun x => { x with decision := some (d.decision c) }) (d.decision c)
        obtain ⟨live', h'⟩ := Device.retire_lane
          ((d.modCtx l n fun x => { x with decision := some (d.decision c) }).noteDecision l (d.decision c)) l n m
        exact ⟨live', by rw [h', h]⟩
      | waiting | scanning | decided | retiring =>
        rw [Device.tryDecide_of_other_state hc (by simp [hs])]
        exact hself
    · rw [Device.tryDecide_of_not_accounted hc hall]
      exact hself

/-- A decision lowers no condition. -/
theorem Device.tryDecide_raised (d : Device) (l : LaneId) (n : Fin 4) (i : SetId) :
    ∃ x, ((d.tryDecide l n).cond.get i).raised = (d.cond.get i).raised ||| x := by
  have hself : ∃ x, (d.cond.get i).raised = (d.cond.get i).raised ||| x := ⟨0, (word16_or_zero _).symm⟩
  cases hc : (d.lane l).ctx n with
  | none => simpa only [Device.tryDecide, hc] using hself
  | some c =>
    by_cases hs : c.accounted = d.jointCount c ∧ (c.state = .settling ∨ c.state = .passed)
    · rw [Device.tryDecide_cond hc hs.1 hs.2]
      unfold Device.noteDecision
      split
      · rw [Device.raiseLane, Device.raise_raised]
        split
        · exact ⟨_, rfl⟩
        · exact hself
      · exact hself
    · have hsame : d.tryDecide l n = d := by
        rcases not_and_or.mp hs with hall | hstate
        · exact Device.tryDecide_of_not_accounted hc hall
        · exact Device.tryDecide_of_other_state hc (not_or.mp hstate)
      rw [hsame]
      exact hself

/-! ## The Motion abort (R39, R77, R103, R138) -/

/-- The context of a panel stopped by a Motion abort: cause written, accounted for, out of Scanning. -/
def Context.motionAborted (removed joints : Nat) (c : Context) : Context :=
  ((c.writeAbort .motion).noteAborted removed joints).settle

/-- A lane once its Scanning panel is aborted, before the panel is decided: line issue and registration ended, the panel's
windows gone, its context accounted for and out of Scanning. -/
def Lane.motionAborted (L : Lane) (c : Context) (joints : Nat) : Lane :=
  Lane.enterReady (Lane.modCtx { L with
    motion := { L.motion with nextLine := none }, reg := none,
    openList := L.openList.filter fun w : Window => !decide (w.seq = c.seq) } c.num
      (Context.motionAborted (L.openList.filter fun w => decide (w.seq = c.seq)).length joints))

/-- The part when a Scanning panel is aborted with cause Motion, before the panel is decided. -/
def Device.motionAborted (d : Device) (l : LaneId) (c : Context) : Device :=
  withLane (d.dropWindows l c.seq) l ((d.lane l).motionAborted c (d.jointCount c))

theorem Device.foldl_freeCropOf_withLane (ws : List Window) (d : Device) (l : LaneId) (L : Lane) :
    ws.foldl Device.freeCropOf (withLane d l L) = withLane (ws.foldl Device.freeCropOf d) l L := by
  have hone : ∀ (d : Device) (w : Window), (withLane d l L).freeCropOf w = withLane (d.freeCropOf w) l L := fun d w => by
    unfold Device.freeCropOf
    split <;> rfl
  induction ws generalizing d with
  | nil => rfl
  | cons w ws ih => rw [List.foldl_cons, List.foldl_cons, hone, ih]

/-- Windows dropped from a lane that differs in other places than its open list. -/
theorem Device.dropWindows_withLane (d : Device) (l : LaneId) (q : Word16) {L : Lane} (h : L.openList = (d.lane l).openList) :
    (withLane d l L).dropWindows l q =
      withLane (d.dropWindows l q) l { L with openList := L.openList.filter fun w => !decide (w.seq = q) } := by
  unfold Device.dropWindows
  dsimp only
  rw [lane_withLane, Device.foldl_freeCropOf_withLane, h]
  unfold Device.modLane
  rw [lane_withLane]
  simp only [withLane, Device.setLane, PerLane.set_set]
  rw [h]

/-- A lane whose Scanning panel has its abort written, with line issue and registration ended. -/
def Lane.stopped (L : Lane) (n : Fin 4) : Lane :=
  { L.modCtx n fun x => x.writeAbort .motion with motion := { L.motion with nextLine := none }, reg := none }

/-- The three changes of the aborted panel's context, as one. -/
theorem Lane.motionAborted_eq (L : Lane) (c : Context) (joints : Nat) : L.motionAborted c joints =
    ((Lane.modCtx { L.stopped c.num with openList := L.openList.filter fun w => !decide (w.seq = c.seq) } c.num
      (Context.noteAborted (L.openList.filter fun w => decide (w.seq = c.seq)).length joints)).modCtx c.num
        Context.settle).enterReady := by
  have hcounted := Lane.modCtx_modCtx { L.stopped c.num with openList := L.openList.filter fun w => !decide (w.seq = c.seq) } c.num
    (Context.noteAborted (L.openList.filter fun w => decide (w.seq = c.seq)).length joints) Context.settle fun _ => rfl
  have hwritten := ({ L with
    motion := { L.motion with nextLine := none }, reg := none,
    openList := L.openList.filter fun w => !decide (w.seq = c.seq) } : Lane).modCtx_modCtx c.num (fun x => x.writeAbort .motion)
      (fun x => (x.noteAborted (L.openList.filter fun w => decide (w.seq = c.seq)).length joints).settle)
      fun x => x.writeAbort_num _
  rw [hcounted]
  exact congrArg Lane.enterReady hwritten.symm

theorem Device.abortMotion_eq (d : Device) (l : LaneId) (c : Context) :
    d.abortMotion l c = (d.motionAborted l c).tryDecide l c.num := by
  have hstop : ((d.modCtx l c.num fun x => x.writeAbort .motion).modLane l fun L =>
      { L with motion := { L.motion with nextLine := none }, reg := none }) = withLane d l ((d.lane l).stopped c.num) := by
    unfold Device.modCtx Device.modLane
    rw [Device.lane_setLane]
    exact withLane_withLane d l _ _
  unfold Device.abortMotion
  dsimp only
  rw [Device.leaveScanning_eq, Device.abortWindows_eq, hstop, Device.dropWindows_withLane d l c.seq (L := (d.lane l).stopped c.num) rfl,
    lane_withLane]
  refine congrArg (fun e : Device => e.tryDecide l c.num) ?_
  unfold Device.modCtx Device.modLane Device.motionAborted
  rw [lane_withLane, Device.lane_setLane, Lane.motionAborted_eq]
  exact (withLane_withLane _ l _ _).trans (withLane_withLane _ l _ _)

/-- The aborted panel's context (R103, R138). -/
theorem Context.motionAborted_eq (c : Context) (removed joints : Nat) : c.motionAborted removed joints =
    { c with
      abort := if c.abort = .none then .motion else c.abort, pointer := joints,
      causes := { c.causes with aborted := c.causes.aborted + removed + (joints - c.pointer) },
      state := if c.gateAction = .pending then .settling else .passed } := by
  rw [Context.motionAborted, Context.settle_eq]
  unfold Context.noteAborted Context.writeAbort
  by_cases h : c.abort = .none <;> simp [h]

theorem Lane.motionAborted_fields (L : Lane) (c : Context) (joints : Nat) :
    (L.motionAborted c joints).motion = { L.motion with nextLine := none } ∧ (L.motionAborted c joints).mode = .ready ∧
      (L.motionAborted c joints).reg = none ∧
      (L.motionAborted c joints).openList = L.openList.filter (fun w => !decide (w.seq = c.seq)) ∧
      (L.motionAborted c joints).gate = L.gate := by
  unfold Lane.motionAborted
  rw [Lane.enterReady_eq]
  exact ⟨rfl, rfl, rfl, rfl, rfl⟩

theorem Lane.motionAborted_ctx {L : Lane} {c : Context} (hc : L.ctx c.num = some c) (joints : Nat) :
    (L.motionAborted c joints).ctx c.num =
      some (c.motionAborted (L.openList.filter fun w => decide (w.seq = c.seq)).length joints) := by
  unfold Lane.motionAborted
  rw [Lane.enterReady_eq]
  refine (Lane.ctx_modCtx _ _ (Context.motionAborted _ joints) fun x => x.writeAbort_num _).trans ?_
  exact congrArg (Option.map _) hc

theorem Lane.ctx_of_scanning {L : Lane} {c : Context} (hnodup : (L.live.map fun c => c.num).Nodup) (hc : L.scanningCtx = some c) :
    L.ctx c.num = some c := by
  obtain ⟨hmem, -⟩ := Lane.scanningCtx_spec hc
  obtain ⟨x, hx⟩ := Option.isSome_iff_exists.mp (List.find?_isSome.mpr ⟨c, hmem, decide_eq_true rfl⟩ : (L.ctx c.num).isSome = true)
  have hxc : x = c := List.inj_on_of_nodup_map hnodup (List.mem_of_find?_eq_some hx) hmem (Lane.num_of_ctx hx)
  exact hx.trans (congrArg some hxc)

/-- The part's lists once windows are dropped. -/
theorem Device.dropWindows_kept (d : Device) (l : LaneId) (q : Word16) :
    (d.dropWindows l q).closeQueue = d.closeQueue ∧ (d.dropWindows l q).evaluation = d.evaluation ∧
      (d.dropWindows l q).slots = d.slots ∧ (d.dropWindows l q).cond = d.cond ∧
      (d.dropWindows l q).waiting = d.waiting.filter fun k => !(decide (k.lane = l) && decide (k.seq = q)) := by
  have hkept : ∀ {α : Type} (g : Device → α), (∀ d w, g (Device.freeCropOf d w) = g d) →
      g (((d.lane l).openList.filter fun w => decide (w.seq = q)).foldl Device.freeCropOf d) = g d := fun g h =>
    Device.foldl_freeCropOf_kept g h _ d
  refine ⟨hkept Device.closeQueue (by simp), hkept Device.evaluation (by simp), hkept Device.slots (by simp),
    hkept Device.cond (by simp), ?_⟩
  exact congrArg (List.filter _) (hkept Device.waiting (by simp))

theorem Device.dropWindows_crops (d : Device) (l : LaneId) (q : Word16) {w : Window} (hw : w ∈ (d.lane l).openList)
    (hq : w.seq = q) {i : Nat} (hi : w.crop = some i) :
    (d.dropWindows l q).crops[i]? = d.crops[i]?.map CropSlot.freed ∧ i ∉ (d.dropWindows l q).cropQueue := by
  have hmem : w ∈ (d.lane l).openList.filter fun w => decide (w.seq = q) := List.mem_filter.mpr ⟨hw, decide_eq_true hq⟩
  refine ⟨(Device.foldl_freeCropOf_crops _ d i).trans (if_pos ⟨w, hmem, hi⟩), ?_⟩
  show i ∉ (((d.lane l).openList.filter fun w => decide (w.seq = q)).foldl Device.freeCropOf d).cropQueue
  rw [Device.foldl_freeCropOf_cropQueue]
  intro h
  exact of_decide_eq_true (List.mem_filter.mp h).2 w hmem hi

/-- Settles O19, by `Device.abortMotion_eq` and what deciding leaves alone. -/
theorem motionFaultAbortsPanel : Obligations.MotionFaultAbortsPanel := by
  intro l s c hs hon L hnodup hd hlimit hc removed joints k accounted
  have hexec : exec (.encoderReverseCount l) s =
      becomes s ((((withLane s.dev l L.reversed).fault l .motionFault).motionAborted l c).tryDecide l c.num) := by
    refine (exec_running hs).trans (congrArg (becomes s) ((Device.reverseCount_of_counted hon hd).trans ?_))
    rw [show (s.dev.lane l).scanningCtx = some c from hc]
    dsimp only
    rw [if_pos (by rw [Word16.succ_toNat hd]; exact hlimit), Device.abortMotion_eq]
  generalize he : (withLane s.dev l L.reversed).fault l .motionFault = e at hexec
  have hlane : e.lane l = { L.reversed with gate := L.reversed.gateAfter .motionFault } := by
    rw [← he, Device.fault_lane_eq, if_pos rfl, lane_withLane]
  have hslots : e.slots = s.dev.slots := by rw [← he]; simp [withLane]
  obtain ⟨hclose, heval, hsame, hcond, hwaiting⟩ := e.dropWindows_kept l c.seq
  have hjoints : e.jointCount c = joints := by
    rw [Device.jointCount, Device.slot, hslots]
    rfl
  have haborted : (e.motionAborted l c).lane l = (e.lane l).motionAborted c joints := by
    rw [Device.motionAborted, lane_withLane, hjoints]
  obtain ⟨hmotion, hmode, hreg, hopen, hgate⟩ := (e.lane l).motionAborted_fields c joints
  have hctx : ((e.motionAborted l c).lane l).ctx c.num = some k := by
    rw [haborted, Lane.motionAborted_ctx (by rw [hlane]; exact Lane.ctx_of_scanning hnodup hc), Context.motionAborted_eq, hlane]
    rfl
  obtain ⟨live, hdecided⟩ := (e.motionAborted l c).tryDecide_lane l c.num l
  refine ⟨_, hexec, ?_⟩
  dsimp only
  simp only [Device.settleStall_lane, Device.settleStall_waiting, Device.settleStall_closeQueue, Device.settleStall_evaluation,
    Device.settleStall_crops, Device.settleStall_cropQueue, Device.settleStall_cond, Device.tryDecide_waiting,
    Device.tryDecide_closeQueue, Device.tryDecide_evaluation, Device.tryDecide_crops, Device.tryDecide_cropQueue]
  have hjointsK : (e.motionAborted l c).jointCount k = joints := by
    show ((e.dropWindows l c.seq).slot c.slot).hdr.jointCount.toNat = joints
    rw [Device.slot, hsame, hslots]
    rfl
  refine ⟨?_, ?_, ?_, ?_, ?_, ?_, ?_, fun w hw i x hi hx => ?_, ?_, ?_, ?_, fun hno => ?_, fun hyes hpending => ?_⟩
  · rw [hdecided, haborted, hlane]
    rw [hlane] at hmotion
    exact hmotion
  · rw [hdecided, haborted]
    exact hmode
  · rw [hdecided, haborted]
    exact hreg
  · rw [hdecided, haborted]
    refine hopen.trans ?_
    rw [hlane]
    exact List.filter_congr fun w _ => by simp
  · refine hwaiting.trans ?_
    rw [show e.waiting = s.dev.waiting by rw [← he]; simp [withLane]]
    exact List.filter_congr fun w _ => by simp
  · refine hclose.trans ?_
    rw [← he]
    simp [withLane]
  · refine heval.trans ?_
    rw [← he]
    simp [withLane]
  · obtain ⟨hmem, hseq⟩ := List.mem_filter.mp hw
    have hopened : w ∈ (e.lane l).openList := by rw [hlane]; exact hmem
    obtain ⟨hcrop, hqueue⟩ := e.dropWindows_crops l c.seq hopened (of_decide_eq_true hseq) hi
    refine ⟨hcrop.trans ?_, hqueue⟩
    rw [show e.crops = s.dev.crops by rw [← he]; simp [withLane], hx]
    rfl
  · rw [hdecided, haborted]
    refine (congrArg (fun g : Gate => g.counts.motionFault) hgate).trans ?_
    rw [hlane]
    exact congrArg PerFault.motionFault (Lane.gateAfter_counts _ _)
  · rw [hdecided, haborted, Device.fault_gate]
    refine hgate.trans ?_
    rw [hlane]
    rfl
  · obtain ⟨more, hraised⟩ := (e.motionAborted l c).tryDecide_raised l c.num (.lane l)
    rw [hraised, show (e.motionAborted l c).cond = e.cond from hcond, ← he, Device.fault_raised, if_pos rfl]
    show (_ ||| LaneCond.motionFault.bit ||| more) &&& _ ≠ 0
    rw [BitVec.raised_and_bit]
    decide
  · rw [Device.tryDecide_of_not_accounted hctx (by rw [hjointsK]; exact hno)]
    exact hctx
  · have hsettling : k.state = .settling := if_pos hpending
    rw [Device.tryDecide_of_settling hctx (by rw [hjointsK]; exact hyes) hsettling, Device.noteDecision_lane]
    exact ⟨_, Device.ctx_modCtx hctx _ fun _ => rfl⟩

end Sys2Proof.Machine


/-! # Completing an evaluation (R107, R108, R116 to R122) -/

namespace Sys2Proof.Machine

/-! ## The free engine takes a record (R107) -/

theorem Device.refillClose_of_none_waiting {d : Device} (h : d.waiting = []) : d.refillClose = d := by
  rw [Device.refillClose, h]
  show { d with waiting := [] } = d
  rw [← h]

theorem Device.takeEvaluation_of_free {d : Device} {w : Window} {rest : List Window} (hfree : d.evaluation = none)
    (hqueue : d.closeQueue = w :: rest) :
    d.takeEvaluation = ({ d with evaluation := some w, closeQueue := rest } : Device).refillClose := by
  simp only [Device.takeEvaluation, hfree, hqueue]

/-! ## What a verdict counts (R116, R117) -/

/-- The verdict counted whose report is lost (R120). -/
def Context.countDropped (v : Verdict) (injected : Bool) (c : Context) : Context :=
  { c.countVerdict v injected with verdictsLost := c.verdictsLost + 1 }

theorem Context.countDropped_num (v : Verdict) (injected : Bool) (c : Context) : (c.countDropped v injected).num = c.num :=
  c.countVerdict_num v injected

theorem Context.countVerdict_eq (c : Context) (v : Verdict) (injected : Bool) : c.countVerdict v injected = { c with
    injected := c.injected + (if injected = true then 1 else 0), pass := c.pass + (if v = .pass then 1 else 0),
    marginal := c.marginal + (if v = .marginal then 1 else 0), defect := c.defect + (if v = .defect then 1 else 0),
    causes := { c.causes with dataLoss := c.causes.dataLoss + (if v = .unjudged then 1 else 0) } } := by
  cases v <;> simp [Context.countVerdict]

/-- A context that its sequence number finds is found by its number where no other live one bears it. -/
theorem Lane.ctx_of_only {L : Lane} {q : Word16} {c : Context} (hc : L.ctxOfSeq q = some c)
    (hone : ∀ x ∈ L.live, x.num = c.num → x = c) : L.ctx c.num = some c := by
  cases hx : L.ctx c.num with
  | none => exact absurd (List.find?_eq_none.mp hx c (List.mem_of_find?_eq_some hc)) (by simp)
  | some x => rw [hone x (Lane.mem_of_ctx hx) (Lane.num_of_ctx hx)]

theorem reported_iff (m : ReportMode) (v : Verdict) :
    reported m v = true ↔ m = .all ∨ (m = .notPass ∧ v ≠ .pass) ∨ (m = .defectOnly ∧ v = .defect) := by
  cases m <;> cases v <;> simp [reported]

theorem keepsCrop_iff (v : Verdict) : keepsCrop v = decide (v = .marginal ∨ v = .defect) := by
  cases v <;> rfl

/-! ## The completion (R108) -/

/-- The verdict of the record under evaluation. -/
def Device.judgement (d : Device) (c : Context) (w : Window) : Judged := judge ((d.slot c.slot).rule w.rule) w

/-- The device with the engine free and its panel's context changed. -/
def Device.engineFreed (d : Device) (l : LaneId) (n : Fin 4) (f : Context → Context) : Device :=
  { d.modCtx l n f with evaluation := none }

/-- The verdict counted in its panel, the engine free. -/
def Device.verdictCounted (d : Device) (c : Context) (w : Window) : Device :=
  d.engineFreed w.lane c.num (Context.countVerdict (d.judgement c w).verdict w.injected)

/-- The verdict counted and its report lost (R120). -/
def Device.verdictDropped (d : Device) (c : Context) (w : Window) : Device :=
  ((d.engineFreed w.lane c.num
    (Context.countDropped (d.judgement c w).verdict w.injected)).raiseDevice .verdictLoss).fault w.lane .verdictLoss

/-- The verdict counted and its report queued (R119). -/
def Device.verdictQueued (d : Device) (c : Context) (w : Window) : Device :=
  (d.verdictCounted c w).modTrunk fun t => { t with
    verdicts := t.verdicts ++
      [d.buildReport c w (d.judgement c w) (keepsCrop (d.judgement c w).verdict && w.crop.isSome)] }

/-- The report queued and the window's crop slot Held or Free after it (R122). -/
def Device.verdictReported (d : Device) (c : Context) (w : Window) : Device :=
  match w.crop with
  | none => d.verdictQueued c w
  | some i => if keepsCrop (d.judgement c w).verdict then (d.verdictQueued c w).holdCrop i
      else (d.verdictQueued c w).freeCrop i

theorem Device.verdictCounted_reportMode (d : Device) (c : Context) (w : Window) :
    ((d.verdictCounted c w).lane w.lane).reportMode = (d.lane w.lane).reportMode := by
  show ((d.modCtx w.lane c.num _).lane w.lane).reportMode = _
  rw [Device.modCtx, Device.lane_modLane]
  rfl

theorem Device.completeEvaluation_of_ctx {d : Device} {w : Window} {c : Context} (hw : d.evaluation = some w)
    (hc : (d.lane w.lane).ctxOfSeq w.seq = some c) : d.completeEvaluation =
      (if reported (d.lane w.lane).reportMode (d.judgement c w).verdict then
        (d.verdictCounted c w).offerReport c w (d.judgement c w)
      else (d.verdictCounted c w).freeCropOf w).tryDecide w.lane c.num := by
  simp only [Device.completeEvaluation, hw]
  rw [show (({ d with evaluation := none } : Device).lane w.lane).ctxOfSeq w.seq = some c from hc,
    ← d.verdictCounted_reportMode c w]
  rfl

theorem Device.completeEvaluation_of_unreported {d : Device} {w : Window} {c : Context} (hw : d.evaluation = some w)
    (hc : (d.lane w.lane).ctxOfSeq w.seq = some c)
    (hmode : reported (d.lane w.lane).reportMode (d.judgement c w).verdict = false) :
    d.completeEvaluation = ((d.verdictCounted c w).freeCropOf w).tryDecide w.lane c.num := by
  rw [Device.completeEvaluation_of_ctx hw hc, if_neg (Bool.eq_false_iff.mp hmode)]

theorem Device.completeEvaluation_of_reported {d : Device} {w : Window} {c : Context} (hw : d.evaluation = some w)
    (hc : (d.lane w.lane).ctxOfSeq w.seq = some c)
    (hmode : reported (d.lane w.lane).reportMode (d.judgement c w).verdict = true) :
    d.completeEvaluation = ((d.verdictCounted c w).offerReport c w (d.judgement c w)).tryDecide w.lane c.num := by
  rw [Device.completeEvaluation_of_ctx hw hc, if_pos hmode]

/-! ## The report (R119, R120, R122) -/

theorem Device.verdictCounted_verdicts (d : Device) (c : Context) (w : Window) :
    (d.verdictCounted c w).trunk.verdicts = d.trunk.verdicts := by
  unfold Device.verdictCounted Device.engineFreed
  simp [Device.modCtx]

theorem Device.buildReport_counted (d : Device) (c : Context) (w : Window) (j : Judged) (crop : Bool) :
    (d.verdictCounted c w).buildReport c w j crop = d.buildReport c w j crop := by
  have hdetail : ((d.verdictCounted c w).lane w.lane).reportDetail = (d.lane w.lane).reportDetail := by
    unfold Device.verdictCounted Device.engineFreed
    show (((d.modCtx w.lane c.num _).lane w.lane)).reportDetail = _
    rw [Device.modCtx, Device.lane_modLane]
    rfl
  rw [Device.buildReport, Device.buildReport, hdetail]
  have hslot : (d.verdictCounted c w).slot c.slot = d.slot c.slot := by
    unfold Device.verdictCounted Device.engineFreed Device.slot
    simp [Device.modCtx]
  rw [hslot]

theorem Device.offerReport_of_room {d : Device} (c : Context) (w : Window) (h : d.trunk.verdicts.length < 1024) :
    (d.verdictCounted c w).offerReport c w (d.judgement c w) = d.verdictReported c w := by
  unfold Device.offerReport Device.verdictReported
  rw [if_pos (by rw [d.verdictCounted_verdicts]; exact h)]
  dsimp only
  rw [Device.buildReport_counted]
  cases hcrop : w.crop with
  | none => simp only [Device.verdictQueued, hcrop]
  | some i => simp only [Device.verdictQueued, hcrop, Option.isSome_some, Bool.and_true]

theorem Device.offerReport_of_full {d : Device} (c : Context) (w : Window) (h : 1024 ≤ d.trunk.verdicts.length) :
    (d.verdictCounted c w).offerReport c w (d.judgement c w) = (d.verdictDropped c w).freeCropOf w := by
  have hlost : (d.modCtx w.lane c.num (Context.countVerdict (d.judgement c w).verdict w.injected)).modCtx w.lane c.num
      (fun x => { x with verdictsLost := x.verdictsLost + 1 }) =
        d.modCtx w.lane c.num (Context.countDropped (d.judgement c w).verdict w.injected) := by
    rw [Device.modCtx_modCtx _ _ _ _ _ fun x => x.countVerdict_num _ _]
    congr 1
    funext x
    cases (d.judgement c w).verdict <;> rfl
  unfold Device.offerReport
  rw [if_neg (by rw [d.verdictCounted_verdicts]; exact Nat.not_lt.mpr h), Device.verdictDropped, Device.engineFreed, ← hlost]
  rfl

/-- The crop slots after a report is offered: Held for a Marginal or a Defect that found room, Free for the rest. -/
theorem Device.holdCrop_crops (d : Device) (i : Nat) :
    (d.holdCrop i).crops[i]? = d.crops[i]?.map fun x => { x with state := .held } := by
  show (d.crops.modify i _)[i]? = _
  rw [List.getElem?_modify]
  cases d.crops[i]? with
  | none => rfl
  | some x => exact congrArg some (if_pos rfl)

/-! ## The obligations -/

/-- Settles O40, by the one equation of a completion: the verdict counted, its report or its crop, then the decision. -/
theorem evaluationsRun : Obligations.EvaluationsRun := by
  unfold Obligations.EvaluationsRun
  refine ⟨fun c v injected => ?_, reported_iff, fun s w hres => ?_⟩
  · dsimp only
    rw [Context.countVerdict_eq]
    simp only [decide_eq_true_eq]
  · have htake : exec .evaluationTake s = becomes s s.dev.takeEvaluation := exec_running hres
    have hdone : exec .evaluationComplete s = becomes s s.dev.completeEvaluation := exec_running hres
    refine ⟨fun rest hfree hqueue hnone => ?_, fun rest hfree hqueue => ?_, fun c => ?_, fun c => ?_⟩
    · rw [htake, Device.takeEvaluation_of_free hfree hqueue, Device.refillClose_of_none_waiting (by exact hnone)]
    · rw [htake, Device.takeEvaluation_of_free hfree hqueue]
    · intro L v counted hw hc hmode
      have hfreed : s.dev.completeEvaluation = ((s.dev.verdictCounted c w).freeCropOf w).tryDecide w.lane c.num :=
        Device.completeEvaluation_of_unreported hw hc hmode
      refine ⟨fun hcrop => ?_, fun i hcrop => ?_⟩
      · rw [hdone, hfreed, Device.freeCropOf, hcrop]
        rfl
      · rw [hdone, hfreed, Device.freeCropOf, hcrop]
        rfl
    · intro L v hw hc hone hscan hmode hcrop
      have hctx : (s.dev.lane w.lane).ctx c.num = some c := Lane.ctx_of_only hc hone
      have hcounted : ((s.dev.verdictCounted c w).lane w.lane).ctx c.num = some (c.countVerdict v w.injected) :=
        Device.ctx_modCtx hctx _ fun x => x.countVerdict_num _ _
      rw [hdone, Device.completeEvaluation_of_unreported hw hc hmode, Device.freeCropOf, hcrop]
      dsimp only
      rw [Device.tryDecide_of_other_state hcounted (by rw [Context.countVerdict_state, hscan]; decide)]
      rfl

end Sys2Proof.Machine


/-! # The verdict report (R118 to R122, R188) -/

namespace Sys2Proof.Machine

/-! ## The payload (Table 11-4) -/

theorem primaryCode_eq (j : Judged) : BitVec.ofNat 8 (primaryCode j) =
    if j.verdict = .unjudged then 5
    else match j.primary with
      | none => 0
      | some k => BitVec.ofNat 8 (causeCode k.1) := by
  cases hv : j.verdict <;> cases hp : j.primary <;> simp [primaryCode, hv, hp]

theorem phaseField_primary (p : Option (Cause × Phase)) : phaseField (p.map (·.2)) =
    [match p with
      | none => 0
      | some k => k.2.code] := by
  cases p <;> rfl

theorem featureBytes_eq (f : Features) : featureBytes f =
    [f.phase.code, BitVec.ofNat 8 f.fill, BitVec.ofNat 8 f.mean, BitVec.ofNat 8 f.span] := by
  rw [featureBytes, ← code1, ← code1, ← code1, code1_eq, code1_eq, code1_eq]
  rfl

theorem mul_boolCode (b : Bool) (n : Nat) : n * boolCode b = if b = true then n else 0 := by
  cases b <;> simp [boolCode]

theorem verdictReportPayload_eq (x : VerdictReport) : verdictReportPayload x =
    [laneByte x.lane] ++ be 2 x.seq.toNat ++ be 4 x.recipeId.toNat ++ be 2 x.joint ++ be 2 x.component.toNat ++
    [BitVec.ofNat 8 x.rule, portByte ⟨x.lane, x.port⟩] ++ be 2 x.firstCol ++ be 2 x.firstLine ++
    [BitVec.ofNat 8 (verdictCode x.judged.verdict), BitVec.ofNat 8 (primaryCode x.judged),
      match x.judged.primary with
      | none => 0
      | some k => k.2.code,
      BitVec.ofNat 8 (causeSetCode x.judged.causes),
      BitVec.ofNat 8 ((if x.injected = true then 1 else 0) + (if x.loss = true then 2 else 0) +
        (if x.crop = true then 4 else 0) + (if decide (x.detail = .full) = true then 8 else 0))] ++
    match x.detail with
    | .brief => []
    | .full => BitVec.ofNat 8 x.judged.features.length :: x.judged.features.flatMap featureBytes := by
  unfold verdictReportPayload
  have hone : boolCode x.injected = if x.injected = true then 1 else 0 := rfl
  simp only [mul_boolCode, hone, code1_eq, phaseField_primary, laneByte_eq, portByte_eq, List.append_assoc, List.cons_append, List.nil_append]
  cases x.detail <;> rfl

/-! ## The state after a report is offered -/

theorem keepsCrop_and (v : Verdict) (o : Option Nat) :
    (keepsCrop v && o.isSome) = decide (decide (v = .marginal ∨ v = .defect) = true ∧ o ≠ none) := by
  rw [keepsCrop_iff]
  cases o <;> simp

theorem Device.completeEvaluation_of_room {d : Device} {w : Window} {c : Context} (hw : d.evaluation = some w)
    (hc : (d.lane w.lane).ctxOfSeq w.seq = some c)
    (hmode : reported (d.lane w.lane).reportMode (d.judgement c w).verdict = true) (h : d.trunk.verdicts.length < 1024) :
    d.completeEvaluation = (d.verdictReported c w).tryDecide w.lane c.num := by
  rw [Device.completeEvaluation_of_reported hw hc hmode, Device.offerReport_of_room c w h]

theorem Device.completeEvaluation_of_full {d : Device} {w : Window} {c : Context} (hw : d.evaluation = some w)
    (hc : (d.lane w.lane).ctxOfSeq w.seq = some c)
    (hmode : reported (d.lane w.lane).reportMode (d.judgement c w).verdict = true) (h : 1024 ≤ d.trunk.verdicts.length) :
    d.completeEvaluation = ((d.verdictDropped c w).freeCropOf w).tryDecide w.lane c.num := by
  rw [Device.completeEvaluation_of_reported hw hc hmode, Device.offerReport_of_full c w h]

theorem Device.verdictQueued_verdicts (d : Device) (c : Context) (w : Window) : (d.verdictQueued c w).trunk.verdicts =
    d.trunk.verdicts ++ [d.buildReport c w (d.judgement c w) (keepsCrop (d.judgement c w).verdict && w.crop.isSome)] :=
  congrArg (· ++ _) (d.verdictCounted_verdicts c w)

theorem Device.verdictQueued_crops (d : Device) (c : Context) (w : Window) : (d.verdictQueued c w).crops = d.crops := by
  simp [Device.verdictQueued, Device.verdictCounted, Device.engineFreed, Device.modCtx]

theorem Device.verdictQueued_cropQueue (d : Device) (c : Context) (w : Window) :
    (d.verdictQueued c w).cropQueue = d.cropQueue := by
  simp [Device.verdictQueued, Device.verdictCounted, Device.engineFreed, Device.modCtx]

theorem Device.verdictQueued_evaluation (d : Device) (c : Context) (w : Window) : (d.verdictQueued c w).evaluation = none := by
  simp [Device.verdictQueued, Device.verdictCounted, Device.engineFreed]

theorem Device.verdictDropped_kept (d : Device) (c : Context) (w : Window) :
    (d.verdictDropped c w).evaluation = none ∧ (d.verdictDropped c w).crops = d.crops ∧
      (d.verdictDropped c w).trunk.verdicts = d.trunk.verdicts := by
  simp [Device.verdictDropped, Device.engineFreed, Device.modCtx]

/-- A lost report's lane: the panel's two counts and the fault's. -/
theorem Device.verdictDropped_lane (d : Device) (c : Context) (w : Window) : (d.verdictDropped c w).lane w.lane =
    { (d.lane w.lane).modCtx c.num (Context.countDropped (d.judgement c w).verdict w.injected) with
      gate := (d.lane w.lane).gateAfter .verdictLoss } := by
  rw [Device.verdictDropped, Device.fault_lane_eq, if_pos rfl, Device.raiseDevice_lane]
  show ({ (d.modCtx w.lane c.num _).lane w.lane with
    gate := ((d.modCtx w.lane c.num _).lane w.lane).gateAfter .verdictLoss } : Lane) = _
  rw [Device.modCtx, Device.lane_modLane]
  rfl

theorem Device.verdictDropped_raised (d : Device) (c : Context) (w : Window) :
    ((d.verdictDropped c w).cond.get .device).raised = (d.cond.get .device).raised ||| DeviceCond.verdictLoss.bit := by
  rw [Device.verdictDropped, Device.fault_raised, if_neg nofun, Device.raiseDevice, Device.raise_raised, if_pos rfl]
  simp [Device.engineFreed, Device.modCtx]

/-- The slot of a freed window: Free, its pixels standing. -/
theorem Device.freeCropOf_crops_of {d : Device} {w : Window} {i : Nat} {x : CropSlot} (hi : w.crop = some i)
    (hx : d.crops[i]? = some x) : (d.freeCropOf w).crops[i]? = some { x with state := .free, owner := none } := by
  rw [Device.freeCropOf_crops, if_pos hi, hx]
  rfl

theorem Device.freeCropOf_kept (d : Device) (w : Window) : (d.freeCropOf w).evaluation = d.evaluation ∧
    (d.freeCropOf w).trunk = d.trunk ∧ (d.freeCropOf w).cond = d.cond ∧ (d.freeCropOf w).lanes = d.lanes := by
  unfold Device.freeCropOf
  split <;> exact ⟨rfl, rfl, rfl, rfl⟩

theorem Device.verdictReported_kept (d : Device) (c : Context) (w : Window) :
    (d.verdictReported c w).evaluation = none ∧
      (d.verdictReported c w).trunk.verdicts = (d.verdictQueued c w).trunk.verdicts := by
  unfold Device.verdictReported
  have hfree := d.verdictQueued_evaluation c w
  split
  · exact ⟨hfree, rfl⟩
  · split
    · exact ⟨hfree, rfl⟩
    · exact ⟨hfree, rfl⟩

theorem Device.verdictReported_crops {d : Device} {c : Context} {w : Window} {i : Nat} {x : CropSlot} (hi : w.crop = some i)
    (hx : d.crops[i]? = some x) :
    (keepsCrop (d.judgement c w).verdict = true → (d.verdictReported c w).crops[i]? = some { x with state := .held } ∧
      (d.verdictReported c w).cropQueue = d.cropQueue ++ [i]) ∧
    (keepsCrop (d.judgement c w).verdict ≠ true →
      (d.verdictReported c w).crops[i]? = some { x with state := .free, owner := none }) := by
  unfold Device.verdictReported
  refine ⟨fun h => ?_, fun h => ?_⟩
  · simp only [hi, if_pos h]
    rw [Device.holdCrop_crops, Device.verdictQueued_crops, hx]
    exact ⟨rfl, congrArg (· ++ [i]) (d.verdictQueued_cropQueue c w)⟩
  · simp only [hi, if_neg h]
    rw [Device.freeCrop_crops, if_pos rfl, Device.verdictQueued_crops, hx]
    rfl

/-! ## The obligation -/

/-- Settles O41, by the completion with room for a report and without it. -/
theorem verdictReported : Obligations.VerdictReported := by
  unfold Obligations.VerdictReported
  intro s w c hres L j kept r counted queued dropped freed held byte bit
  have hdone : exec .evaluationComplete s = becomes s s.dev.completeEvaluation := exec_running hres
  have hkept : keepsCrop j.verdict = kept := keepsCrop_iff _
  have hcounted : ∀ x : Context, { x.countVerdict j.verdict w.injected with verdictsLost := x.verdictsLost + 0 } =
      x.countVerdict j.verdict w.injected := fun x => by cases j.verdict <;> rfl
  have hqueued : queued = s.dev.verdictQueued c w := by
    have hreport : s.dev.buildReport c w j (keepsCrop j.verdict && w.crop.isSome) = r := by
      rw [keepsCrop_and]
      rfl
    show ({ counted 0 with trunk := { s.dev.trunk with verdicts := s.dev.trunk.verdicts ++ [r] } } : Device) = _
    rw [← hreport]
    simp only [counted, hcounted]
    rfl
  have hdropped : dropped = s.dev.verdictDropped c w := rfl
  refine ⟨fun x => ?_, fun hw hc hmode => ⟨fun hroom => ?_, fun hfull => ?_, ?_⟩⟩
  · rw [verdictReportPayload_eq, primaryCode_eq, funext featureBytes_eq]
    rfl
  · have heq := Device.completeEvaluation_of_room hw hc hmode hroom
    rw [hdone, heq, hqueued]
    refine ⟨fun hcrop => ?_, fun i hcrop => ?_⟩
    · rw [Device.verdictReported, hcrop]
    · rw [Device.verdictReported, hcrop, ← hkept]
      rfl
  · have heq := Device.completeEvaluation_of_full hw hc hmode hfull
    rw [hdone, heq, hdropped]
    refine ⟨fun hcrop => ?_, fun i hcrop => ?_⟩
    · rw [Device.freeCropOf, hcrop]
    · rw [Device.freeCropOf, hcrop]
      rfl
  · refine ⟨_, hdone, ?_⟩
    simp only [Device.settleStall_evaluation, Device.settleStall_crops, Device.settleStall_cropQueue,
      Device.settleStall_trunk_verdicts, Device.settleStall_lane, Device.settleStall_cond]
    refine ⟨?_, fun hroom => ?_, fun hfull => ?_⟩
    · rcases Nat.lt_or_ge s.dev.trunk.verdicts.length 1024 with hroom | hfull
      · rw [Device.completeEvaluation_of_room hw hc hmode hroom, Device.tryDecide_evaluation]
        exact (s.dev.verdictReported_kept c w).1
      · rw [Device.completeEvaluation_of_full hw hc hmode hfull, Device.tryDecide_evaluation,
          (Device.freeCropOf_kept _ w).1]
        exact (s.dev.verdictDropped_kept c w).1
    · rw [Device.completeEvaluation_of_room hw hc hmode hroom, Device.tryDecide_trunk_verdicts, Device.tryDecide_crops,
        Device.tryDecide_cropQueue, (s.dev.verdictReported_kept c w).2, Device.verdictQueued_verdicts]
      refine ⟨⟨_, rfl, rfl, rfl, rfl, rfl, rfl, rfl, rfl, rfl, rfl, rfl, rfl, rfl, rfl, ?_⟩, fun i x hi hx => ?_⟩
      · show (keepsCrop j.verdict && w.crop.isSome) = true ↔ _
        rw [keepsCrop_and, decide_eq_true_eq]
      · rw [← hkept]
        exact Device.verdictReported_crops hi hx
    · obtain ⟨-, hcrops, hverdicts⟩ := s.dev.verdictDropped_kept c w
      obtain ⟨-, htrunk, hcond, hlanes⟩ := (s.dev.verdictDropped c w).freeCropOf_kept w
      have hlane : ((s.dev.verdictDropped c w).freeCropOf w).lane w.lane = (s.dev.verdictDropped c w).lane w.lane := by
        rw [Device.lane, hlanes]
        rfl
      have hgate : ((((s.dev.verdictDropped c w).freeCropOf w).tryDecide w.lane c.num).lane w.lane).gate =
          L.gateAfter .verdictLoss := by
        obtain ⟨live, h⟩ := ((s.dev.verdictDropped c w).freeCropOf w).tryDecide_lane w.lane c.num w.lane
        rw [h, hlane, Device.verdictDropped_lane]
      rw [Device.completeEvaluation_of_full hw hc hmode hfull, Device.tryDecide_trunk_verdicts, Device.tryDecide_crops, htrunk]
      refine ⟨hverdicts, fun hscan hctx => ?_, ?_, ?_, fun i x hi hx => ?_⟩
      · have hcounted : (((s.dev.verdictDropped c w).freeCropOf w).lane w.lane).ctx c.num =
            some { c.countVerdict j.verdict w.injected with verdictsLost := c.verdictsLost + 1 } := by
          rw [hlane, Device.verdictDropped_lane]
          exact (Lane.ctx_modCtx _ _ _ (Context.countDropped_num _ _)).trans (congrArg (Option.map _) hctx)
        rw [Device.tryDecide_of_other_state hcounted (by simp [hscan])]
        exact hcounted
      · obtain ⟨more, hraised⟩ := ((s.dev.verdictDropped c w).freeCropOf w).tryDecide_raised w.lane c.num .device
        rw [hraised, hcond, Device.verdictDropped_raised, BitVec.raised_and_bit]
        decide
      · rw [hgate, Lane.gateAfter_counts]
        rfl
      · exact Device.freeCropOf_crops_of hi (by rw [hcrops]; exact hx)

end Sys2Proof.Machine


/-! # The panel an accepted edge brings (R26, R30, R33, R130, R133, R134, R149) -/

namespace Sys2Proof.Machine

/-! ## The edge's part of the lane -/

/-- The lane of an accepted edge that neither arms it nor takes a recipe: the edge captured, the number taken. -/
def Lane.edgeTaken (L : Lane) : Lane :=
  { L with motion := { L.motion with lastEdge := some L.motion.h }, nextSeq := L.nextSeq + 1 }

theorem Lane.edge_of_armed {L : Lane} (h : L.mode ≠ .standby) (hnone : L.pendingRecipe = none) : L.edge = L.edgeTaken := by
  unfold Lane.edge
  dsimp only
  rw [if_neg h]
  simp only [Lane.takeRecipe, hnone]
  simp only [Lane.edgeTaken, hnone]

/-- On a Standby lane the edge is the one of the lane it arms (R45, R128). -/
theorem Lane.edge_of_standby {L : Lane} (h : L.mode = .standby) : L.edge = L.enterWarming.edge := by
  have hwait : ∀ (m : Motion) (x : LaneMode) (y : Illumination) (t : Option Nat),
      Lane.oldestWaiting { L with motion := m, mode := x, light := y, warmupLeft := t } = L.oldestWaiting := fun _ _ _ _ => rfl
  unfold Lane.edge
  dsimp only
  rw [if_pos h]
  by_cases hwarm : L.settings.warmupTime = 0
  · simp only [Lane.enterWarming, if_pos hwarm, Lane.warmupExpires, Lane.enterReady_eq]
    rfl
  · simp only [Lane.enterWarming, if_neg hwarm]
    rfl

/-- With a pending recipe the edge is the one of the lane that has taken it (R26). -/
theorem Lane.edge_of_pending {L : Lane} {i : Fin 4} (h : L.pendingRecipe = some i) :
    L.edge = Lane.edge { L with active := some i, pendingRecipe := none } := by
  unfold Lane.edge
  dsimp only
  by_cases hstand : L.mode = .standby
  · rw [if_pos hstand, if_pos hstand]
    by_cases hwarm : L.settings.warmupTime = 0
    · simp only [Lane.enterWarming, if_pos hwarm, Lane.warmupExpires, Lane.enterReady_eq, Lane.takeRecipe, h]
      rfl
    · simp only [Lane.enterWarming, if_neg hwarm, Lane.takeRecipe, h]
  · rw [if_neg hstand, if_neg hstand]
    simp only [Lane.takeRecipe, h]

/-- An accepted edge reads of its lane only what the edge itself writes, the count and the number. -/
theorem exec_edgeRise_congr {l : LaneId} {s : State} {M : Lane} (hs : s.dev.resetLow = false) (hon : (s.dev.lane l).mode ≠ .off)
    (hM : M.mode ≠ .off) (haccept : (s.dev.lane l).acceptsEdge = true) (hmotion : M.motion = (s.dev.lane l).motion)
    (hsettings : M.settings = (s.dev.lane l).settings) (hseq : M.nextSeq = (s.dev.lane l).nextSeq)
    (hedge : (s.dev.lane l).edge = M.edge) :
    exec (.edgeRise l) s = exec (.edgeRise l) { s with dev := withLane s.dev l M } := by
  have hM' : (withLane s.dev l M).lane l = M := lane_withLane _ _ _
  have haccept' : ((withLane s.dev l M).lane l).acceptsEdge = true := by
    rw [hM']
    unfold Lane.acceptsEdge at haccept ⊢
    rwa [hmotion, hsettings]
  have hleft : exec (.edgeRise l) s = becomes s (s.dev.acceptedEdge l) :=
    (exec_running hs).trans (congrArg (becomes s) (Device.edgeRises_of_accepted hon haccept))
  have hright : exec (.edgeRise l) { s with dev := withLane s.dev l M } = becomes s ((withLane s.dev l M).acceptedEdge l) :=
    (exec_running (s := { s with dev := withLane s.dev l M }) hs).trans
      (congrArg (becomes { s with dev := withLane s.dev l M }) (Device.edgeRises_of_accepted (by rw [hM']; exact hM) haccept'))
  rw [hleft, hright, Device.acceptedEdge_eq, Device.acceptedEdge_eq, hM', ← hedge, hmotion, hseq]
  dsimp only
  rw [show (withLane s.dev l M).setLane l (s.dev.lane l).edge = s.dev.setLane l (s.dev.lane l).edge from withLane_withLane _ _ _ _]

/-! ## The gate entry (R134, R149) -/

theorem Lane.gateAfter_queue (L : Lane) (k : FaultKind) : (L.gateAfter k).queue = L.gate.queue := by
  unfold Lane.gateAfter
  split <;> rfl

/-- A lane with an entry more in its gate queue. -/
def Lane.entered (L : Lane) (e : GateEntry) : Lane := { L with gate := { L.gate with queue := L.gate.queue ++ [e] } }

theorem Device.passGateEntry_of_room {d : Device} {l : LaneId} (h : (d.lane l).gate.queue.length < 4) (e : GateEntry) :
    d.passGateEntry l e = withLane d l ((d.lane l).entered e) := if_pos h

theorem Device.passGateEntry_of_full {d : Device} {l : LaneId} (h : 4 ≤ (d.lane l).gate.queue.length) (p : Word32) (q : Word16) :
    d.passGateEntry l { pos := p, seq := q, kind := .fixedReview } = d.fault l .panelOverrun ∧
    ∀ n : Fin 4, d.passGateEntry l { pos := p, seq := q, kind := .linked n } =
      (d.fault l .panelOverrun).modCtx l n fun c => { c with gateAction := .noEntry } :=
  ⟨if_neg (Nat.not_lt.mpr h), fun _ => if_neg (Nat.not_lt.mpr h)⟩

/-- A fault and a change of the lane's contexts, in either order. -/
theorem Device.fault_modCtx (d : Device) (l : LaneId) (k : FaultKind) (n : Fin 4) (f : Context → Context) :
    (d.fault l k).modCtx l n f = (d.modCtx l n f).fault l k := by
  have hlane : (d.modCtx l n f).lane l = (d.lane l).modCtx n f := Device.lane_modLane d l _
  have hgate : ((d.lane l).modCtx n f).gateAfter k = (d.lane l).gateAfter k := rfl
  have hmoves : ((d.lane l).modCtx n f).forceMoves k = (d.lane l).forceMoves k := rfl
  rw [Device.fault_eq (d.modCtx l n f), hlane, hgate, hmoves, Device.modCtx, Device.modLane, Device.fault_lane_eq, if_pos rfl,
    Device.fault_eq]
  generalize hL : d.lane l = L
  have hset : ∀ A B : Lane, (d.setLane l A).setLane l B = d.setLane l B := fun A B => withLane_withLane d l A B
  show (((d.setLane l _).setLane l _).raise _ _).raise _ _ = _
  rw [hset, Device.modCtx, Device.modLane, hset]
  rfl

/-! ## A panel without a context -/

/-- The idle timer of a lane restarts where R130 says so. -/
theorem Lane.loadIdle_fields (L : Lane) : L.loadIdle = { L with
    idleLeft := if L.settings.idleTimeout ≠ 0 ∧ L.mode = .ready ∧ L.oldestWaiting = none
      then some (L.settings.idleTimeout.toNat * 1000000) else L.idleLeft } := by
  unfold Lane.loadIdle
  split <;> rfl

/-- Two lanes that R130 restarts the idle timer of alike. -/
def Lane.Idles (L M : Lane) : Prop := L.settings = M.settings ∧ L.mode = M.mode ∧ L.live = M.live

theorem Lane.loadIdle_of_idles {L M : Lane} (h : L.Idles M) : L.loadIdle = { L with
    idleLeft := if M.settings.idleTimeout ≠ 0 ∧ M.mode = .ready ∧ M.oldestWaiting = none
      then some (M.settings.idleTimeout.toNat * 1000000) else L.idleLeft } := by
  obtain ⟨hsettings, hmode, hlive⟩ := h
  have hwait : M.oldestWaiting = L.oldestWaiting := by rw [Lane.oldestWaiting, Lane.oldestWaiting, hlive]
  rw [Lane.loadIdle_fields, ← hsettings, ← hmode, hwait]

theorem Device.untracked_of_room {d : Device} {l : LaneId} (h : (d.lane l).gate.queue.length < 4) (q : Word16) (p : Word32) :
    d.untracked l q p = withLane d l ((d.lane l).entered { pos := p, seq := q, kind := .fixedReview }).loadIdle := by
  rw [Device.untracked, Device.passGateEntry_of_room h, Device.modLane, lane_withLane]
  exact withLane_withLane _ _ _ _

theorem Device.untracked_of_full {d : Device} {l : LaneId} (h : 4 ≤ (d.lane l).gate.queue.length) (q : Word16) (p : Word32) :
    d.untracked l q p = withLane (d.fault l .panelOverrun) l ((d.fault l .panelOverrun).lane l).loadIdle := by
  rw [Device.untracked, (Device.passGateEntry_of_full h p q).1]
  rfl

/-! ## A panel with a context -/

/-- Whether a position some counts on is reached: only with no counts between. -/
theorem atOrBeyond_add (h : Word32) (x : Word16) : atOrBeyond h (h + x.setWidth 32) = decide (x = 0) := by
  have hx : x.toNat < 65536 := x.isLt
  have hdiff : h - (h + x.setWidth 32) = -x.setWidth 32 := by bv_omega
  rw [atOrBeyond, hdiff]
  by_cases hzero : x = 0
  · subst hzero
    decide
  · have hpos : x.toNat ≠ 0 := fun h0 => hzero (BitVec.eq_of_toNat_eq h0)
    have hneg : (-x.setWidth 32 : Word32).toNat = 2 ^ 32 - x.toNat := by
      rw [BitVec.toNat_neg, BitVec.toNat_setWidth, Nat.mod_eq_of_lt (by omega), Nat.mod_eq_of_lt (by omega)]
    rw [hneg]
    simp only [hzero, decide_false, decide_eq_false_iff_not]
    omega

/-- The scan starts as the one Waiting panel of a lane joins it. -/
theorem Device.scanStarts_of_joined {d : Device} {l : LaneId} {old : List Context} {c : Context} {x : Word16}
    (hlive : (d.lane l).live = old ++ [c]) (hold : old.find? (fun c => decide (c.state = .waiting)) = none)
    (hwait : c.state = .waiting) (hstart : c.scanStart = (d.lane l).motion.h + x.setWidth 32) :
    Device.scanStarts l (d.lane l).live.length d = if x = 0 then d.scanStart l c else d := by
  have hnone : ∀ y ∈ old, y.state ≠ .waiting := fun y hy => by simpa using List.find?_eq_none.mp hold y hy
  have holdest : (d.lane l).oldestWaiting = some c := by
    rw [Lane.oldestWaiting, hlive, List.find?_append, hold, List.find?_singleton, hwait]
    rfl
  have hdue : atOrBeyond (d.lane l).motion.h c.scanStart = decide (x = 0) := by rw [hstart, atOrBeyond_add]
  split
  · next hx =>
    obtain ⟨hhead, hone⟩ := Lane.waits_of_one holdest fun y hy hy' => by
      rw [hlive, List.mem_append, List.mem_singleton] at hy
      exact hy.resolve_left fun hmem => hnone y hmem hy'
    exact Device.scanStarts_of_one hhead hone (by rw [hdue, hx]; rfl)
  · next hx =>
    refine Device.scanStarts_of_not_due ?_ _
    unfold Lane.scanDue
    simp only [holdest, hdue, hx, decide_false]

/-- Behind an older panel that has not come, the one that joins waits. -/
theorem Device.scanStarts_of_behind {d : Device} {l : LaneId} {old : List Context} {c w : Context}
    (hlive : (d.lane l).live = old ++ [c]) (hold : old.find? (fun c => decide (c.state = .waiting)) = some w)
    (hdue : atOrBeyond (d.lane l).motion.h w.scanStart = false) : Device.scanStarts l (d.lane l).live.length d = d := by
  have holdest : (d.lane l).oldestWaiting = some w := by
    rw [Lane.oldestWaiting, hlive, List.find?_append, hold]
    rfl
  refine Device.scanStarts_of_not_due ?_ _
  unfold Lane.scanDue
  simp [holdest, hdue]

/-- The lane of an accepted edge whose panel has a context. -/
def Lane.joined (L : Lane) (c : Context) (q : List GateEntry) : Lane :=
  { L.edgeTaken with idleLeft := none, live := L.live ++ [c], gate := { L.gate with queue := q } }

/-- A change of the joined panel's context changes no other. -/
theorem Lane.modCtx_joined {L : Lane} {c : Context} (hfree : L.ctx c.num = none) (q : List GateEntry) (f : Context → Context) :
    (L.joined c q).modCtx c.num f = L.joined (f c) q := by
  have hold : L.live.map (fun x => if x.num = c.num then f x else x) = L.live := by
    refine (List.map_congr_left fun x hx => ?_).trans (List.map_id _)
    exact if_neg (by simpa using List.find?_eq_none.mp hfree x hx)
  unfold Lane.modCtx Lane.joined
  rw [List.map_append, hold]
  simp

theorem Device.tracked_of_room {d : Device} {l : LaneId} {slot n : Fin 4} (hroom : (d.lane l).gate.queue.length < 4)
    (q : Word16) (e p g : Word32) : (withLane d l (d.lane l).edgeTaken).tracked l n slot q e p g =
      Device.scanStarts l
        ((d.lane l).live ++ [Context.fresh n q slot (d.slot slot).hdr.recipeId e p]).length
        (withLane d l ((d.lane l).joined (Context.fresh n q slot (d.slot slot).hdr.recipeId e p)
          ((d.lane l).gate.queue ++ [{ pos := g, seq := q, kind := .linked n }]))) := by
  unfold Device.tracked
  dsimp only
  have hslot : (withLane d l (d.lane l).edgeTaken).slot slot = d.slot slot := by simp [Device.slot, withLane]
  rw [hslot, Device.modLane, lane_withLane]
  generalize hc : Context.fresh n q slot (d.slot slot).hdr.recipeId e p = c
  rw [show ∀ A B : Lane, (withLane d l A).setLane l B = withLane d l B from withLane_withLane d l,
    Device.passGateEntry_of_room (by rw [lane_withLane]; exact hroom), lane_withLane, withLane_withLane, lane_withLane]
  rfl

theorem Device.tracked_of_full {d : Device} {l : LaneId} {slot n : Fin 4} (hfull : 4 ≤ (d.lane l).gate.queue.length)
    (hfree : (d.lane l).ctx n = none) (q : Word16) (e p g : Word32) :
    (withLane d l (d.lane l).edgeTaken).tracked l n slot q e p g =
      Device.scanStarts l
        ((d.lane l).live ++ [Context.fresh n q slot (d.slot slot).hdr.recipeId e p]).length
        ((withLane d l ((d.lane l).joined
          { Context.fresh n q slot (d.slot slot).hdr.recipeId e p with gateAction := .noEntry }
          (d.lane l).gate.queue)).fault l .panelOverrun) := by
  unfold Device.tracked
  dsimp only
  have hslot : (withLane d l (d.lane l).edgeTaken).slot slot = d.slot slot := by simp [Device.slot, withLane]
  rw [hslot, Device.modLane, lane_withLane]
  generalize hc : Context.fresh n q slot (d.slot slot).hdr.recipeId e p = c
  have hnum : c.num = n := by rw [← hc]; rfl
  subst hnum
  rw [show ∀ A B : Lane, (withLane d l A).setLane l B = withLane d l B from withLane_withLane d l,
    (Device.passGateEntry_of_full (by rw [lane_withLane]; exact hfull) g q).2 c.num, Device.fault_modCtx, Device.modCtx,
    Device.modLane, lane_withLane]
  rw [show ∀ A B : Lane, (withLane d l A).setLane l B = withLane d l B from withLane_withLane d l]
  have hjoined := Lane.modCtx_joined hfree (d.lane l).gate.queue fun x => { x with gateAction := .noEntry }
  show Device.scanStarts l (((withLane d l (Lane.modCtx ((d.lane l).joined c (d.lane l).gate.queue) c.num
    fun x => { x with gateAction := .noEntry })).fault l .panelOverrun).lane l).live.length ((withLane d l
      (Lane.modCtx ((d.lane l).joined c (d.lane l).gate.queue) c.num
        fun x => { x with gateAction := .noEntry })).fault l .panelOverrun) = _
  rw [hjoined, Device.fault_lane_eq, if_pos rfl, lane_withLane]
  congr 1
  simp [Lane.joined]

/-! ## The forms of an accepted edge -/

section
variable {d : Device} {l : LaneId} (hstand : (d.lane l).mode ≠ .standby) (hpending : (d.lane l).pendingRecipe = none)
include hstand hpending

theorem Device.acceptedEdge_of_panel {slot n : Fin 4} (hactive : (d.lane l).active = some slot)
    (hfree : (d.lane l).freeCtx = some n) : d.acceptedEdge l = (withLane d l (d.lane l).edgeTaken).tracked l n slot
      (d.lane l).nextSeq (d.lane l).motion.h ((d.lane l).motion.h + (d.lane l).settings.leadIn.setWidth 32)
      ((d.lane l).motion.h + (d.lane l).settings.gateDistance.setWidth 32) := by
  rw [Device.acceptedEdge_eq, Lane.edge_of_armed hstand hpending]
  dsimp only
  rw [show (d.lane l).edgeTaken.active = some slot from hactive, show (d.lane l).edgeTaken.freeCtx = some n from hfree]
  rfl

theorem Device.acceptedEdge_of_no_recipe (hactive : (d.lane l).active = none) : d.acceptedEdge l =
    ((withLane d l (d.lane l).edgeTaken).raiseLane l .noRecipe).untracked l (d.lane l).nextSeq
      ((d.lane l).motion.h + (d.lane l).settings.gateDistance.setWidth 32) := by
  rw [Device.acceptedEdge_eq, Lane.edge_of_armed hstand hpending]
  dsimp only
  rw [show (d.lane l).edgeTaken.active = none from hactive]
  rfl

theorem Device.acceptedEdge_of_no_context {slot : Fin 4} (hactive : (d.lane l).active = some slot)
    (hfree : (d.lane l).freeCtx = none) : d.acceptedEdge l =
    ((withLane d l (d.lane l).edgeTaken).fault l .panelOverrun).untracked l (d.lane l).nextSeq
      ((d.lane l).motion.h + (d.lane l).settings.gateDistance.setWidth 32) := by
  rw [Device.acceptedEdge_eq, Lane.edge_of_armed hstand hpending]
  dsimp only
  rw [show (d.lane l).edgeTaken.active = some slot from hactive, show (d.lane l).edgeTaken.freeCtx = none from hfree]
  rfl

end

theorem exec_edgeRise_of_accepted {l : LaneId} {s : State} (hs : s.dev.resetLow = false) (hon : (s.dev.lane l).mode ≠ .off)
    (haccept : (s.dev.lane l).acceptsEdge = true) : exec (.edgeRise l) s = becomes s (s.dev.acceptedEdge l) :=
  (exec_running hs).trans (congrArg (becomes s) (Device.edgeRises_of_accepted hon haccept))

/-- Settles O20, by the forms of an accepted edge: its panel's context, the gate entry, the scan starts. -/
theorem acceptedEdgeTracksPanel : Obligations.AcceptedEdgeTracksPanel := by
  unfold Obligations.AcceptedEdgeTracksPanel
  intro l n slot s hs L hw pos made taken linked tracked entered fixed reload haccept
  have hexec := fun hon : L.mode ≠ .off => exec_edgeRise_of_accepted hs hon haccept
  have hmotion : ∀ (c : Context) (q : List GateEntry), ((tracked c q).lane l).motion.h = hw ∧
      ((tracked c q).lane l).live = L.live ++ [c] := fun c q => by
    rw [show (tracked c q).lane l = _ from lane_withLane _ _ _]
    exact ⟨rfl, rfl⟩
  have hfaulted : ∀ (c : Context) (q : List GateEntry), (((tracked c q).fault l .panelOverrun).lane l).motion.h = hw ∧
      (((tracked c q).fault l .panelOverrun).lane l).live = L.live ++ [c] := fun c q => by
    rw [Device.fault_lane_eq, if_pos rfl]
    exact hmotion c q
  have hlength : ∀ c : Context, (L.live ++ [c]).length = (L.live ++ [made]).length := fun c => by simp
  have hroomed := fun (hon : L.mode ≠ .off) (hstand : L.mode ≠ .standby) (hactive : L.active = some slot)
      (hpending : L.pendingRecipe = none) (hfree : L.freeCtx = some n) (hroom : L.gate.queue.length < 4) =>
    ((hexec hon).trans (congrArg (becomes s) (Device.acceptedEdge_of_panel hstand hpending hactive hfree))).trans
      (congrArg (becomes s) (Device.tracked_of_room hroom L.nextSeq hw (hw + L.settings.leadIn.setWidth 32) pos))
  have hfulled := fun (hon : L.mode ≠ .off) (hstand : L.mode ≠ .standby) (hactive : L.active = some slot)
      (hpending : L.pendingRecipe = none) (hfree : L.freeCtx = some n) (hfull : 4 ≤ L.gate.queue.length) =>
    ((hexec hon).trans (congrArg (becomes s) (Device.acceptedEdge_of_panel hstand hpending hactive hfree))).trans
      (congrArg (becomes s) (Device.tracked_of_full hfull (Lane.ctx_of_freeCtx hfree) L.nextSeq hw
        (hw + L.settings.leadIn.setWidth 32) pos))
  have hreload : ∀ e : Device, (e.lane l).Idles L → withLane e l (e.lane l).loadIdle = reload e := fun e hidles => by
    rw [Lane.loadIdle_of_idles hidles]
  have hroomy : ∀ e : Device, (e.lane l).Idles L → (e.lane l).gate.queue.length < 4 →
      e.untracked l L.nextSeq pos = reload (entered e fixed) := fun e hidles hroom => by
    rw [Device.untracked_of_room hroom, ← hreload (entered e fixed) (by rw [lane_withLane]; exact hidles), lane_withLane,
      withLane_withLane]
    rfl
  have hfully : ∀ e : Device, (e.lane l).Idles L → 4 ≤ (e.lane l).gate.queue.length →
      e.untracked l L.nextSeq pos = reload (e.fault l .panelOverrun) := fun e hidles hfull => by
    rw [Device.untracked_of_full hfull, hreload]
    rw [Device.fault_lane_eq, if_pos rfl]
    exact hidles
  refine ⟨fun hon hstand hactive hpending hfree hold => ?_, fun w hon hstand hactive hpending hfree hold hbehind => ?_,
    fun hstand hwarm => ?_, fun hstand hwarm => ?_, fun hon hpending => ?_, fun hon hstand hactive hpending => ?_,
    fun hon hstand hactive hpending hfree => ?_⟩
  · have hstarts : ∀ (d : Device) (c : Context), (d.lane l).motion.h = hw ∧ (d.lane l).live = L.live ++ [c] →
        c.state = .waiting → c.scanStart = hw + L.settings.leadIn.setWidth 32 →
        Device.scanStarts l (L.live ++ [made]).length d = if L.settings.leadIn = 0 then d.scanStart l c else d :=
      fun d c ⟨hh, hlive⟩ hwait hstart => by
        rw [← hlength c, ← hlive]
        exact Device.scanStarts_of_joined hlive hold hwait (by rw [hh]; exact hstart)
    refine ⟨fun hroom hlead => ?_, fun hroom hlead => ?_, fun hfull hlead => ?_, fun hfull hlead => ?_⟩
    · refine (hroomed hon hstand hactive hpending hfree hroom).trans (congrArg (becomes s) ?_)
      exact (hstarts _ made (hmotion made _) rfl rfl).trans (if_neg hlead)
    · refine (hroomed hon hstand hactive hpending hfree hroom).trans (congrArg (becomes s) ?_)
      exact (hstarts _ made (hmotion made _) rfl rfl).trans (if_pos hlead)
    · refine (hfulled hon hstand hactive hpending hfree hfull).trans (congrArg (becomes s) ?_)
      exact (hstarts _ { made with gateAction := .noEntry } (hfaulted _ _) rfl rfl).trans (if_neg hlead)
    · refine (hfulled hon hstand hactive hpending hfree hfull).trans (congrArg (becomes s) ?_)
      exact (hstarts _ { made with gateAction := .noEntry } (hfaulted _ _) rfl rfl).trans (if_pos hlead)
  · have hstarts : ∀ (d : Device) (c : Context), (d.lane l).motion.h = hw ∧ (d.lane l).live = L.live ++ [c] →
        Device.scanStarts l (L.live ++ [made]).length d = d := fun d c ⟨hh, hlive⟩ => by
      rw [← hlength c, ← hlive]
      exact Device.scanStarts_of_behind hlive hold (by rw [hh]; exact hbehind)
    refine ⟨fun hroom => ?_, fun hfull => ?_⟩
    · exact (hroomed hon hstand hactive hpending hfree hroom).trans (congrArg (becomes s) (hstarts _ _ (hmotion made _)))
    · exact (hfulled hon hstand hactive hpending hfree hfull).trans
        (congrArg (becomes s) (hstarts _ { made with gateAction := .noEntry } (hfaulted _ _)))
  · refine exec_edgeRise_congr hs (by rw [hstand]; decide) nofun haccept rfl rfl rfl ?_
    rw [Lane.edge_of_standby hstand, Lane.enterWarming]
    dsimp only
    rw [if_neg hwarm]
  · refine exec_edgeRise_congr hs (by rw [hstand]; decide) nofun haccept rfl rfl rfl ?_
    rw [Lane.edge_of_standby hstand, Lane.enterWarming]
    dsimp only
    rw [if_pos hwarm, Lane.warmupExpires, Lane.enterReady_eq]
    rfl
  · exact exec_edgeRise_congr hs hon hon haccept rfl rfl rfl (Lane.edge_of_pending hpending)
  · have hform := (hexec hon).trans (congrArg (becomes s) (Device.acceptedEdge_of_no_recipe hstand hpending hactive))
    have hlane : ((withLane s.dev l L.edgeTaken).raiseLane l .noRecipe).lane l = L.edgeTaken := lane_withLane _ _ _
    have hqueue : (((withLane s.dev l L.edgeTaken).raiseLane l .noRecipe).lane l).gate.queue = L.gate.queue := by
      rw [hlane]
      rfl
    exact ⟨fun hroom => hform.trans (congrArg (becomes s) (hroomy _ (by rw [hlane]; exact ⟨rfl, rfl, rfl⟩) (by rwa [hqueue]))),
      fun hfull => hform.trans (congrArg (becomes s) (hfully _ (by rw [hlane]; exact ⟨rfl, rfl, rfl⟩) (by rwa [hqueue])))⟩
  · have hform := (hexec hon).trans (congrArg (becomes s) (Device.acceptedEdge_of_no_context hstand hpending hactive hfree))
    have hlane : ((withLane s.dev l L.edgeTaken).fault l .panelOverrun).lane l =
        { L.edgeTaken with gate := L.edgeTaken.gateAfter .panelOverrun } := by
      rw [Device.fault_lane_eq, if_pos rfl, lane_withLane]
    have hqueue : (((withLane s.dev l L.edgeTaken).fault l .panelOverrun).lane l).gate.queue = L.gate.queue := by
      rw [hlane]
      exact Lane.gateAfter_queue _ _
    exact ⟨fun hroom => hform.trans (congrArg (becomes s) (hroomy _ (by rw [hlane]; exact ⟨rfl, rfl, rfl⟩) (by rwa [hqueue]))),
      fun hfull => hform.trans (congrArg (becomes s) (hfully _ (by rw [hlane]; exact ⟨rfl, rfl, rfl⟩) (by rwa [hqueue])))⟩

end Sys2Proof.Machine


/-! # The scheduler's joints (R83, R85 to R87, R99, R100) -/

namespace Sys2Proof.Machine

/-! ## One joint -/

/-- A window's place among those open: behind the ones before it, before the rest (R83). -/
theorem insertWindow_split (w : Window) (ws : List Window) : ∃ before after : List Window,
    insertWindow w ws = before ++ w :: after ∧ ws = before ++ after ∧
      (∀ v ∈ before, v.seq ≠ w.seq ∨ v.lastLine < w.lastLine ∨ (v.lastLine = w.lastLine ∧ v.joint < w.joint)) ∧
      ∀ (v : Window) (rest : List Window), after = v :: rest →
        v.seq = w.seq ∧ (w.lastLine < v.lastLine ∨ (w.lastLine = v.lastLine ∧ w.joint ≤ v.joint)) := by
  induction ws with
  | nil => exact ⟨[], [], rfl, rfl, nofun, nofun⟩
  | cons v ws ih =>
    unfold insertWindow
    split
    · next h =>
      obtain ⟨before, after, hinsert, hws, hbefore, hafter⟩ := ih
      exact ⟨v :: before, after, by rw [hinsert]; rfl, by rw [hws]; rfl,
        fun u hu => (List.mem_cons.mp hu).elim (fun huv => huv ▸ h) (hbefore u), hafter⟩
    · next h =>
      refine ⟨[], v :: ws, rfl, rfl, nofun, fun u rest hu => ?_⟩
      obtain ⟨rfl, rfl⟩ := List.cons.inj hu
      have hseq : v.seq = w.seq := Decidable.of_not_not fun hne => h (.inl hne)
      exact ⟨hseq, by omega⟩

theorem openedWindow_port (l : LaneId) (c : Context) (e : JointEntry) (dx dy : Int) :
    (openedWindow l c e dx dy).port = if e.port = 1 then .p1 else .p0 := by
  show (localPortOf e.port).getD .p0 = _
  unfold localPortOf
  split
  · next h0 => exact (if_neg (by rw [h0]; decide)).symm
  · split <;> rfl

theorem Device.cropFor_of_free {d : Device} {e : JointEntry} {i : Nat} {x : CropSlot} (he : e.crop = 1) (hi : d.crops[i]? = some x)
    (hfree : x.state = .free) (hlow : ∀ (j : Nat) (y : CropSlot), j < i → d.crops[j]? = some y → y.state ≠ .free) :
    d.cropFor e = some i := by
  obtain ⟨hlt, hget⟩ := List.getElem?_eq_some_iff.mp hi
  rw [Device.cropFor, if_pos he, Device.lowestFree, List.findIdx?_eq_some_iff_getElem]
  refine ⟨hlt, by rw [hget]; exact decide_eq_true hfree, fun j hj => ?_⟩
  simpa using hlow j _ hj (List.getElem?_eq_getElem (by omega))

theorem Device.cropFor_of_none {d : Device} {e : JointEntry} (h : ∀ x ∈ d.crops, x.state ≠ .free) : d.cropFor e = none := by
  rw [Device.cropFor]
  split
  · rw [Device.lowestFree, List.findIdx?_eq_none_iff]
    exact fun x hx => decide_eq_false (h x hx)
  · rfl

theorem Device.takeCropIf_crops (d : Device) (w : Window) (o : Option Nat) : (d.takeCropIf w o).crops =
    o.elim d.crops fun i => d.crops.set i { state := .capturing, owner := some w.owner, planes := [] } := by
  cases o with
  | none => rfl
  | some i => exact (List.set_eq_modify _ _ _).symm

theorem Device.scheduleJoint_slots (d : Device) (l : LaneId) (c : Context) (e : JointEntry) (dx dy : Int) :
    (d.scheduleJoint l c e dx dy).slots = d.slots := by
  have htake : ∀ (w : Window) (o : Option Nat), (d.takeCropIf w o).slots = d.slots := fun w o => by cases o <;> rfl
  rcases Nat.lt_or_ge (d.lane l).openList.length 512 with hroom | hfull
  · rw [Device.scheduleJoint_of_room c e dx dy hroom]
    simp [Device.modCtx, htake]
  · rw [Device.scheduleJoint_of_full c e dx dy hfull]
    simp [Device.modCtx]

theorem Device.scheduleJoint_room_ctx {d : Device} {l : LaneId} {c : Context} (e : JointEntry) (dx dy : Int)
    (hc : (d.lane l).ctx c.num = some c) (hroom : (d.lane l).openList.length < 512) :
    ((d.scheduleJoint l c e dx dy).lane l).ctx c.num =
      some (c.noteOpened (if e.crop = 1 ∧ d.cropFor e = none then 1 else 0)) := by
  rw [Device.scheduleJoint_of_room c e dx dy hroom]
  refine Device.ctx_modCtx ?_ _ fun _ => rfl
  rw [Device.lane_modLane, Device.takeCropIf_lane]
  exact hc

theorem Device.scheduleJoint_full_ctx {d : Device} {l : LaneId} {c : Context} (e : JointEntry) (dx dy : Int)
    (hc : (d.lane l).ctx c.num = some c) (hfull : 512 ≤ (d.lane l).openList.length) :
    ((d.scheduleJoint l c e dx dy).lane l).ctx c.num = some c.noteOverflow := by
  rw [Device.scheduleJoint_of_full c e dx dy hfull]
  exact Device.ctx_modCtx hc _ fun _ => rfl

/-- A joint scheduled moves the pointer by one and is counted once, opened or lost (R85). -/
theorem Device.scheduleJoint_counts {d : Device} {l : LaneId} {c : Context} (e : JointEntry) (dx dy : Int)
    (hc : (d.lane l).ctx c.num = some c) : ∃ k : Context, ((d.scheduleJoint l c e dx dy).lane l).ctx c.num = some k ∧
      k.slot = c.slot ∧ k.reg = c.reg ∧ k.pointer = c.pointer + 1 ∧
      k.opened + k.causes.windowOverflow = c.opened + c.causes.windowOverflow + 1 := by
  rcases Nat.lt_or_ge (d.lane l).openList.length 512 with hroom | hfull
  · exact ⟨_, Device.scheduleJoint_room_ctx e dx dy hc hroom, rfl, rfl, rfl, by simp only [Context.noteOpened]; omega⟩
  · exact ⟨_, Device.scheduleJoint_full_ctx e dx dy hc hfull, rfl, rfl, rfl, by simp only [Context.noteOverflow]; omega⟩

/-! ## The joints a line reaches -/

/-- Whether a line reaches the joint at the pointer. -/
def Device.reaches (d : Device) (c : Context) (dy : Int) (line : Nat) : Prop :=
  c.pointer < (d.slot c.slot).hdr.jointCount.toNat ∧ (((d.slot c.slot).joint c.pointer).y.toNat : Int) + dy ≤ line

theorem Device.openJoints_of_not_found {d : Device} {l : LaneId} {n : Fin 4} {c : Context} (hc : (d.lane l).ctx n = some c)
    (hreg : ∀ dx dy : Int, c.reg.state ≠ .found dx dy) (line fuel : Nat) : Device.openJoints l n line fuel d = d := by
  cases fuel with
  | zero => rfl
  | succ fuel =>
    rw [Device.openJoints]
    simp only [hc]
    cases hs : c.reg.state with
    | pending => rfl
    | failed x => rfl
    | found dx dy => exact absurd hs (hreg dx dy)

section
variable {d : Device} {l : LaneId} {n : Fin 4} {c : Context} {dx dy : Int} (hc : (d.lane l).ctx n = some c)
  (hreg : c.reg.state = .found dx dy)
include hc hreg

theorem Device.openJoints_of_reached {line : Nat} (h : d.reaches c dy line) (fuel : Nat) :
    Device.openJoints l n line (fuel + 1) d =
      Device.openJoints l n line fuel (d.scheduleJoint l c ((d.slot c.slot).joint c.pointer) dx dy) := by
  rw [Device.openJoints]
  simp only [hc, hreg]
  exact if_pos h

theorem Device.openJoints_of_not_reached {line : Nat} (h : ¬ d.reaches c dy line) (fuel : Nat) :
    Device.openJoints l n line fuel d = d := by
  cases fuel with
  | zero => rfl
  | succ fuel =>
    rw [Device.openJoints]
    simp only [hc, hreg]
    exact if_neg h

end

/-- The joints a line opens: all it reaches from the pointer on, up to the first it does not (R85). -/
theorem Device.openJoints_spec {l : LaneId} {n : Fin 4} {dx dy : Int} (s : Slot) (line fuel : Nat) :
    ∀ (d : Device) (c : Context), (d.lane l).ctx n = some c → d.slot c.slot = s → c.reg.state = .found dx dy →
      c.pointer ≤ s.hdr.jointCount.toNat → s.hdr.jointCount.toNat ≤ c.pointer + fuel →
      ∃ k : Context, ((Device.openJoints l n line fuel d).lane l).ctx n = some k ∧ c.pointer ≤ k.pointer ∧
        k.pointer ≤ s.hdr.jointCount.toNat ∧
        (∀ i : Nat, c.pointer ≤ i → i < k.pointer → ((s.joint i).y.toNat : Int) + dy ≤ line) ∧
        (k.pointer < s.hdr.jointCount.toNat → line < ((s.joint k.pointer).y.toNat : Int) + dy) ∧
        k.opened + k.causes.windowOverflow + c.pointer = c.opened + c.causes.windowOverflow + k.pointer := by
  induction fuel with
  | zero =>
    intro d c hc hs hreg hle hfuel
    exact ⟨c, hc, le_rfl, hle, fun i h1 h2 => absurd h2 (by omega), fun h => absurd h (by omega), rfl⟩
  | succ fuel ih =>
    intro d c hc hs hreg hle hfuel
    by_cases hreach : d.reaches c dy line
    · have hnum : c.num = n := Lane.num_of_ctx hc
      obtain ⟨hlt, hy⟩ := hreach
      rw [hs] at hlt hy
      obtain ⟨x, hx, hslot, hxreg, hpointer, hsum⟩ :=
        Device.scheduleJoint_counts ((d.slot c.slot).joint c.pointer) dx dy (hnum ▸ hc)
      obtain ⟨k, hk, hge, hkle, hbelow, habove, hcount⟩ := ih (d.scheduleJoint l c ((d.slot c.slot).joint c.pointer) dx dy) x
        (hnum ▸ hx) (by rw [Device.slot, Device.scheduleJoint_slots, hslot]; exact hs) (by rw [hxreg]; exact hreg)
        (by omega) (by omega)
      rw [Device.openJoints_of_reached hc hreg ⟨by rw [hs]; exact hlt, by rw [hs]; exact hy⟩]
      refine ⟨k, hk, by omega, hkle, fun i h1 h2 => ?_, habove, by omega⟩
      rcases Nat.eq_or_lt_of_le h1 with rfl | h
      · exact hy
      · exact hbelow i (by omega) h2
    · rw [Device.openJoints_of_not_reached hc hreg hreach]
      refine ⟨c, hc, le_rfl, hle, fun i h1 h2 => absurd h2 (by omega), fun h => ?_, rfl⟩
      rw [Device.reaches, hs] at hreach
      exact Int.not_le.mp fun hy => hreach ⟨h, hy⟩

/-- Settles O38, by induction on the fuel of `openJoints` and the two forms of `scheduleJoint`. -/
theorem jointIsScheduled : Obligations.JointIsScheduled := by
  unfold Obligations.JointIsScheduled
  refine ⟨fun d l n line fuel c hc => ⟨fun hreg => ?_, fun dx dy hreg hle hfuel => ?_⟩,
    fun d l n line fuel c dx dy hc hreg => ⟨fun h => ?_, fun h => ?_⟩, fun d l c e dx dy hc => ⟨fun hfull => ?_, fun hroom => ?_⟩⟩
  · exact Device.openJoints_of_not_found hc hreg line fuel
  · exact Device.openJoints_spec (d.slot c.slot) line fuel d c hc rfl hreg hle hfuel
  · exact Device.openJoints_of_reached hc hreg h fuel
  · exact Device.openJoints_of_not_reached hc hreg h (fuel + 1)
  · refine ⟨?_, ?_, Device.scheduleJoint_full_ctx e dx dy hc hfull, ?_⟩
    · rw [Device.scheduleJoint_of_full c e dx dy hfull, Device.raiseLane_lane, Device.modCtx, Device.lane_modLane]
      rfl
    · rw [Device.scheduleJoint_of_full c e dx dy hfull]
      simp [Device.modCtx]
    · rw [Device.scheduleJoint_of_full c e dx dy hfull, Device.raiseLane, Device.raise_raised, if_pos rfl]
      simp [Device.modCtx]
  · have hctx := Device.scheduleJoint_room_ctx e dx dy hc hroom
    have hcrops : (d.scheduleJoint l c e dx dy).crops =
        (d.takeCropIf (openedWindow l c e dx dy) (d.cropFor e)).crops := by
      rw [Device.scheduleJoint_of_room c e dx dy hroom]
      simp [Device.modCtx]
    have hopen : ((d.scheduleJoint l c e dx dy).lane l).openList =
        insertWindow { openedWindow l c e dx dy with crop := d.cropFor e } (d.lane l).openList := by
      rw [Device.scheduleJoint_of_room c e dx dy hroom, Device.modCtx, Device.lane_modLane, Device.lane_modLane,
        Device.takeCropIf_lane]
      rfl
    obtain ⟨before, after, hinsert, hold, hbefore, hafter⟩ :=
      insertWindow_split { openedWindow l c e dx dy with crop := d.cropFor e } (d.lane l).openList
    rw [Device.takeCropIf_crops] at hcrops
    refine ⟨_, before, after, hopen.trans hinsert, hold, hbefore, hafter, rfl, rfl, rfl, rfl, rfl, rfl, rfl, rfl, rfl,
      openedWindow_port l c e dx dy, rfl, rfl, rfl, rfl, fun he => ?_, fun he hnone => ?_, fun i x he hi hfree hlow => ?_⟩
    · have hcrop : d.cropFor e = none := if_neg he
      rw [hcrop] at hcrops hctx
      rw [if_neg (fun h => he h.1)] at hctx
      exact ⟨hcrop, hcrops, hctx⟩
    · have hcrop : d.cropFor e = none := Device.cropFor_of_none hnone
      rw [hcrop] at hcrops hctx
      rw [if_pos ⟨he, rfl⟩] at hctx
      exact ⟨hcrop, hcrops, hctx⟩
    · have hcrop : d.cropFor e = some i := Device.cropFor_of_free he hi hfree hlow
      rw [hcrop] at hcrops hctx
      rw [if_neg (fun h => nomatch h.2)] at hctx
      exact ⟨hcrop, hctx, hcrops⟩

end Sys2Proof.Machine


/-! # The registration unit (R38, R71 to R79) -/

namespace Sys2Proof.Machine

/-! ## An accumulator and an item (R71 to R74) -/

/-- The columns, counted from a row's first, at which it is in band. -/
def bandColumns (low high : Byte) (row : List Byte) : List Nat :=
  (List.range row.length).filter fun i => inBand low high (row.getD i 0)

theorem bandColumns_cons (low high : Byte) (b : Byte) (bs : List Byte) : bandColumns low high (b :: bs) =
    (if inBand low high b then [0] else []) ++ (bandColumns low high bs).map Nat.succ := by
  rw [bandColumns, List.length_cons, List.range_succ_eq_map, List.filter_cons, List.filter_map]
  by_cases h : inBand low high b = true
  · simp only [List.getD_cons_zero, h, if_true]
    rfl
  · simp only [List.getD_cons_zero, h]
    rfl

theorem bandSums_eq (low high : Byte) (row : List Byte) (col : Nat) : bandSums low high col row =
    ((bandColumns low high row).length, ((bandColumns low high row).map fun i => col + i).sum) := by
  induction row generalizing col with
  | nil => rfl
  | cons b bs ih =>
    have hshift : ((bandColumns low high bs).map Nat.succ).map (fun i => col + i) =
        (bandColumns low high bs).map fun i => col + 1 + i := by
      rw [List.map_map]
      exact List.map_congr_left fun i _ => by simp only [Function.comp_apply]; omega
    rw [bandSums, ih, bandColumns_cons, List.map_append, hshift]
    by_cases h : inBand low high b = true
    · simp only [h, if_true]
      simp [Nat.add_comm]
    · simp [h]

/-- The in-band columns of a box's part of a line. -/
theorem bandColumns_box (low high : Byte) {px : List Byte} {left width : Nat} (h : left + width ≤ px.length) :
    bandColumns low high ((px.drop left).take width) =
      (List.range width).filter fun i => inBand low high (px.getD (left + i) 0) := by
  have hlen : ((px.drop left).take width).length = width := by
    rw [List.length_take, List.length_drop]
    omega
  rw [bandColumns, hlen]
  refine List.filter_congr fun i hi => ?_
  rw [List.getD_eq_getElem?_getD, List.getD_eq_getElem?_getD, List.getElem?_take_of_lt (List.mem_range.mp hi), List.getElem?_drop]

/-- Whether an accumulator is still open and the item one of its box (R71). -/
def Accumulator.mine (e : FiducialEntry) (a : Accumulator) (p : LocalPort) (x : Item) : Prop :=
  a.result = none ∧ localPortOf e.port = some p ∧ phaseOfCode e.phase = some x.phase ∧
    boxStart e.line e.height ≤ x.line ∧ (x.line : Int) < boxStart e.line e.height + e.height.toNat

theorem Accumulator.takes_iff (e : FiducialEntry) (a : Accumulator) (p : LocalPort) (x : Item) :
    a.takes e p x = true ↔ a.mine e p x := by
  simp [Accumulator.takes, Accumulator.mine, and_assoc]

/-- The accumulator closed where the item was of its box's last line (R73). -/
def Accumulator.closeAt (e : FiducialEntry) (x : Item) (a : Accumulator) : Accumulator :=
  if (x.line : Int) = boxStart e.line e.height + e.height.toNat - 1 then { a with result := some (a.close e) } else a

theorem Accumulator.offer_of_mine {e : FiducialEntry} {a : Accumulator} {p : LocalPort} {x : Item} (h : a.mine e p x) :
    a.offer e p x = (a.addRow e x).closeAt e x := if_pos ((a.takes_iff e p x).mpr h)

theorem Accumulator.offer_of_other {e : FiducialEntry} {a : Accumulator} {p : LocalPort} {x : Item} (h : ¬ a.mine e p x) :
    a.offer e p x = a := if_neg (mt (a.takes_iff e p x).mp h)

theorem Accumulator.addRow_of_packet {e : FiducialEntry} {a : Accumulator} {x : Item} {px : List Byte} {injected : Bool}
    (hx : x.payload = .packet px injected) (hleft : e.width.toNat / 2 ≤ e.column.toNat)
    (hright : e.column.toNat - e.width.toNat / 2 + e.width.toNat ≤ px.length) :
    let left := e.column.toNat - e.width.toNat / 2
    let cols := (List.range e.width.toNat).filter fun i => inBand e.bandLow e.bandHigh (px.getD (left + i) 0)
    a.addRow e x = { a with
      area := a.area + cols.length, columnSum := a.columnSum + (cols.map fun i => left + i).sum,
      lineSum := a.lineSum + cols.length * x.line, injected := a.injected || injected } := by
  intro left cols
  have hfirst : (boxStart e.column e.width).toNat = left := by
    unfold boxStart
    omega
  have hcols : bandColumns e.bandLow e.bandHigh ((px.drop left).take e.width.toNat) = cols := bandColumns_box _ _ hright
  simp only [Accumulator.addRow, hx, hfirst, bandSums_eq, hcols]

/-! ## Combining the results (R75) -/

theorem foundOffsets_of_found {as : List Accumulator} {os : List (Int × Int)}
    (h : as.map (fun a => a.result) = os.map fun o => some (.found o.1 o.2)) : foundOffsets as = os := by
  induction as generalizing os with
  | nil =>
    rw [List.map_nil, eq_comm, List.map_eq_nil_iff] at h
    rw [h]
    rfl
  | cons a as ih =>
    cases os with
    | nil => cases h
    | cons o os =>
      obtain ⟨ha, has⟩ := List.cons.inj h
      have hrest := ih has
      unfold foundOffsets at hrest ⊢
      rw [List.filterMap_cons]
      simp only [ha, hrest]

/-- No accumulator of those that were found was lost or missed. -/
theorem not_found_of_found {as : List Accumulator} {os : List (Int × Int)} {x : FidResult}
    (h : as.map (fun a => a.result) = os.map fun o => some (.found o.1 o.2)) (hx : ∀ dx dy, x ≠ .found dx dy) :
    ¬ ∃ a ∈ as, a.result = some x := by
  rintro ⟨a, ha, hr⟩
  have hmem : a.result ∈ os.map fun o : Int × Int => some (FidResult.found o.1 o.2) := h ▸ List.mem_map_of_mem ha
  obtain ⟨o, -, ho⟩ := List.mem_map.mp hmem
  rw [hr, Option.some_inj] at ho
  exact hx _ _ ho.symm

theorem any_result_iff (as : List Accumulator) (x : FidResult) :
    (as.any fun a => decide (a.result = some x)) = true ↔ ∃ a ∈ as, a.result = some x := by
  simp

theorem spreadTooWide_iff (tol : Nat) (os : List (Int × Int)) : spreadTooWide tol os = true ↔
    ∃ o ∈ os, ∃ p ∈ os, tol < (o.1 - p.1).natAbs ∨ tol < (o.2 - p.2).natAbs := by
  simp [spreadTooWide, differBeyond]

theorem combine_of_lost {h : Header} {as : List Accumulator} (hlost : ∃ a ∈ as, a.result = some .lost) :
    combine h as = .failed .loss := if_pos ((any_result_iff as _).mpr hlost)

theorem combine_of_missed {h : Header} {as : List Accumulator} (hlost : ¬ ∃ a ∈ as, a.result = some .lost)
    (hmissed : ∃ a ∈ as, a.result = some .notFound) : combine h as = .failed .notFound :=
  (if_neg (mt (any_result_iff as _).mp hlost)).trans (if_pos ((any_result_iff as _).mpr hmissed))

/-- With every fiducial found the spread and the range of the mean offset decide. -/
theorem combine_of_found {h : Header} {as : List Accumulator} {os : List (Int × Int)}
    (hfound : as.map (fun a => a.result) = os.map fun o => some (.found o.1 o.2)) :
    let dx := Int.tdiv (os.map fun o => o.1).sum h.fiducialCount.toNat
    let dy := Int.tdiv (os.map fun o => o.2).sum h.fiducialCount.toNat
    combine h as = if spreadTooWide h.spreadTolerance.toNat os then .failed .spread
      else if dx < -64 ∨ 64 < dx ∨ dy < -64 ∨ 64 < dy then .failed .notFound else .found dx dy := by
  intro dx dy
  have hlost := mt (any_result_iff as .lost).mp (not_found_of_found hfound nofun)
  have hmissed := mt (any_result_iff as .notFound).mp (not_found_of_found hfound nofun)
  unfold combine
  rw [foundOffsets_of_found hfound]
  exact (if_neg hlost).trans (if_neg hmissed)

/-! ## The end of a registration (R75, R76, R78, R79) -/

/-- The context a failed registration leaves (R78, R84, R131). -/
def Context.recordFailed (r : Registration) (st : RegState) (joints : Nat) (c : Context) : Context :=
  { c.recordReg r st with
    causes := { c.causes with registration := c.causes.registration + joints }, pointer := joints,
    abort := if c.abort = .none then .registration else c.abort }

theorem Context.regFailed_recordReg (r : Registration) (st : RegState) (joints : Nat) (c : Context) :
    (c.recordReg r st).regFailed joints = c.recordFailed r st joints := by
  unfold Context.regFailed Context.writeAbort Context.recordFailed
  by_cases h : c.abort = .none
  · rw [if_pos h]
    exact if_pos h
  · rw [if_neg h]
    exact if_neg h

/-- The part once the registration unit of a lane is free and its panel's context changed. -/
def Device.unitFreed (d : Device) (l : LaneId) (n : Fin 4) (f : Context → Context) : Device :=
  withLane d l { (d.lane l).modCtx n f with reg := none }

theorem Device.unitFreed_lane (d : Device) (l : LaneId) (n : Fin 4) (f : Context → Context) :
    (d.unitFreed l n f).lane l = { (d.lane l).modCtx n f with reg := none } := lane_withLane _ _ _

theorem Device.unitFreed_ctx {d : Device} {l : LaneId} {n : Fin 4} {c : Context} (hc : (d.lane l).ctx n = some c)
    {f : Context → Context} (hnum : ∀ c, (f c).num = c.num) : ((d.unitFreed l n f).lane l).ctx n = some (f c) := by
  rw [Device.unitFreed_lane]
  exact (Lane.ctx_modCtx _ n f hnum).trans (congrArg (Option.map f) hc)

section
variable {d : Device} {l : LaneId} {r : Registration} {c : Context}

theorem Device.endRegistration_of_kept (d : Device) (l : LaneId) (r : Registration) {st : RegState}
    (hst : ∀ x : RegCause, st ≠ .failed x) : d.endRegistration l r st = d.unitFreed l r.ctx (Context.recordReg r st) := by
  have hmod : (d.modLane l fun L => { L with reg := none }).modCtx l r.ctx (Context.recordReg r st) =
      d.unitFreed l r.ctx (Context.recordReg r st) := by
    unfold Device.modCtx Device.modLane
    rw [Device.lane_setLane]
    exact withLane_withLane d l _ _
  rw [← hmod]
  cases st with
  | pending => rfl
  | found dx dy => rfl
  | failed x => exact absurd rfl (hst x)

theorem Device.endRegistration_of_failed (hc : (d.lane l).ctx r.ctx = some c) (x : RegCause) :
    d.endRegistration l r (.failed x) =
      (d.unitFreed l r.ctx (Context.recordFailed r (.failed x) (d.slot c.slot).hdr.jointCount.toNat)).raiseLane l
        .registrationFailed := by
  have hmod : ((d.modLane l fun L => { L with reg := none }).modCtx l r.ctx (Context.recordReg r (.failed x))).modCtx l r.ctx
      (Context.regFailed (d.slot c.slot).hdr.jointCount.toNat) =
      d.unitFreed l r.ctx (Context.recordFailed r (.failed x) (d.slot c.slot).hdr.jointCount.toNat) := by
    rw [Device.modCtx_modCtx _ _ _ (Context.recordReg r (.failed x)) _ fun _ => rfl]
    simp only [Context.regFailed_recordReg]
    unfold Device.modCtx Device.modLane
    rw [Device.lane_setLane]
    exact withLane_withLane d l _ _
  rw [← hmod]
  simp only [Device.endRegistration, hc]
  rfl

/-! ## The unit and an item (R71, R75) -/

/-- The registration once its accumulators have been offered an item. -/
def Device.offered (d : Device) (c : Context) (r : Registration) (p : LocalPort) (x : Item) : Registration :=
  { r with accumulators := r.accumulators.map fun a => a.offer ((d.slot c.slot).fiducial a.index) p x }

theorem Device.registerItem_of_none (h : (d.lane l).reg = none) (p : LocalPort) (x : Item) : d.registerItem l p x = d := by
  simp only [Device.registerItem, h]

theorem Device.registerItem_of_other {p : LocalPort} {x : Item} (hr : (d.lane l).reg = some r) (hseq : x.seq ≠ r.seq) :
    d.registerItem l p x = d := by
  simp only [Device.registerItem, hr, if_neg hseq]

theorem Device.registerItem_of_own {p : LocalPort} {x : Item} (hr : (d.lane l).reg = some r)
    (hc : (d.lane l).ctx r.ctx = some c) (hseq : x.seq = r.seq) : d.registerItem l p x =
      if (d.offered c r p x).accumulators.all (fun a => a.result.isSome) then
        d.endRegistration l (d.offered c r p x) (combine (d.slot c.slot).hdr (d.offered c r p x).accumulators)
      else withLane d l { d.lane l with reg := some (d.offered c r p x) } := by
  have hslot : d.regSlot l r = d.slot c.slot := by simp only [Device.regSlot, hc]
  simp only [Device.registerItem, hr, if_pos hseq, hslot]
  rfl

end

/-! ## The registration deadline (R38, R76) -/

/-- A line of a panel still Pending that is neither its last nor the deadline's leaves the registration. -/
theorem Device.issueLine_pending_kept {d : Device} {l : LaneId} {c : Context} {r : Registration} (hr : (d.lane l).reg = some r)
    (hctx : (d.lane l).ctx c.num = some c) (hpending : c.reg.state = .pending) (hlast : d.lastLine l c = false)
    (hearly : c.lineOf (d.lane l).motion.tagCounter ≠ (d.slot c.slot).hdr.zone.toNat + 64) (pos : Word32) :
    ((d.issueLine l c pos).lane l).reg = some r ∧ ((d.issueLine l c pos).lane l).ctx c.num = some c := by
  rw [Device.issueLine_of_pending hctx hpending hlast hearly]
  obtain ⟨ports, strobe, gate, hlane⟩ := (d.lineMoved l c pos).strobeLine_sameWork l
    (lineRun c (d.slot c.slot).hdr (d.lane l).motion.tagCounter (c.lineOf (d.lane l).motion.tagCounter)) l
  rw [hlane, Device.lineMoved_lane]
  exact ⟨hr, hctx⟩

/-- The deadline's line ends a registration still Pending with cause Late. -/
theorem Device.issueLine_late {d : Device} {l : LaneId} {c : Context} {r : Registration} (hr : (d.lane l).reg = some r)
    (hnum : r.ctx = c.num) (hctx : (d.lane l).ctx c.num = some c) (hlast : d.lastLine l c = false)
    (hdue : c.lineOf (d.lane l).motion.tagCounter = (d.slot c.slot).hdr.zone.toNat + 64) (pos : Word32) :
    ((d.issueLine l c pos).lane l).reg = none ∧ ((d.issueLine l c pos).lane l).ctx c.num =
      some (c.recordFailed r (.failed .late) (d.slot c.slot).hdr.jointCount.toNat) := by
  have hmoved : ((d.lineMoved l c pos).lane l).ctx c.num = some c := by rw [Device.lineMoved_lane]; exact hctx
  have hslot : (d.lineMoved l c pos).slot c.slot = d.slot c.slot := by simp [Device.lineMoved, Device.slot, withLane]
  have hchecked : d.lineChecked l c pos = ((d.lineMoved l c pos).unitFreed l c.num
      (Context.recordFailed r (.failed .late) (d.slot c.slot).hdr.jointCount.toNat)).raiseLane l .registrationFailed := by
    rw [Device.lineChecked, if_pos hdue, Device.registrationDeadline,
      show ((d.lineMoved l c pos).lane l).reg = some r by rw [Device.lineMoved_lane]; exact hr]
    refine (Device.endRegistration_of_failed (by rw [hnum]; exact hmoved) .late).trans ?_
    rw [hslot, hnum]
  have hrecord : ((d.lineChecked l c pos).lane l).ctx c.num =
      some (c.recordFailed r (.failed .late) (d.slot c.slot).hdr.jointCount.toNat) := by
    rw [hchecked]
    exact Device.unitFreed_ctx hmoved fun _ => rfl
  rw [Device.issueLine_eq, if_neg (by simp [hlast]), Device.lineLit, Device.openJoints_of_not_found hrecord nofun]
  obtain ⟨ports, strobe, gate, hlane⟩ := (d.lineChecked l c pos).strobeLine_sameWork l
    (lineRun c (d.slot c.slot).hdr (d.lane l).motion.tagCounter (c.lineOf (d.lane l).motion.tagCounter)) l
  rw [hlane]
  refine ⟨?_, hrecord⟩
  rw [hchecked, Device.raiseLane_lane, Device.unitFreed_lane]

/-- Settles O37, by the forms of an accumulator's offer, of the combination and of a registration's end. -/
theorem registrationResult : Obligations.RegistrationResult := by
  unfold Obligations.RegistrationResult
  refine ⟨fun e a p x => ?_, fun d l p x => ?_, fun d l c r pos hr hnum hctx hpending => ?_, fun e a => ?_, fun h as => ?_,
    fun d l r st c hc => ?_⟩
  · intro first left mine close
    refine ⟨fun h => Accumulator.offer_of_other h, fun h hx => ?_, fun px injected h hx hleft hright => ?_⟩
    · rw [Accumulator.offer_of_mine h, Accumulator.addRow, hx]
      rfl
    · intro cols
      rw [Accumulator.offer_of_mine h, Accumulator.addRow_of_packet hx hleft hright]
      simp only [inBand, ← Bool.decide_and]
      rfl
  · refine ⟨fun h => Device.registerItem_of_none h p x, fun r c hr hc => ?_⟩
    intro u
    refine ⟨Device.registerItem_of_other hr, fun hseq hopen => ?_, fun hseq hall => ?_⟩
    · rw [Device.registerItem_of_own hr hc hseq, if_neg]
      · rfl
      · rw [List.all_eq_true]
        intro hall
        obtain ⟨a, ha, hnone⟩ := hopen
        have := hall a ha
        rw [hnone] at this
        cases this
    · rw [Device.registerItem_of_own hr hc hseq, if_pos]
      · rfl
      · exact List.all_eq_true.mpr fun a ha => Option.isSome_iff_ne_none.mpr (hall a ha)
  · intro h line t hmore
    have hlast : d.lastLine l c = false := decide_eq_false hmore
    refine ⟨fun hearly => Device.issueLine_pending_kept hr hctx hpending hlast hearly pos, fun hdue => ?_⟩
    obtain ⟨hreg, hk⟩ := Device.issueLine_late hr hnum hctx hlast hdue pos
    refine ⟨hreg, _, hk, rfl, ?_, fun a ha hnone => ?_⟩
    · exact List.map_map
    · refine List.mem_map.mpr ⟨a, ha, ?_⟩
      rw [Accumulator.outcome, hnone]
  · refine ⟨fun h => if_pos h, fun h hout => ?_, fun h hmin hmax => ?_⟩
    · exact (if_neg (by simp [h])).trans (if_pos hout)
    · exact (if_neg (by simp [h])).trans (if_neg (by omega))
  · refine ⟨combine_of_lost, fun hlost => combine_of_missed fun ⟨a, ha, h⟩ => hlost a ha h, fun os hfound => ?_⟩
    intro tol dx dy wide beyond
    have hcombine := combine_of_found (h := h) hfound
    refine ⟨fun hwide => ?_, fun hwide hbeyond => ?_, fun hwide hbeyond => ?_⟩
    · exact hcombine.trans (if_pos ((spreadTooWide_iff _ _).mpr hwide))
    · exact hcombine.trans ((if_neg (mt (spreadTooWide_iff _ _).mp hwide)).trans (if_pos hbeyond))
    · exact hcombine.trans ((if_neg (mt (spreadTooWide_iff _ _).mp hwide)).trans (if_neg hbeyond))
  · intro t L joints injected detail ended failed after
    have hkept : (∀ x : RegCause, st ≠ .failed x) → t = after ended := fun hst => Device.endRegistration_of_kept d l r hst
    have hfailed : ∀ x : RegCause, st = .failed x → t = (after failed).raiseLane l .registrationFailed := fun x hx => by
      subst hx
      exact Device.endRegistration_of_failed hc x
    have hafter : ∀ f : Context → Context, after f = d.unitFreed l r.ctx f := fun _ => rfl
    by_cases hst : ∃ x : RegCause, st = .failed x
    · obtain ⟨x, hx⟩ := hst
      have ht := hfailed x hx
      have hk : (t.lane l).ctx r.ctx = some (failed c) := by
        rw [ht]
        exact Device.unitFreed_ctx hc fun _ => rfl
      refine ⟨hkept, hfailed, by rw [ht, Device.raiseLane_lane, hafter, Device.unitFreed_lane], _, hk, rfl,
        fun h => absurd hx (h x), fun y hy => ⟨rfl, rfl, ?_⟩⟩
      rw [ht, Device.raiseLane, Device.raise_raised, if_pos rfl, hafter]
      simp [Device.unitFreed, withLane]
    · have ht := hkept fun x hx => hst ⟨x, hx⟩
      have hk : (t.lane l).ctx r.ctx = some (ended c) := by
        rw [ht]
        exact Device.unitFreed_ctx hc fun _ => rfl
      refine ⟨hkept, hfailed, by rw [ht, hafter, Device.unitFreed_lane], _, hk, rfl, fun _ => ⟨rfl, rfl, ?_⟩,
        fun y hy => absurd ⟨y, hy⟩ hst⟩
      rw [ht, hafter]
      simp [Device.unitFreed, withLane]

end Sys2Proof.Machine


/-! # The measurement engine takes an item (R88 to R101) -/

namespace Sys2Proof.Machine

/-! ## The arbiter (R88) -/

theorem Lane.chosenPort_of_served {L : Lane} {p q : LocalPort} {x : Item} {rest : List Item} (hqp : q ≠ p)
    (hp : (L.ports.get p).fifo = x :: rest) (hq : (L.ports.get q).fifo = [] ∨ L.lastServed = q) : L.chosenPort = some p := by
  unfold Lane.chosenPort
  cases p <;> cases q
  · exact absurd rfl hqp
  · rw [show L.ports.p0.fifo = x :: rest from hp]
    rcases hq with hq | hq
    · rw [show L.ports.p1.fifo = [] from hq]
    · rw [hq]
      cases L.ports.p1.fifo <;> rfl
  · rw [show L.ports.p1.fifo = x :: rest from hp]
    rcases hq with hq | hq
    · rw [show L.ports.p0.fifo = [] from hq]
    · rw [hq]
      cases L.ports.p0.fifo <;> rfl
  · exact absurd rfl hqp

/-- The lane once the engine has taken an item out of a port's FIFO. -/
def Lane.served (L : Lane) (p : LocalPort) (rest : List Item) : Lane :=
  { L with ports := L.ports.set p { L.ports.get p with fifo := rest }, lastServed := p }

theorem Device.takeItem_of_served {d : Device} {l : LaneId} {p : LocalPort} {x : Item} {rest : List Item}
    (hp : (d.lane l).chosenPort = some p) (hx : ((d.lane l).ports.get p).fifo = x :: rest) :
    d.takeItem l = (withLane d l ((d.lane l).served p rest)).handleItem l p x := by
  have hport : (d.port ⟨l, p⟩).fifo = x :: rest := hx
  simp only [Device.takeItem, hp, hport, Device.setPort, Device.modLane, Device.lane_setLane]
  exact congrArg (fun e : Device => e.handleItem l p x) (withLane_withLane d l _ _)

theorem Device.takeItem_of_none {d : Device} {l : LaneId} (h0 : (d.lane l).ports.p0.fifo = [])
    (h1 : (d.lane l).ports.p1.fifo = []) : d.takeItem l = d := by
  simp only [Device.takeItem, Lane.chosenPort, h0, h1]

/-! ## The windows and an item (R89 to R95) -/

theorem Window.takes_eq (p : LocalPort) (x : Item) (w : Window) : w.takes p x =
    decide (w.finished = false ∧ w.seq = x.seq ∧ w.port = p ∧ w.firstLine ≤ x.line ∧ x.line ≤ w.lastLine ∧
      phaseIn w.phases x.phase = true) := by
  rw [Bool.eq_iff_iff]
  simp [Window.takes, and_assoc]

theorem Window.closes_eq (p : LocalPort) (x : Item) (w : Window) : w.closes p x =
    decide (w.finished = false ∧ w.seq = x.seq ∧ w.port = p ∧ x.line = w.lastLine ∧
      (phasesOf w.phases).getLastD .top = x.phase) := by
  rw [Bool.eq_iff_iff]
  simp only [Window.closes, lastPhaseOf, Bool.and_eq_true, Bool.not_eq_true', decide_eq_true_eq, and_assoc,
    @eq_comm Phase x.phase]

/-- A window once an item it may take has gone by (R91, R92). -/
def Device.windowFed (d : Device) (p : LocalPort) (x : Item) (w : Window) : Window :=
  if w.takes p x then w.feed (d.ruleOf w) x else w

/-- A window once an item it may take and may close on has gone by (R95). -/
def Device.windowAfter (d : Device) (p : LocalPort) (x : Item) (w : Window) : Window :=
  if w.closes p x then { d.windowFed p x w with finished := true } else d.windowFed p x w

theorem Window.feed_closes (r : RuleEntry) (p : LocalPort) (x : Item) (w : Window) : (w.feed r x).closes p x = w.closes p x := by
  unfold Window.feed
  split <;> rfl

theorem Device.windowFed_closes (d : Device) (p : LocalPort) (x : Item) (w : Window) :
    (d.windowFed p x w).closes p x = w.closes p x := by
  unfold Device.windowFed
  split
  · exact Window.feed_closes _ p x w
  · rfl

/-- The lane once an item has gone by its open windows. -/
def Device.laneRead (d : Device) (l : LaneId) (p : LocalPort) (x : Item) : Lane :=
  { d.lane l with
    resolved := (d.lane l).resolved.set p (some { lineTag := x.lineTag, phase := x.phase, seq := x.seq, line := x.line }),
    openList := (d.lane l).openList.map (d.windowAfter p x) }

/-- The part once an item has gone by the windows of its lane: they are fed, the crops copied, the closing ones offered. -/
def Device.itemRead (d : Device) (l : LaneId) (p : LocalPort) (x : Item) : Device :=
  (((d.lane l).openList.filter (Window.closes p x)).map (d.windowAfter p x)).foldl Device.offerClose
    (((d.lane l).openList.filter (Window.takes p x)).foldl (Device.copyCrop x) (withLane d l (d.laneRead l p x)))

theorem Device.copyCrop_withLane (x : Item) (d : Device) (l : LaneId) (L : Lane) (w : Window) :
    Device.copyCrop x (withLane d l L) w = withLane (Device.copyCrop x d w) l L := by
  unfold Device.copyCrop
  split <;> rfl

theorem Device.foldl_copyCrop_withLane (x : Item) (ws : List Window) (d : Device) (l : LaneId) (L : Lane) :
    ws.foldl (Device.copyCrop x) (withLane d l L) = withLane (ws.foldl (Device.copyCrop x) d) l L := by
  induction ws generalizing d with
  | nil => rfl
  | cons w ws ih => rw [List.foldl_cons, List.foldl_cons, Device.copyCrop_withLane, ih]

theorem Device.feed_resolve (d : Device) (l : LaneId) (p : LocalPort) (x : Item) :
    (d.feedWindows l p x).resolveItem l p x = d.itemRead l p x := by
  have hfeed : d.feedWindows l p x = withLane (((d.lane l).openList.filter (Window.takes p x)).foldl (Device.copyCrop x) d) l
      { d.lane l with openList := (d.lane l).openList.map (d.windowFed p x) } :=
    Device.foldl_copyCrop_withLane x _ d l _
  have hread := Device.foldl_copyCrop_withLane x ((d.lane l).openList.filter (Window.takes p x)) d l (d.laneRead l p x)
  have hclosing : (((d.lane l).openList.map (d.windowFed p x)).filter (Window.closes p x)).map
        (fun w => { w with finished := true }) =
      ((d.lane l).openList.filter (Window.closes p x)).map (d.windowAfter p x) := by
    rw [List.filter_map, List.map_map, show Window.closes p x ∘ d.windowFed p x = Window.closes p x from
      funext (d.windowFed_closes p x)]
    exact List.map_congr_left fun w hw => (if_pos (List.mem_filter.mp hw).2).symm
  have hopen : ((d.lane l).openList.map (d.windowFed p x)).map
        (fun w => if w.closes p x then { w with finished := true } else w) =
      (d.lane l).openList.map (d.windowAfter p x) := by
    rw [List.map_map]
    exact List.map_congr_left fun w _ => by
      rw [Function.comp_apply, d.windowFed_closes p x w]
      rfl
  rw [Device.itemRead, hread, hfeed, Device.resolveItem]
  dsimp only
  rw [lane_withLane, Device.modLane, lane_withLane, hclosing, hopen]
  rw [show ∀ A B : Lane, (withLane (((d.lane l).openList.filter (Window.takes p x)).foldl (Device.copyCrop x) d) l A).setLane l B
    = withLane (((d.lane l).openList.filter (Window.takes p x)).foldl (Device.copyCrop x) d) l B from
      withLane_withLane _ l]
  rfl

/-- The same with the windows' conditions spelt out. -/
theorem Device.itemRead_of {d : Device} {l : LaneId} {p : LocalPort} {x : Item} {takes closes : Window → Bool}
    {after : Window → Window} (htakes : ∀ w, w.takes p x = takes w) (hcloses : ∀ w, w.closes p x = closes w)
    (hafter : ∀ w, d.windowAfter p x w = after w) : d.itemRead l p x =
      (((d.lane l).openList.filter closes).map after).foldl Device.offerClose
        (((d.lane l).openList.filter takes).foldl (Device.copyCrop x) (withLane d l { d.lane l with
          resolved := (d.lane l).resolved.set p
            (some { lineTag := x.lineTag, phase := x.phase, seq := x.seq, line := x.line }),
          openList := (d.lane l).openList.map after })) := by
  obtain rfl : Window.takes p x = takes := funext htakes
  obtain rfl : Window.closes p x = closes := funext hcloses
  obtain rfl : d.windowAfter p x = after := funext hafter
  rfl

theorem Device.takeItem_eq {d : Device} {l : LaneId} {p : LocalPort} {x : Item} {rest : List Item}
    (hp : (d.lane l).chosenPort = some p) (hx : ((d.lane l).ports.get p).fifo = x :: rest) :
    d.takeItem l = ((withLane d l ((d.lane l).served p rest)).registerItem l p x).itemRead l p x :=
  (Device.takeItem_of_served hp hx).trans (Device.feed_resolve _ l p x)

/-- The rule of a window is read through its lane's live contexts and the slots alone. -/
theorem Device.ruleOf_congr {d e : Device} (hlive : ∀ m, (e.lane m).live = (d.lane m).live) (hslots : e.slots = d.slots) (w : Window) :
    e.ruleOf w = d.ruleOf w := by
  unfold Device.ruleOf Lane.ctxOfSeq Device.slot
  rw [hlive, hslots]

theorem Device.windowAfter_congr {d e : Device} (hlive : ∀ m, (e.lane m).live = (d.lane m).live) (hslots : e.slots = d.slots)
    (p : LocalPort) (x : Item) : e.windowAfter p x = d.windowAfter p x := by
  funext w
  rw [Device.windowAfter, Device.windowAfter, Device.windowFed, Device.windowFed, Device.ruleOf_congr hlive hslots]

/-! ## What the registration and the closes leave of a lane -/

/-- The registration unit's part of a lane: its own record and the live contexts. -/
theorem Device.endRegistration_lane (d : Device) (l : LaneId) (r : Registration) (st : RegState) (m : LaneId) :
    ∃ reg live, (d.endRegistration l r st).lane m = { d.lane m with reg := reg, live := live } := by
  have hmod : ∀ (e : Device) (f : Context → Context), (∃ reg live, e.lane m = { d.lane m with reg := reg, live := live }) →
      ∃ reg live, (e.modCtx l r.ctx f).lane m = { d.lane m with reg := reg, live := live } := fun e f ⟨reg, live, h⟩ => by
    rw [Device.modCtx, Device.lane_modLane_of]
    split
    · next hm => exact ⟨reg, _, by rw [← hm, h]; rfl⟩
    · exact ⟨reg, live, h⟩
  have hfree : ∃ reg live, (d.modLane l fun L => { L with reg := none }).lane m = { d.lane m with reg := reg, live := live } := by
    rw [Device.lane_modLane_of]
    split
    · next hm => exact ⟨none, _, by rw [hm]⟩
    · exact ⟨_, _, rfl⟩
  unfold Device.endRegistration
  dsimp only
  split
  · exact hmod _ _ (hmod _ _ hfree)
  · exact hmod _ _ hfree
  · exact hmod _ _ hfree

theorem Device.registerItem_lane (d : Device) (l : LaneId) (p : LocalPort) (x : Item) (m : LaneId) :
    ∃ reg live, (d.registerItem l p x).lane m = { d.lane m with reg := reg, live := live } := by
  unfold Device.registerItem
  split
  · exact ⟨_, _, rfl⟩
  · split
    · dsimp only
      split
      · exact d.endRegistration_lane l _ _ m
      · rw [Device.lane_modLane_of]
        split
        · next hm => exact ⟨_, _, by rw [hm]⟩
        · exact ⟨_, _, rfl⟩
    · exact ⟨_, _, rfl⟩

theorem Device.offerClose_lane (d : Device) (w : Window) (m : LaneId) :
    ∃ open', (d.offerClose w).lane m = { d.lane m with openList := open' } := by
  unfold Device.offerClose
  split
  · rw [Device.moveToClose_lane]
    split
    · next hm => exact ⟨_, by rw [hm]⟩
    · exact ⟨_, rfl⟩
  · exact ⟨_, rfl⟩

theorem Device.foldl_offerClose_lane (ws : List Window) (d : Device) (m : LaneId) :
    ∃ open', (ws.foldl Device.offerClose d).lane m = { d.lane m with openList := open' } := by
  induction ws generalizing d with
  | nil => exact ⟨_, rfl⟩
  | cons w ws ih =>
    obtain ⟨o, ho⟩ := d.offerClose_lane w m
    obtain ⟨o', ho'⟩ := ih (d.offerClose w)
    exact ⟨o', by rw [List.foldl_cons, ho', ho]⟩

theorem Device.itemRead_lane (d : Device) (l : LaneId) (p : LocalPort) (x : Item) :
    ∃ open', (d.itemRead l p x).lane l = { d.laneRead l p x with openList := open' } := by
  obtain ⟨o, ho⟩ := Device.foldl_offerClose_lane (((d.lane l).openList.filter (Window.closes p x)).map (d.windowAfter p x))
    (((d.lane l).openList.filter (Window.takes p x)).foldl (Device.copyCrop x) (withLane d l (d.laneRead l p x))) l
  refine ⟨o, ?_⟩
  rw [Device.itemRead, ho, Device.foldl_copyCrop_withLane, lane_withLane]

theorem Device.registerItem_served (d : Device) (l : LaneId) (p : LocalPort) (x : Item) (rest : List Item) : ∃ reg live,
    ((withLane d l ((d.lane l).served p rest)).registerItem l p x).lane l =
      { (d.lane l).served p rest with reg := reg, live := live } := by
  obtain ⟨reg, live, h⟩ := (withLane d l ((d.lane l).served p rest)).registerItem_lane l p x l
  exact ⟨reg, live, by rw [h, lane_withLane]⟩

/-- What an item taken leaves of the lane's ports and marks (R88, R94). -/
theorem Device.itemRead_reading (d : Device) (l : LaneId) (p : LocalPort) (x : Item) (rest : List Item) :
    let L := d.lane l
    let e := ((withLane d l (L.served p rest)).registerItem l p x).itemRead l p x
    (e.lane l).lastServed = p ∧ (e.lane l).ports = L.ports.set p { L.ports.get p with fifo := rest } ∧
      (e.lane l).resolved = L.resolved.set p (some { lineTag := x.lineTag, phase := x.phase, seq := x.seq, line := x.line }) := by
  intro L e
  obtain ⟨reg, live, hlane⟩ := d.registerItem_served l p x rest
  obtain ⟨open', hread⟩ := ((withLane d l (L.served p rest)).registerItem l p x).itemRead_lane l p x
  rw [Device.laneRead, hlane] at hread
  rw [hread]
  exact ⟨rfl, rfl, rfl⟩

/-! ## The close queue (R96, R97) -/

/-- What the waiting order's places bring does not read the waiting order kept before. -/
theorem Device.refillFrom_setWaiting (ks ws : List WindowKey) (d : Device) :
    Device.refillFrom ks { d with waiting := ws } = Device.refillFrom ks d := by
  induction ks generalizing d with
  | nil => rfl
  | cons k ks ih =>
    unfold Device.refillFrom
    rw [show ({ d with waiting := ws } : Device).openWindow k = d.openWindow k from rfl,
      show ({ d with waiting := ws } : Device).closeQueue = d.closeQueue from rfl]
    split
    · split
      · exact ih d
      · next w _ => exact ih (d.moveToClose w)
    · rfl

theorem Device.offerClose_of_room {d : Device} (hnone : d.waiting = []) (hroom : d.closeQueue.length < 128) (w : Window) :
    d.offerClose w = d.moveToClose w := if_pos (by rw [hnone]; exact decide_eq_true hroom)

theorem Device.offerClose_of_wait {d : Device} (h : d.waiting ≠ [] ∨ 128 ≤ d.closeQueue.length) (w : Window) :
    d.offerClose w = ({ d with waiting := d.waiting ++ [w.key] } : Device).raiseDevice .closeQueueFull := by
  refine if_neg fun hroom => ?_
  rw [Bool.and_eq_true, List.isEmpty_iff, decide_eq_true_eq] at hroom
  obtain ⟨hnone, hlen⟩ := hroom
  exact h.elim (fun hne => hne hnone) fun hfull => absurd hlen (Nat.not_lt.mpr hfull)

theorem Device.refillClose_of_room {d : Device} {w : Window} {k : WindowKey} {rest : List WindowKey} (hk : d.waiting = k :: rest)
    (hroom : d.closeQueue.length < 128) (hw : d.openWindow k = some w) :
    d.refillClose = ({ d.moveToClose w with waiting := rest } : Device).refillClose := by
  have hplace : d.closeQueue.length < closeQueuePlaces := hroom
  rw [Device.refillClose, hk, Device.refillFrom, if_pos hplace, hw]
  exact (Device.refillFrom_setWaiting rest rest _).symm

theorem Device.refillClose_of_still {d : Device} (h : d.waiting = [] ∨ 128 ≤ d.closeQueue.length) : d.refillClose = d := by
  cases hw : d.waiting with
  | nil => exact Device.refillClose_of_none_waiting hw
  | cons k rest =>
    have hfull : closeQueuePlaces ≤ d.closeQueue.length := h.resolve_left (by rw [hw]; exact nofun)
    rw [Device.refillClose, hw, Device.refillFrom, if_neg (Nat.not_lt.mpr hfull), ← hw]

/-! ## The crop store (R99, R101) -/

theorem Device.copyCrop_of_none {x : Item} {w : Window} (h : w.crop = none ∨ x.payload = .lost) (d : Device) :
    Device.copyCrop x d w = d := by
  unfold Device.copyCrop
  rcases h with h | h
  · rw [h]
  · rw [h]
    cases w.crop <;> rfl

/-- The planes of a crop slot once a row is copied into it. -/
def Window.copied (w : Window) (x : Item) (px : List Byte) (m : Memory) : Memory :=
  m.writeList (cropAddress x.phase (x.line - w.firstLine) 0) (w.row px)

theorem Device.copyCrop_of_crop {x : Item} {w : Window} {i : Nat} {c : CropSlot} {px : List Byte} {injected : Bool}
    (hi : w.crop = some i) (hx : x.payload = .packet px injected) {d : Device} (hc : d.crops[i]? = some c) :
    Device.copyCrop x d w = { d with crops := d.crops.set i { c with planes := w.copied x px c.planes } } := by
  unfold Device.copyCrop
  rw [hi, hx]
  dsimp only
  rw [Device.modCrop]
  congr 1
  refine List.ext_getElem? fun j => ?_
  rw [List.getElem?_modify, List.getElem?_set]
  by_cases hj : i = j
  · subst hj
    obtain ⟨hlt, hget⟩ := List.getElem?_eq_some_iff.mp hc
    rw [if_pos rfl, if_pos hlt, hc]
    exact congrArg some (if_pos rfl)
  · rw [if_neg hj]
    cases d.crops[j]? with
    | none => rfl
    | some y => exact congrArg some (if_neg hj)

/-- A pixel of a crop slot's planes after a row is copied: the row's own, or what stood. -/
theorem Window.copied_read {w : Window} {x : Item} {px : List Byte} {m : Memory} (hm : m.wf = true)
    (hcols : w.firstCol ≤ w.lastCol) (hwide : w.lastCol < w.firstCol + 64) (hpx : w.lastCol < px.length)
    (hline : w.firstLine ≤ x.line) {p : Phase} {row col : Nat} (hrow : row < 64) (hcol : col < 64) (hhigh : x.line < w.firstLine + 64) :
    (w.copied x px m).read (phaseBit p * 4096 + row * 64 + col) =
      if p = x.phase ∧ row = x.line - w.firstLine ∧ col ≤ w.lastCol - w.firstCol then px.getD (w.firstCol + col) 0
      else m.read (phaseBit p * 4096 + row * 64 + col) := by
  have hlen : (w.row px).length = w.lastCol + 1 - w.firstCol := by
    rw [Window.row, List.length_take, List.length_drop]
    omega
  have hbit : p = x.phase ↔ phaseBit p = phaseBit x.phase := by cases p <;> cases x.phase <;> decide
  rw [Window.copied, Memory.read_writeList _ _ _ _ hm, cropAddress]
  by_cases h : p = x.phase ∧ row = x.line - w.firstLine ∧ col ≤ w.lastCol - w.firstCol
  · obtain ⟨hp, hr, hc⟩ := h
    have hge : phaseBit x.phase * 4096 + (x.line - w.firstLine) * 64 + 0 ≤ phaseBit p * 4096 + row * 64 + col := by
      rw [hp, hr]
      omega
    have hat : phaseBit p * 4096 + row * 64 + col - (phaseBit x.phase * 4096 + (x.line - w.firstLine) * 64 + 0) = col := by
      rw [hp, hr]
      omega
    rw [if_pos hge, if_pos ⟨hp, hr, hc⟩, hat, Window.row, List.getElem?_take_of_lt (by omega),
      List.getElem?_drop, List.getElem?_eq_getElem (by omega), List.getD_eq_getElem?_getD, List.getElem?_eq_getElem (by omega)]
    rfl
  · rw [if_neg h]
    split
    · next hge =>
      rw [List.getElem?_eq_none, Option.getD_none]
      rw [hlen]
      by_contra hlt
      rw [hbit] at h
      omega
    · rfl

/-! ## The obligation -/

/-- Settles O36, by `Device.takeItem_eq`, the two forms of an offer to the close queue and `Window.copied_read`. -/
theorem itemTakeServesPort : Obligations.ItemTakeServesPort := by
  unfold Obligations.ItemTakeServesPort
  refine ⟨fun l s hs => ⟨fun h0 h1 => ?_, fun p q x rest hqp hp hq => ?_⟩,
    fun d w => ⟨fun hnone hroom => ?_, fun h => Device.offerClose_of_wait h w, fun k rest hk hroom hw => ?_,
      Device.refillClose_of_still⟩,
    fun d w x => ⟨fun h => Device.copyCrop_of_none h d, fun i c px injected hi hx hc hwf hline hcols hwide hpx => ?_⟩⟩
  · exact (exec_running hs).trans (congrArg (becomes s) (Device.takeItem_of_none h0 h1))
  · have hchosen := Lane.chosenPort_of_served hqp hp hq
    have hexec : exec (.itemTake l) s = becomes s
        (((withLane s.dev l ((s.dev.lane l).served p rest)).registerItem l p x).itemRead l p x) :=
      (exec_running hs).trans (congrArg (becomes s) (Device.takeItem_eq hchosen hp))
    have hserved : ∀ m, ((withLane s.dev l ((s.dev.lane l).served p rest)).lane m).live = (s.dev.lane m).live := fun m => by
      by_cases hm : m = l
      · rw [hm, lane_withLane]
        rfl
      · rw [lane_withLane_of_ne _ _ hm]
    obtain ⟨reg, live, hlane⟩ := s.dev.registerItem_served l p x rest
    refine ⟨?_, fun hreg => ?_, fun r hr hseq => ?_⟩
    · obtain ⟨hserve, hports, hresolved⟩ := s.dev.itemRead_reading l p x rest
      refine ⟨_, hexec, ?_⟩
      simp only [Device.port, Device.settleStall_lane]
      rw [hserve, hports, hresolved, PerPort.get_set, PerPort.get_set, PerPort.get_set, PerPort.get_set, if_pos rfl, if_pos rfl,
        if_neg hqp, if_neg hqp]
      exact ⟨rfl, rfl, rfl, rfl, rfl⟩
    · intro takes closes fed after read
      have hkept : (withLane s.dev l ((s.dev.lane l).served p rest)).registerItem l p x =
          withLane s.dev l ((s.dev.lane l).served p rest) := by
        have hown : ((withLane s.dev l ((s.dev.lane l).served p rest)).lane l).reg = (s.dev.lane l).reg := by
          rw [lane_withLane]
          rfl
        cases hr : (s.dev.lane l).reg with
        | none => exact Device.registerItem_of_none (hown.trans hr) p x
        | some r => exact Device.registerItem_of_other (hown.trans hr) (Ne.symm (hreg r hr))
      have hafter : ∀ w, (withLane s.dev l ((s.dev.lane l).served p rest)).windowAfter p x w = after w := fun w => by
        rw [Device.windowAfter_congr hserved rfl, Device.windowAfter, Device.windowFed, Window.takes_eq, Window.closes_eq]
      rw [hexec, hkept, Device.itemRead_of (Window.takes_eq p x) (Window.closes_eq p x) hafter, lane_withLane,
        withLane_withLane]
      rfl
    · intro d M takes closes fed after read
      have hafter : ∀ w, d.windowAfter p x w = after w := fun w => by
        rw [Device.windowAfter, Device.windowFed, Window.takes_eq, Window.closes_eq]
      refine ⟨(congrArg Lane.openList hlane :), (congrArg Lane.resolved hlane :), ?_, ?_⟩
      · exact Device.registerItem_waiting _ l p x
      · rw [hexec]
        exact congrArg (becomes s) (Device.itemRead_of (Window.takes_eq p x) (Window.closes_eq p x) hafter)
  · rw [Device.offerClose_of_room hnone hroom]
    rfl
  · obtain rfl : w.key = k := of_decide_eq_true (List.find?_some hw :)
    rw [Device.refillClose_of_room hk hroom hw]
    rfl
  · exact ⟨_, Device.copyCrop_of_crop hi hx hc, Memory.writeList_wf _ _ hwf, fun p row col hrow hcol hhigh =>
      Window.copied_read hwf hcols hwide hpx hline hrow hcol hhigh⟩

end Sys2Proof.Machine


/-! # Disable Lane (R102, R123, R144, R183) -/

namespace Sys2Proof.Machine

/-- The part once everything a lane worked on is gone, before the places freed in the close queue are filled. -/
def Device.laneDiscarded (d : Device) (l : LaneId) : Device :=
  { (d.modLane l Lane.disable).freeLaneCrops l with
    retireOrder := d.retireOrder.filter (fun r => decide (r.1 ≠ l)),
    waiting := d.waiting.filter (fun k => decide (k.lane ≠ l)),
    closeQueue := d.closeQueue.filter (fun w => decide (w.lane ≠ l)),
    evaluation := d.evaluation.filter (fun w => decide (w.lane ≠ l)) }

theorem Device.disableLane_eq (d : Device) (l : LaneId) :
    d.disableLane l = (d.laneDiscarded l).refillClose.clearLaneConds l := rfl

theorem takeDisableLane_laneByte (tag : Byte) (l : LaneId) (d : Device) :
    takeDisableLane tag (laneByte l) d = (d.disableLane l).reply tag 0x52 .done [] := by
  cases l <;> rfl

theorem Device.refillClose_cond (d : Device) : d.refillClose.cond = d.cond :=
  Device.refillFrom_kept Device.cond (fun _ _ => rfl) (fun _ _ => rfl) d.waiting d

theorem Device.refillClose_ports (d : Device) (m : LaneId) : (d.refillClose.lane m).ports = (d.lane m).ports :=
  Device.refillFrom_kept (fun d => (d.lane m).ports)
    (fun d w => by
      rw [Device.moveToClose_lane]
      split
      · next hm => rw [hm]
      · rfl)
    (fun _ _ => rfl) d.waiting d

/-- The conditions that a lane's monitors at zero hold stand the same once it is disabled. -/
theorem Device.laneDiscarded_standing (d : Device) (l : LaneId) (q : LocalPort) :
    ((d.laneDiscarded l).refillClose.port ⟨l, q⟩).standing = (d.port ⟨l, q⟩).standing := by
  have hlane : (d.laneDiscarded l).lane l = (d.lane l).disable := d.lane_modLane l Lane.disable
  rw [Device.port, Device.refillClose_ports, hlane]
  cases q <;> rfl

theorem CropSlot.ownedBy_eq (l : LaneId) (c : CropSlot) : c.ownedBy l = c.owner.any fun o => decide (o.lane = l) := by
  unfold CropSlot.ownedBy
  cases c.owner <;> rfl

/-- The crop slots a lane owns, freed, and the crop queue without them. -/
theorem Device.laneDiscarded_crops (d : Device) (l : LaneId) :
    let owned (c : CropSlot) : Bool := c.owner.any (fun o => decide (o.lane = l))
    (d.laneDiscarded l).crops = d.crops.map (fun c => if owned c then { c with state := .free, owner := none } else c) ∧
      (d.laneDiscarded l).cropQueue = d.cropQueue.filter (fun i => !(d.crops[i]?).any owned) := by
  intro owned
  have howned : CropSlot.ownedBy l = owned := funext (CropSlot.ownedBy_eq l)
  refine ⟨by rw [← howned]; rfl, ?_⟩
  rw [← howned]
  refine List.filter_congr fun i _ => ?_
  show (!(match d.crops[i]? with | none => false | some c => c.ownedBy l)) = !(d.crops[i]?).any (CropSlot.ownedBy l)
  cases d.crops[i]? <;> rfl

/-- Settles O33, by `Device.disableLane_eq` and what the refill of the close queue leaves. -/
theorem disableLaneDiscards : Obligations.DisableLaneDiscards := by
  unfold Obligations.DisableLaneDiscards
  intro tag l s hs L emptied K owned kept cleared standing conds
  obtain ⟨hcrops, hqueue⟩ := s.dev.laneDiscarded_crops l
  have hkept : s.dev.laneDiscarded l = kept := by
    have hform : s.dev.laneDiscarded l = { withLane s.dev l K with
        crops := (s.dev.laneDiscarded l).crops, cropQueue := (s.dev.laneDiscarded l).cropQueue,
        retireOrder := (s.dev.laneDiscarded l).retireOrder, waiting := (s.dev.laneDiscarded l).waiting,
        closeQueue := (s.dev.laneDiscarded l).closeQueue, evaluation := (s.dev.laneDiscarded l).evaluation } := rfl
    rw [hform, hcrops, hqueue]
    rfl
  have hconds : s.dev.disableLane l = { kept.refillClose with cond := s.dev.cond.settle conds } := by
    have hcond : kept.refillClose.cond = s.dev.cond := by
      rw [Device.refillClose_cond]
      rfl
    rw [Device.disableLane_eq, Device.clearLaneConds]
    dsimp only
    rw [Device.laneDiscarded_standing, Device.laneDiscarded_standing, hkept, Device.updateConds, hcond]
    rfl
  refine ⟨exec_answers hs rfl ?_, fun hall => Device.refillClose_of_none_waiting ?_⟩
  · rw [← hconds]
    exact takeDisableLane_laneByte tag l s.dev
  · exact List.filter_eq_nil_iff.mpr fun k hk => by simpa using hall k hk

end Sys2Proof.Machine


/-! # The books of the part: contexts, windows in flight, crop slots (R98, R99)

What `JointsAccounted` and `CropsAgree` read of a state, and the changes that leave it as it is. -/

namespace Sys2Proof.Machine

/-! ## What the books hold -/

/-- What the accounting law reads of a context. -/
def Context.ledger (c : Context) : Fin 4 × Word16 × Fin 4 × CtxState × RegState × Nat × Nat × Option Word16 :=
  (c.num, c.seq, c.slot, c.state, c.reg.state, c.pointer, c.accounted, c.firstTag)

/-- What the accounting law and the crop-slot law read of a window. -/
def Window.mark (w : Window) : WindowKey × Option Nat := (w.key, w.crop)

/-- What the crop-slot law reads of a crop slot. -/
def CropSlot.shape (x : CropSlot) : CropState × Option CropOwner := (x.state, x.owner)

/-- The windows of a panel in flight. -/
def Device.flying (d : Device) (l : LaneId) (q : Word16) : Nat :=
  d.windowsInFlight.countP fun w => decide (w.lane = l ∧ w.seq = q)

/-- Every open list holds windows of its own lane, no joint of a panel twice. -/
def Device.OpenSound (d : Device) : Prop :=
  ∀ l : LaneId, (∀ w ∈ (d.lane l).openList, w.lane = l) ∧ ((d.lane l).openList.map Window.key).Nodup

theorem Context.fields_of_ledger {c k : Context} (h : k.ledger = c.ledger) : k.num = c.num ∧ k.seq = c.seq ∧ k.slot = c.slot ∧
    k.state = c.state ∧ k.reg.state = c.reg.state ∧ k.pointer = c.pointer ∧ k.accounted = c.accounted ∧ k.firstTag = c.firstTag := by
  simpa only [Context.ledger, Prod.mk.injEq] using h

theorem Window.fields_of_mark {w v : Window} (h : v.mark = w.mark) :
    v.lane = w.lane ∧ v.seq = w.seq ∧ v.joint = w.joint ∧ v.crop = w.crop := by
  simpa only [Window.mark, Window.key, Prod.mk.injEq, WindowKey.mk.injEq, and_assoc] using h

theorem Context.mem_of_ledgers {cs ks : List Context} (h : ks.map Context.ledger = cs.map Context.ledger) {k : Context}
    (hk : k ∈ ks) : ∃ c ∈ cs, c.ledger = k.ledger :=
  List.mem_map.mp (h ▸ List.mem_map_of_mem hk)

theorem Context.seqs_of_ledgers {cs ks : List Context} (h : ks.map Context.ledger = cs.map Context.ledger) :
    ks.map (fun c => c.seq) = cs.map fun c => c.seq := by
  have hseq := congrArg (List.map fun x : Fin 4 × Word16 × Fin 4 × CtxState × RegState × Nat × Nat × Option Word16 => x.2.1) h
  rwa [List.map_map, List.map_map] at hseq

theorem Window.keys_of_marks {ws vs : List Window} (h : vs.map Window.mark = ws.map Window.mark) :
    vs.map Window.key = ws.map Window.key := by
  have hkey := congrArg (List.map Prod.fst) h
  rwa [List.map_map, List.map_map] at hkey

theorem Window.mem_of_marks {ws vs : List Window} (h : (vs.map Window.mark).Perm (ws.map Window.mark)) {v : Window}
    (hv : v ∈ vs) : ∃ w ∈ ws, w.mark = v.mark :=
  List.mem_map.mp (h.mem_iff.mp (List.mem_map_of_mem hv))

theorem Device.mem_windowsInFlight (d : Device) (w : Window) : w ∈ d.windowsInFlight ↔
    (∃ l, w ∈ (d.lane l).openList) ∨ w ∈ d.closeQueue ∨ d.evaluation = some w := by
  have hlanes : (∃ l, w ∈ (d.lane l).openList) ↔ w ∈ (d.lane .a).openList ∨ w ∈ (d.lane .b).openList :=
    ⟨fun ⟨l, h⟩ => by cases l <;> [exact .inl h; exact .inr h], fun h => h.elim (⟨_, ·⟩) (⟨_, ·⟩)⟩
  rw [hlanes]
  simp [Device.windowsInFlight, or_assoc]

/-- The windows of a panel in flight are those of its own lane's list, of the close queue and under evaluation. -/
theorem Device.inFlight_eq {d : Device} (h : d.OpenSound) (l : LaneId) (q : Word16) : d.inFlight l q = d.flying l q := by
  have hother : ∀ m, m ≠ l → (d.lane m).openList.countP (fun w => decide (w.lane = l ∧ w.seq = q)) = 0 := fun m hm =>
    List.countP_eq_zero.mpr fun w hw => by
      have := (h m).1 w hw
      simp [this, hm]
  unfold Device.inFlight Device.flying Device.windowsInFlight
  simp only [List.countP_append, ← List.countP_eq_length_filter, ← Bool.decide_and]
  cases l
  · rw [hother .b (by decide), Nat.add_zero]
  · rw [hother .a (by decide)]
    omega

/-! ## The law of one context -/

/-- What a context owes with a number of joints and a number of windows in flight (R84, R98, R139). -/
def Context.Balanced (joints windows : Nat) (c : Context) : Prop :=
  c.pointer ≤ joints ∧ windows + c.accounted = c.pointer ∧ (c.state = .waiting → c.reg.state = .pending) ∧
    (c.state = .waiting ∨ c.state = .scanning → c.reg.state = .pending → c.pointer = 0) ∧
    (c.state = .decided ∨ c.state = .retiring → c.accounted = joints)

theorem Context.accounted_iff {d : Device} (h : d.OpenSound) (l : LaneId) (c : Context) :
    c.Accounted d l ↔ c.Balanced (d.jointCount c) (d.flying l c.seq) := by
  rw [← Device.inFlight_eq h]
  exact Iff.rfl

theorem Context.Balanced.congr {joints windows : Nat} {c k : Context} (h : c.Balanced joints windows) (hk : k.ledger = c.ledger) :
    k.Balanced joints windows := by
  obtain ⟨-, -, -, hstate, hreg, hptr, hacc, -⟩ := Context.fields_of_ledger hk
  unfold Context.Balanced
  rw [hstate, hreg, hptr, hacc]
  exact h

theorem JointsAccounted.openSound {d : Device} (h : JointsAccounted d) : d.OpenSound := fun l =>
  ⟨(h.2.1 l).2.1, (h.2.1 l).2.2.1⟩

theorem JointsAccounted.balanced {d : Device} (h : JointsAccounted d) {l : LaneId} {c : Context} (hc : c ∈ (d.lane l).live) :
    c.Balanced (d.jointCount c) (d.flying l c.seq) :=
  (Context.accounted_iff h.openSound l c).mp ((h.2.1 l).2.2.2.2 c hc)

theorem JointsAccounted.registers {d : Device} (h : JointsAccounted d) (l : LaneId) : (d.lane l).RegistersScanning d :=
  (h.2.1 l).2.2.2.1

theorem JointsAccounted.seqs {d : Device} (h : JointsAccounted d) (l : LaneId) : ((d.lane l).live.map fun c => c.seq).Nodup :=
  (h.2.1 l).1

theorem JointsAccounted.owner {d : Device} (h : JointsAccounted d) {w : Window} (hw : w ∈ d.windowsInFlight) :
    ∃ c ∈ (d.lane w.lane).live, c.seq = w.seq ∧ w.joint < c.pointer := h.2.2 w hw

theorem JointsAccounted.deadline {d : Device} (h : JointsAccounted d) {i : Fin 4} (hs : (d.slot i).state = .sealed) :
    (d.slot i).hdr.zone.toNat + 196 ≤ (d.slot i).hdr.panelLength.toNat := h.1 i hs

theorem JointsAccounted.intro {d : Device}
    (deadline : ∀ i : Fin 4, (d.slot i).state = .sealed → (d.slot i).hdr.zone.toNat + 196 ≤ (d.slot i).hdr.panelLength.toNat)
    (seqs : ∀ l, ((d.lane l).live.map fun c => c.seq).Nodup) (sound : d.OpenSound) (registers : ∀ l, (d.lane l).RegistersScanning d)
    (balanced : ∀ l, ∀ c ∈ (d.lane l).live, c.Balanced (d.jointCount c) (d.flying l c.seq))
    (owner : ∀ w ∈ d.windowsInFlight, ∃ c ∈ (d.lane w.lane).live, c.seq = w.seq ∧ w.joint < c.pointer) : JointsAccounted d :=
  ⟨deadline, fun l => ⟨seqs l, (sound l).1, (sound l).2, registers l,
    fun c hc => (Context.accounted_iff sound l c).mpr (balanced l c hc)⟩, owner⟩

/-- In a lane with no panel under registration the law of the registration unit says nothing. -/
theorem Lane.registersScanning_of_none {L : Lane} (h : L.reg = none) (d : Device) : L.RegistersScanning d := fun r hr => by
  rw [h] at hr
  cases hr

/-! ## Changes that leave the books as they are -/

/-- Two lanes with the same contexts, windows and registration in the books. -/
def Lane.SameBooks (L M : Lane) : Prop :=
  M.live.map Context.ledger = L.live.map Context.ledger ∧ M.openList.map Window.mark = L.openList.map Window.mark ∧
    M.reg.map (fun r => r.ctx) = L.reg.map (fun r => r.ctx) ∧ M.motion.tagCounter = L.motion.tagCounter

/-- Two states with the same books; the windows may have moved on their way. -/
structure Books (d e : Device) : Prop where
  slots : e.slots = d.slots
  live : ∀ l, (e.lane l).live.map Context.ledger = (d.lane l).live.map Context.ledger
  windows : d.OpenSound → e.OpenSound ∧ (e.windowsInFlight.map Window.mark).Perm (d.windowsInFlight.map Window.mark)
  reg : ∀ l, (e.lane l).reg.map (fun r => r.ctx) = (d.lane l).reg.map fun r => r.ctx
  tag : ∀ l, (e.lane l).motion.tagCounter = (d.lane l).motion.tagCounter
  crops : e.crops.map CropSlot.shape = d.crops.map CropSlot.shape
  cropQueue : e.cropQueue = d.cropQueue

theorem Lane.SameBooks.refl (L : Lane) : L.SameBooks L := ⟨rfl, rfl, rfl, rfl⟩

theorem Lane.SameBooks.trans {L M N : Lane} (h : L.SameBooks M) (k : M.SameBooks N) : L.SameBooks N :=
  ⟨k.1.trans h.1, k.2.1.trans h.2.1, k.2.2.1.trans h.2.2.1, k.2.2.2.trans h.2.2.2⟩

theorem Lane.SameWork.sameBooks {L M : Lane} (h : L.SameWork M) : L.SameBooks M := by
  obtain ⟨ports, strobe, gate, rfl⟩ := h
  exact ⟨rfl, rfl, rfl, rfl⟩

theorem Lane.SameBooks.modCtx (L : Lane) (n : Fin 4) {f : Context → Context} (h : ∀ c, (f c).ledger = c.ledger) :
    L.SameBooks (L.modCtx n f) := by
  refine ⟨?_, rfl, rfl, rfl⟩
  rw [Lane.modCtx, List.map_map]
  refine List.map_congr_left fun c _ => ?_
  rw [Function.comp_apply]
  split
  · exact h c
  · rfl

theorem Books.refl (d : Device) : Books d d :=
  ⟨rfl, fun _ => rfl, fun h => ⟨h, .refl _⟩, fun _ => rfl, fun _ => rfl, rfl, rfl⟩

theorem Books.trans {d e f : Device} (h : Books d e) (k : Books e f) : Books d f where
  slots := k.slots.trans h.slots
  live l := (k.live l).trans (h.live l)
  windows hd := ⟨(k.windows (h.windows hd).1).1, (k.windows (h.windows hd).1).2.trans (h.windows hd).2⟩
  reg l := (k.reg l).trans (h.reg l)
  tag l := (k.tag l).trans (h.tag l)
  crops := k.crops.trans h.crops
  cropQueue := k.cropQueue.trans h.cropQueue

/-- `Books.trans` with the later change first, as the shape of an operation gives it. -/
theorem Books.after {d e f : Device} (k : Books e f) (h : Books d e) : Books d f := h.trans k

theorem Books.ite {d e f : Device} {P : Prop} [Decidable P] (h : P → Books d e) (k : ¬ P → Books d f) :
    Books d (if P then e else f) := by
  split
  · exact h ‹_›
  · exact k ‹_›

theorem Books.foldl {α : Type} {f : Device → α → Device} (h : ∀ d x, Books d (f d x)) (xs : List α) (d : Device) :
    Books d (xs.foldl f d) := by
  induction xs generalizing d with
  | nil => exact .refl d
  | cons x xs ih => exact (h d x).trans (ih _)

theorem Device.OpenSound.of_marks {d e : Device} (h : d.OpenSound)
    (hmarks : ∀ l, (e.lane l).openList.map Window.mark = (d.lane l).openList.map Window.mark) : e.OpenSound := fun l => by
  refine ⟨fun w hw => ?_, ?_⟩
  · obtain ⟨v, hv, hmark⟩ := Window.mem_of_marks (.of_eq (hmarks l)) hw
    rw [← (Window.fields_of_mark hmark).1]
    exact (h l).1 v hv
  · rw [Window.keys_of_marks (hmarks l)]
    exact (h l).2

theorem Books.of_lanes {d e : Device} (lanes : ∀ l, (d.lane l).SameBooks (e.lane l)) (slots : e.slots = d.slots)
    (closeQueue : e.closeQueue = d.closeQueue) (evaluation : e.evaluation = d.evaluation) (crops : e.crops = d.crops)
    (cropQueue : e.cropQueue = d.cropQueue) : Books d e where
  slots := slots
  live l := (lanes l).1
  windows h := ⟨h.of_marks fun l => (lanes l).2.1, by
    unfold Device.windowsInFlight
    simp only [List.map_append, (lanes _).2.1, closeQueue, evaluation]
    exact .refl _⟩
  reg l := (lanes l).2.2.1
  tag l := (lanes l).2.2.2
  crops := congrArg _ crops
  cropQueue := cropQueue

theorem Books.setLane (d : Device) (l : LaneId) {L : Lane} (h : (d.lane l).SameBooks L) : Books d (d.setLane l L) := by
  refine .of_lanes (fun m => ?_) rfl rfl rfl rfl rfl
  by_cases hm : m = l
  · rw [hm, Device.lane_setLane]
    exact h
  · rw [show (d.setLane l L).lane m = d.lane m from lane_withLane_of_ne d L hm]
    exact .refl _

theorem Books.modLane (d : Device) (l : LaneId) {f : Lane → Lane} (h : (d.lane l).SameBooks (f (d.lane l))) :
    Books d (d.modLane l f) := .setLane d l h

/-! ## The laws read the books alone -/

theorem Device.jointCount_congr {d e : Device} {c k : Context} (hslots : e.slots = d.slots) (hslot : k.slot = c.slot) :
    e.jointCount k = d.jointCount c := by
  unfold Device.jointCount Device.slot
  rw [hslots, hslot]

theorem Books.flying {d e : Device} (h : Books d e) (hd : d.OpenSound) (l : LaneId) (q : Word16) : e.flying l q = d.flying l q := by
  have hcount : ∀ ws : List Window, ws.countP (fun w => decide (w.lane = l ∧ w.seq = q)) =
      (ws.map Window.mark).countP fun m => decide (m.1.lane = l ∧ m.1.seq = q) := fun ws => by
    rw [List.countP_map]
    rfl
  rw [Device.flying, Device.flying, hcount, hcount]
  exact (h.windows hd).2.countP_eq _

theorem Books.registers {d e : Device} (h : Books d e) {l : LaneId} (hd : (d.lane l).RegistersScanning d) :
    (e.lane l).RegistersScanning e := fun r hr => by
  have hreg := h.reg l
  rw [hr, Option.map_some] at hreg
  obtain ⟨r', hr', hctx⟩ := Option.map_eq_some_iff.mp hreg.symm
  obtain ⟨c, hc, hnum, hstate, hpending, hline⟩ := hd r' hr'
  obtain ⟨k, hk, hledger⟩ := Context.mem_of_ledgers (h.live l).symm hc
  obtain ⟨knum, -, kslot, kstate, kreg, -, -, ktag⟩ := Context.fields_of_ledger hledger
  refine ⟨k, hk, by rw [knum, hnum, hctx], by rw [kstate, hstate], by rw [kreg, hpending], ?_⟩
  unfold Context.lineOf Device.slot at hline ⊢
  rw [ktag, kslot, h.tag, h.slots]
  exact hline

theorem Books.joints {d e : Device} (h : Books d e) (hd : JointsAccounted d) : JointsAccounted e := by
  obtain ⟨hsound, hperm⟩ := h.windows hd.openSound
  refine .intro ?_ (fun l => ?_) hsound (fun l => h.registers (hd.registers l)) (fun l k hk => ?_) fun w hw => ?_
  · intro i
    rw [Device.slot, h.slots]
    exact hd.1 i
  · rw [Context.seqs_of_ledgers (h.live l)]
    exact hd.seqs l
  · obtain ⟨c, hc, hledger⟩ := Context.mem_of_ledgers (h.live l) hk
    obtain ⟨-, hseq, hslot, -⟩ := Context.fields_of_ledger hledger.symm
    rw [h.flying hd.openSound, Device.jointCount_congr h.slots hslot, hseq]
    exact (hd.balanced hc).congr hledger.symm
  · obtain ⟨v, hv, hmark⟩ := Window.mem_of_marks hperm hw
    obtain ⟨hlane, hseq, hjoint, -⟩ := Window.fields_of_mark hmark
    obtain ⟨c, hc, hcseq, hlt⟩ := hd.owner hv
    rw [hlane] at hc
    obtain ⟨k, hk, hledger⟩ := Context.mem_of_ledgers (h.live w.lane).symm hc
    obtain ⟨-, kseq, -, -, -, kptr, -⟩ := Context.fields_of_ledger hledger
    exact ⟨k, hk, by rw [kseq, hcseq, hseq], by rw [kptr, ← hjoint]; exact hlt⟩

theorem CropSlot.fields_of_shape {x y : CropSlot} (h : y.shape = x.shape) : y.state = x.state ∧ y.owner = x.owner := by
  simpa only [CropSlot.shape, Prod.mk.injEq] using h

theorem CropSlot.getElem_of_shapes {xs ys : List CropSlot} (h : ys.map CropSlot.shape = xs.map CropSlot.shape) {i : Nat} {y : CropSlot}
    (hy : ys[i]? = some y) : ∃ x, xs[i]? = some x ∧ y.state = x.state ∧ y.owner = x.owner := by
  have hi : (ys.map CropSlot.shape)[i]? = (xs.map CropSlot.shape)[i]? := by rw [h]
  rw [List.getElem?_map, List.getElem?_map, hy, Option.map_some] at hi
  obtain ⟨x, hx, hshape⟩ := Option.map_eq_some_iff.mp hi.symm
  exact ⟨x, hx, CropSlot.fields_of_shape hshape.symm⟩

theorem Books.cropsAgree {d e : Device} (h : Books d e) (hd : d.OpenSound) (hc : CropsAgree d) : CropsAgree e := by
  obtain ⟨hlen, hqueue, hnodup, hwindows, hslots, hheld⟩ := hc
  obtain ⟨-, hperm⟩ := h.windows hd
  have hcrops : (e.windowsInFlight.filterMap fun w => w.crop).Perm (d.windowsInFlight.filterMap fun w => w.crop) := by
    have := hperm.filterMap Prod.snd
    rwa [List.filterMap_map, List.filterMap_map] at this
  refine ⟨?_, h.cropQueue ▸ hqueue, hcrops.nodup_iff.mpr hnodup, fun w hw i hi => ?_, fun i x hx => ?_, fun i => ?_⟩
  · rw [← hlen, ← List.length_map (f := CropSlot.shape), h.crops, List.length_map]
  · obtain ⟨v, hv, hmark⟩ := Window.mem_of_marks hperm hw
    obtain ⟨hlane, -, -, hcrop⟩ := Window.fields_of_mark hmark
    obtain ⟨x, hx, hstate, o, ho, hol⟩ := hwindows v hv i (hcrop.trans hi)
    obtain ⟨y, hy, hys, hyo⟩ := CropSlot.getElem_of_shapes h.crops.symm hx
    exact ⟨y, hy, by rw [← hys, hstate], o, by rw [← hyo, ho], by rw [hol, hlane]⟩
  · obtain ⟨y, hy, hys, hyo⟩ := CropSlot.getElem_of_shapes h.crops hx
    obtain ⟨hfree, hcap⟩ := hslots i y hy
    refine ⟨by rw [hys, hyo]; exact hfree, fun hx => ?_⟩
    obtain ⟨w, hw, hi⟩ := hcap (by rw [← hys, hx])
    obtain ⟨v, hv, hmark⟩ := Window.mem_of_marks hperm.symm hw
    exact ⟨v, hv, by rw [(Window.fields_of_mark hmark).2.2.2, hi]⟩
  · rw [h.cropQueue, hheld]
    constructor
    · rintro ⟨x, hx, hs⟩
      obtain ⟨y, hy, hys, -⟩ := CropSlot.getElem_of_shapes h.crops.symm hx
      exact ⟨y, hy, by rw [← hys, hs]⟩
    · rintro ⟨x, hx, hs⟩
      obtain ⟨y, hy, hys, -⟩ := CropSlot.getElem_of_shapes h.crops hx
      exact ⟨y, hy, by rw [← hys, hs]⟩

end Sys2Proof.Machine


/-! # The operations that leave the books as they are -/

namespace Sys2Proof.Machine

/-! ## The trunk, the conditions, the faults -/

theorem Books.modTrunk (d : Device) (f : Trunk → Trunk) : Books d (d.modTrunk f) :=
  .of_lanes (fun _ => .refl _) rfl rfl rfl rfl rfl

theorem Books.reply (d : Device) (tag code : Byte) (oc : ReplyCode) (body : List Byte) : Books d (d.reply tag code oc body) :=
  .of_lanes (fun _ => .refl _) rfl rfl rfl rfl rfl

theorem Books.settleStall (d : Device) : Books d d.settleStall := by
  refine .of_lanes (fun l => ?_) (by simp) (by simp) (by simp) (by simp) (by simp)
  rw [Device.settleStall_lane]
  exact .refl _

theorem Books.updateConds (d : Device) (f : CondUnit → CondUnit) : Books d (d.updateConds f) :=
  .of_lanes (fun _ => .refl _) rfl rfl rfl rfl rfl

theorem Books.raise (d : Device) (i : SetId) (x : Word16) : Books d (d.raise i x) := .updateConds d _

theorem Books.raiseDevice (d : Device) (c : DeviceCond) : Books d (d.raiseDevice c) := .raise d _ _

theorem Books.raiseLane (d : Device) (l : LaneId) (c : LaneCond) : Books d (d.raiseLane l c) := .raise d _ _

theorem Books.fault (d : Device) (l : LaneId) (k : FaultKind) : Books d (d.fault l k) :=
  .of_lanes (fun m => (d.fault_sameWork l k m).sameBooks) (by simp) (by simp) (by simp) (by simp) (by simp)

theorem Books.setFreeIndex (d : Device) (n : Nat) : Books d { d with freeIndex := n } :=
  .of_lanes (fun _ => .refl _) rfl rfl rfl rfl rfl

theorem Books.setWaiting (d : Device) (ks : List WindowKey) : Books d { d with waiting := ks } :=
  .of_lanes (fun _ => .refl _) rfl rfl rfl rfl rfl

theorem Books.modCtx (d : Device) (l : LaneId) (n : Fin 4) {f : Context → Context} (h : ∀ c, (f c).ledger = c.ledger) :
    Books d (d.modCtx l n f) := .modLane d l (.modCtx _ n h)

/-! ## The ports and the strobe -/

theorem Books.setPort (d : Device) (p : PortId) (x : Port) : Books d (d.setPort p x) :=
  .of_lanes (fun m => (d.setPort_sameWork p x m).sameBooks) rfl rfl rfl rfl rfl

theorem Books.onPort (d : Device) (p : PortId) (f : PortRun → PortRun) : Books d (d.onPort p f) :=
  .after (.raise _ _ _) (.setPort d p _)

theorem Books.onStream (d : Device) (p : PortId) (f : PortRun → PortRun) : Books d (d.onStream p f) :=
  .ite (fun _ => .after (.fault _ _ _) (.onPort d p f)) fun _ => .onPort d p f

theorem Books.onPortSet (d : Device) (l : LaneId) (set : Byte) (f : PortRun → PortRun) : Books d (d.onPortSet l set f) := by
  have hfirst : Books d (if portIn set .p0 then d.onPort ⟨l, .p0⟩ f else d) :=
    .ite (fun _ => .onPort d _ f) fun _ => .refl d
  exact .ite (fun _ => .after (.onPort _ _ f) hfirst) fun _ => hfirst

theorem Books.camWord (d : Device) (p : PortId) (w : CamWord) : Books d (d.camWord p w) :=
  .ite (fun _ => .onStream d p _) fun _ => .refl d

theorem Books.camSdFalls (d : Device) (p : PortId) : Books d (d.camSdFalls p) :=
  .ite (fun _ => .setPort d p _) fun _ => .after (.onStream _ p _) (.setPort d p _)

theorem Books.camSdRises (d : Device) (p : PortId) : Books d (d.camSdRises p) :=
  .ite (fun _ => .setPort d p _) fun _ => .ite (fun _ => .after (.onStream _ p _) (.setPort d p _)) fun _ => .setPort d p _

theorem Books.modStrobe (d : Device) (l : LaneId) (f : Lane → Strobe) :
    Books d (d.modLane l fun L => { L with strobe := f L }) := .modLane d l ⟨rfl, rfl, rfl, rfl⟩

theorem Books.enterFlash (d : Device) (l : LaneId) (r : LineRun) (p : Phase) : Books d (d.enterFlash l r p) :=
  .after (.onPortSet _ l _ _) (.modStrobe d l _)

theorem Books.strobeLine (d : Device) (l : LaneId) (r : LineRun) : Books d (d.strobeLine l r) := by
  unfold Device.strobeLine
  split
  · split
    · exact .refl d
    · exact .enterFlash d l r _
  · exact .after (.onPortSet _ l _ _) (.raiseLane d l _)

theorem Books.flashEnds (d : Device) (l : LaneId) : Books d (d.flashEnds l) := by
  unfold Device.flashEnds
  split
  · exact .modStrobe d l _
  all_goals exact .refl d

theorem Books.sequenceEnds (d : Device) (l : LaneId) : Books d (d.sequenceEnds l) :=
  .after (.onPort _ _ _) (.after (.onPort _ _ _) (.modStrobe d l _))

theorem Books.settleExpires (d : Device) (l : LaneId) : Books d (d.settleExpires l) := by
  unfold Device.settleExpires
  split
  · dsimp only
    split
    · exact .after (.sequenceEnds _ l) (.modStrobe d l _)
    · split
      · exact .after (.enterFlash _ l _ _) (.modStrobe d l _)
      · exact .after (.sequenceEnds _ l) (.modStrobe d l _)
  all_goals exact .refl d

/-! ## The lane's state and its timers -/

theorem Lane.SameBooks.loadIdle (L : Lane) : L.SameBooks L.loadIdle := by
  rcases L.loadIdle_eq with h | ⟨-, h⟩ <;> rw [h] <;> exact ⟨rfl, rfl, rfl, rfl⟩

theorem Lane.SameBooks.enterReady (L : Lane) : L.SameBooks L.enterReady :=
  .trans (M := { L with mode := .ready, light := .ready }) ⟨rfl, rfl, rfl, rfl⟩ (.loadIdle _)

theorem Lane.SameBooks.warmupExpires (L : Lane) : L.SameBooks L.warmupExpires :=
  .trans (M := { L with warmupLeft := none }) ⟨rfl, rfl, rfl, rfl⟩ (.enterReady _)

theorem Lane.SameBooks.enterWarming (L : Lane) : L.SameBooks L.enterWarming := by
  unfold Lane.enterWarming
  dsimp only
  split
  · exact .trans (M := { L with mode := .warming, light := .warming, warmupLeft := some (L.settings.warmupTime.toNat * 1000) })
      ⟨rfl, rfl, rfl, rfl⟩ (.warmupExpires _)
  · exact ⟨rfl, rfl, rfl, rfl⟩

theorem Lane.SameBooks.arm (L : Lane) : L.SameBooks L.arm := by
  unfold Lane.arm
  split
  · exact .enterWarming L
  · split
    · exact ⟨rfl, rfl, rfl, rfl⟩
    · exact .refl L
  all_goals exact .refl L

theorem Lane.SameBooks.bind (L : Lane) (i : Fin 4) : L.SameBooks (L.bind i) := by
  rcases L.bind_eq i with h | h <;> rw [h] <;> exact ⟨rfl, rfl, rfl, rfl⟩

theorem Lane.SameBooks.edge (L : Lane) : L.SameBooks L.edge := by
  have htake : ∀ M : Lane, M.SameBooks M.takeRecipe := fun M => by
    rcases M.takeRecipe_eq with ⟨-, h⟩ | ⟨i, -, h⟩ <;> rw [h] <;> exact ⟨rfl, rfl, rfl, rfl⟩
  have hnumber : ∀ (M : Lane) (q : Word16), M.SameBooks { M with nextSeq := q } := fun _ _ => ⟨rfl, rfl, rfl, rfl⟩
  unfold Lane.edge
  dsimp only
  refine .trans (M := { L with motion := { L.motion with lastEdge := some L.motion.h } }) ⟨rfl, rfl, rfl, rfl⟩
    (.trans ?_ (.trans (htake _) (hnumber _ _)))
  split
  · exact .enterWarming _
  · exact .refl _

theorem Books.warmupExpires (d : Device) (l : LaneId) : Books d (d.warmupExpires l) :=
  .ite (fun _ => .modLane d l (.warmupExpires _)) fun _ => .refl d

theorem Books.idleExpires (d : Device) (l : LaneId) : Books d (d.idleExpires l) :=
  .ite (fun _ => .modLane d l ⟨rfl, rfl, rfl, rfl⟩) fun _ => .refl d

theorem Books.tickStrobe (d : Device) (l : LaneId) : Books d (d.tickStrobe l) := by
  unfold Device.tickStrobe
  dsimp only
  split
  · exact .refl d
  · exact .ite (fun _ => .flashEnds d l) fun _ => .modLane d l ⟨rfl, rfl, rfl, rfl⟩
  · exact .ite (fun _ => .settleExpires d l) fun _ => .modLane d l ⟨rfl, rfl, rfl, rfl⟩

theorem Books.tickIdle (d : Device) (l : LaneId) : Books d (d.tickIdle l) := by
  unfold Device.tickIdle
  split
  · exact .refl d
  · exact .ite (fun _ => .idleExpires d l) fun _ => .modLane d l ⟨rfl, rfl, rfl, rfl⟩

theorem Books.tickWarmup (d : Device) (l : LaneId) : Books d (d.tickWarmup l) := by
  unfold Device.tickWarmup
  split
  · exact .refl d
  · exact .ite (fun _ => .warmupExpires d l) fun _ => .modLane d l ⟨rfl, rfl, rfl, rfl⟩

theorem Books.tickLane (d : Device) (l : LaneId) : Books d (d.tickLane l) :=
  ((Books.tickStrobe d l).trans (.tickIdle _ l)).trans (.tickWarmup _ l)

theorem Books.stallExpires (d : Device) : Books d d.stallExpires :=
  .ite (fun _ => .after (.modTrunk _ _) (.after (.fault _ .b _) (.after (.fault _ .a _) (.raiseDevice d _)))) fun _ => .refl d

theorem Books.tick (d : Device) : Books d d.tick := by
  have hstall : Books d d.tickStall := by
    unfold Device.tickStall
    split
    · exact .refl d
    · exact .ite (fun _ => .stallExpires d) fun _ => .modTrunk d _
  exact (hstall.trans (.tickLane _ .a)).trans (.tickLane _ .b)

theorem Books.passGateEntry (d : Device) (l : LaneId) (e : GateEntry) : Books d (d.passGateEntry l e) := by
  refine .ite (fun _ => .setLane d l ⟨rfl, rfl, rfl, rfl⟩) fun _ => ?_
  split
  · exact .after (.modCtx _ l _ fun _ => rfl) (.fault d l _)
  · exact .fault d l _

theorem Books.untracked (d : Device) (l : LaneId) (q : Word16) (p : Word32) : Books d (d.untracked l q p) :=
  .after (.modLane _ l (.loadIdle _)) (.passGateEntry d l _)

/-! ## The windows on their way (R89 to R97) -/

theorem Window.feed_mark (r : RuleEntry) (x : Item) (w : Window) : (w.feed r x).mark = w.mark := by
  unfold Window.feed
  split <;> rfl

theorem Books.copyCrop (x : Item) (d : Device) (w : Window) : Books d (Device.copyCrop x d w) := by
  refine ⟨by simp, fun l => by rw [Device.lane, Device.copyCrop_lanes]; rfl, fun h => ?_, fun l => by
    rw [Device.lane, Device.copyCrop_lanes]; rfl, fun l => by rw [Device.lane, Device.copyCrop_lanes]; rfl, ?_, by simp⟩
  · have hlane : ∀ l, (Device.copyCrop x d w).lane l = d.lane l := fun l => by
      rw [Device.lane, Device.copyCrop_lanes]
      rfl
    refine ⟨h.of_marks fun l => by rw [hlane], ?_⟩
    unfold Device.windowsInFlight
    rw [hlane, hlane, Device.copyCrop_closeQueue, Device.copyCrop_evaluation]
  · unfold Device.copyCrop
    split
    · refine List.ext_getElem? fun j => ?_
      rw [List.getElem?_map, List.getElem?_map]
      show ((d.crops.modify _ _)[j]?).map _ = _
      rw [List.getElem?_modify]
      cases d.crops[j]? with
      | none => rfl
      | some y =>
        refine congrArg some ?_
        show CropSlot.shape (if _ then _ else _) = _
        split <;> rfl
    · rfl

theorem Books.feedWindows (d : Device) (l : LaneId) (p : LocalPort) (x : Item) : Books d (d.feedWindows l p x) := by
  refine .after (.foldl (Books.copyCrop x) _ _) (.modLane d l ⟨rfl, ?_, rfl, rfl⟩)
  rw [List.map_map]
  refine List.map_congr_left fun w _ => ?_
  rw [Function.comp_apply]
  split
  · exact Window.feed_mark _ x w
  · rfl

/-- In a list without one key twice the window of a key is the only one. -/
theorem Window.perm_filter_key {ws : List Window} (h : (ws.map Window.key).Nodup) {w : Window} (hw : w ∈ ws) :
    ws.Perm (w :: ws.filter fun v => decide (v.key ≠ w.key)) := by
  induction ws with
  | nil => cases hw
  | cons v ws ih =>
    rw [List.map_cons, List.nodup_cons] at h
    obtain ⟨hv, hrest⟩ := h
    by_cases hvw : v.key = w.key
    · have hvw' : v = w := (List.mem_cons.mp hw).elim Eq.symm fun hmem => absurd (hvw ▸ List.mem_map_of_mem hmem) hv
      subst hvw'
      rw [List.filter_cons_of_neg (by simp), List.filter_eq_self.mpr]
      exact fun u hu => decide_eq_true fun he => hv (he ▸ List.mem_map_of_mem hu)
    · have hmem : w ∈ ws := (List.mem_cons.mp hw).resolve_left fun he => hvw (he ▸ rfl)
      rw [List.filter_cons_of_pos (by simpa using hvw)]
      exact ((ih hrest hmem).cons v).trans (.swap w v _)

/-- A window moved from its open list to the close queue stays in flight. -/
theorem Books.moveToClose {d : Device} {w : Window} (hw : w ∈ (d.lane w.lane).openList) : Books d (d.moveToClose w) where
  slots := by simp
  live l := by
    rw [Device.moveToClose_lane]
    split
    · next h => rw [h]
    · rfl
  windows h := by
    refine ⟨fun l => ?_, ?_⟩
    · rw [Device.moveToClose_lane]
      split
      · next hl =>
        subst hl
        exact ⟨fun v hv => (h _).1 v (List.mem_filter.mp hv).1, ((List.filter_sublist).map _).nodup (h _).2⟩
      · exact h l
    · refine List.Perm.map _ ?_
      have hperm := Window.perm_filter_key (h w.lane).2 hw
      unfold Device.windowsInFlight
      rw [Device.moveToClose_lane, Device.moveToClose_lane, Device.moveToClose_evaluation]
      show List.Perm (_ ++ _ ++ (d.closeQueue ++ [w]) ++ _) _
      refine List.perm_iff_count.mpr fun v => ?_
      have hcount := hperm.count_eq v
      cases hl : w.lane with
      | a =>
        rw [hl, List.count_cons] at hcount
        rw [if_pos rfl, if_neg (by decide)]
        simp only [List.count_append, List.count_singleton] at hcount ⊢
        omega
      | b =>
        rw [hl, List.count_cons] at hcount
        rw [if_pos rfl, if_neg (by decide)]
        simp only [List.count_append, List.count_singleton] at hcount ⊢
        omega
  reg l := by
    rw [Device.moveToClose_lane]
    split
    · next h => rw [h]
    · rfl
  tag l := by
    rw [Device.moveToClose_lane]
    split
    · next h => rw [h]
    · rfl
  crops := by simp
  cropQueue := by simp

theorem Books.offerClose {d : Device} {w : Window} (hw : w ∈ (d.lane w.lane).openList) : Books d (d.offerClose w) :=
  .ite (fun _ => .moveToClose hw) fun _ => .after (.raiseDevice _ _) (.setWaiting d _)

theorem Device.mem_offerClose {d : Device} {v w : Window} {l : LaneId} (hv : v ∈ (d.lane l).openList) (hkey : v.key ≠ w.key) :
    v ∈ ((d.offerClose w).lane l).openList := by
  unfold Device.offerClose
  split
  · rw [Device.moveToClose_lane]
    split
    · next hl => exact List.mem_filter.mpr ⟨hl ▸ hv, decide_eq_true hkey⟩
    · exact hv
  · exact hv

/-- Finished windows of a lane offered to the close queue one after the other. -/
theorem Books.offerCloses (l : LaneId) (ws : List Window) (d : Device) (hlane : ∀ w ∈ ws, w.lane = l)
    (hopen : ∀ w ∈ ws, w ∈ (d.lane l).openList) (hkeys : (ws.map Window.key).Nodup) : Books d (ws.foldl Device.offerClose d) := by
  induction ws generalizing d with
  | nil => exact .refl d
  | cons w ws ih =>
    rw [List.map_cons, List.nodup_cons] at hkeys
    refine .after (ih _ (fun v hv => hlane v (.tail _ hv)) (fun v hv => ?_) hkeys.2)
      (.offerClose (by rw [hlane w (.head _)]; exact hopen w (.head _)))
    exact Device.mem_offerClose (hopen v (.tail _ hv)) fun he => hkeys.1 (he ▸ List.mem_map_of_mem hv)

theorem Books.refillFrom (ks : List WindowKey) (d : Device) : Books d (Device.refillFrom ks d) := by
  induction ks generalizing d with
  | nil => exact .setWaiting d []
  | cons k ks ih =>
    unfold Device.refillFrom
    split
    · split
      · exact ih d
      · next w hw =>
        have hkey : w.key = k := of_decide_eq_true (List.find?_some hw :)
        subst hkey
        exact .after (ih _) (.moveToClose (List.mem_of_find?_eq_some (hw :)))
    · exact .setWaiting d _

theorem Books.refillClose (d : Device) : Books d d.refillClose := .refillFrom _ d

theorem Books.resolveItem {d : Device} (hd : d.OpenSound) (l : LaneId) (p : LocalPort) (x : Item) :
    Books d (d.resolveItem l p x) := by
  obtain ⟨hlane, hkeys⟩ := hd l
  unfold Device.resolveItem
  dsimp only
  refine .after (.offerCloses l _ _ (fun w hw => ?_) (fun w hw => ?_) ?_) (.modLane d l ⟨rfl, ?_, rfl, rfl⟩)
  · obtain ⟨v, hv, rfl⟩ := List.mem_map.mp hw
    exact hlane v (List.mem_filter.mp hv).1
  · obtain ⟨v, hv, rfl⟩ := List.mem_map.mp hw
    obtain ⟨hmem, hcloses⟩ := List.mem_filter.mp hv
    rw [Device.lane_modLane]
    exact List.mem_map.mpr ⟨v, hmem, if_pos hcloses⟩
  · rw [List.map_map]
    exact ((List.filter_sublist).map _).nodup hkeys
  · rw [List.map_map]
    refine List.map_congr_left fun w _ => ?_
    rw [Function.comp_apply]
    split <;> rfl

/-- The record that the free engine takes stays in flight (R107). -/
theorem Books.takeEvaluation (d : Device) : Books d d.takeEvaluation := by
  unfold Device.takeEvaluation
  split
  · next w rest hnone hq =>
    refine .after (.refillClose _) ⟨rfl, fun _ => rfl, fun h => ⟨h, ?_⟩, fun _ => rfl, fun _ => rfl, rfl, rfl⟩
    refine List.Perm.map _ (List.perm_iff_count.mpr fun v => ?_)
    show ((d.lane .a).openList ++ (d.lane .b).openList ++ rest ++ [w]).count v = d.windowsInFlight.count v
    unfold Device.windowsInFlight
    rw [hq, hnone]
    simp only [List.count_append, List.count_cons, List.count_nil, Option.toList_none]
    omega
  · exact .refl d

/-! ## The orders that leave the books (R2, R25, R46, R47, R118, R128, R146, R154 to R160, R180 to R184) -/

theorem Books.onLane (d : Device) (tag code lane : Byte) {f : LaneId → Device} (h : ∀ l, Books d (f l)) :
    Books d (d.onLane tag code lane f) := by
  unfold Device.onLane
  split
  · exact .reply d _ _ _ _
  · exact h _

theorem Books.takeConfigurePort (tag port noise check : Byte) (d : Device) : Books d (takeConfigurePort tag port noise check d) := by
  unfold Machine.takeConfigurePort
  split
  · exact .reply d _ _ _ _
  · exact .ite (fun _ => .reply d _ _ _ _) fun _ => .after (.reply _ _ _ _ _) (.setPort d _ _)

theorem Books.takeLoadPattern (tag port : Byte) (offset count : Word16) (px : List Byte) (d : Device) :
    Books d (takeLoadPattern tag port offset count px d) := by
  unfold Machine.takeLoadPattern
  split
  · exact .reply d _ _ _ _
  · exact .ite (fun _ => .ite (fun _ => .after (.reply _ _ _ _ _) (.setPort d _ _)) fun _ => .reply d _ _ _ _)
      fun _ => .reply d _ _ _ _

theorem Books.takeReadPattern (tag port : Byte) (offset count : Word16) (d : Device) :
    Books d (takeReadPattern tag port offset count d) := by
  unfold Machine.takeReadPattern
  split
  · exact .reply d _ _ _ _
  · exact .ite (fun _ => .reply d _ _ _ _) fun _ => .reply d _ _ _ _

theorem Books.takeSetInjection (tag port mode : Byte) (n : Word16) (d : Device) : Books d (takeSetInjection tag port mode n d) := by
  unfold Machine.takeSetInjection
  split
  · exact .ite (fun _ => .after (.reply _ _ _ _ _) (.setPort d _ _)) fun _ => .reply d _ _ _ _
  · exact .reply d _ _ _ _

theorem Books.takeReadPort (tag port : Byte) (d : Device) : Books d (takeReadPort tag port d) := by
  unfold Machine.takeReadPort
  split <;> exact .reply d _ _ _ _

theorem Books.takeReadWindows (tag lane : Byte) (start : Word16) (count : Byte) (d : Device) :
    Books d (takeReadWindows tag lane start count d) := by
  unfold Machine.takeReadWindows
  split
  · exact .reply d _ _ _ _
  · exact .ite (fun _ => .reply d _ _ _ _) fun _ => .reply d _ _ _ _

theorem Books.takeSetReportMode (tag lane mode detail : Byte) (d : Device) : Books d (takeSetReportMode tag lane mode detail d) := by
  unfold Machine.takeSetReportMode
  split
  · exact .after (.reply _ _ _ _ _) (.modLane d _ ⟨rfl, rfl, rfl, rfl⟩)
  · exact .reply d _ _ _ _

theorem Books.readEntries (d : Device) (tag code slot : Byte) (inRange : Bool) (record : Slot → List Byte) :
    Books d (d.readEntries tag code slot inRange record) := by
  unfold Device.readEntries
  split
  · exact .ite (fun _ => .reply d _ _ _ _) fun _ => .reply d _ _ _ _
  · exact .reply d _ _ _ _

theorem Books.takeReadSlot (tag slot : Byte) (d : Device) : Books d (takeReadSlot tag slot d) := by
  unfold Machine.takeReadSlot
  split <;> exact .reply d _ _ _ _

theorem Books.takeBindRecipe (tag lane slot : Byte) (d : Device) : Books d (takeBindRecipe tag lane slot d) := by
  unfold Machine.takeBindRecipe
  split
  · exact .reply d _ _ _ _
  · refine .ite (fun _ => .after (.reply _ _ _ _ _) (.modLane d _ ⟨rfl, rfl, rfl, rfl⟩)) fun _ => ?_
    split
    · exact .reply d _ _ _ _
    · split
      · exact .reply d _ _ _ _
      · exact .reply d _ _ _ _
      · exact .reply d _ _ _ _
      · exact .after (.reply _ _ _ _ _) (.modLane d _ (.bind _ _))

theorem Books.takeConfigureLane (tag lane : Byte) (x : LaneSettings) (d : Device) : Books d (takeConfigureLane tag lane x d) := by
  unfold Machine.takeConfigureLane
  split
  · exact .ite (fun _ => .after (.reply _ _ _ _ _) (.modLane d _ ⟨rfl, rfl, rfl, rfl⟩)) fun _ => .reply d _ _ _ _
  · exact .reply d _ _ _ _

theorem Books.takeArmLane (tag lane : Byte) (d : Device) : Books d (takeArmLane tag lane d) :=
  .onLane d _ _ _ fun l => .ite (fun _ => .reply d _ _ _ _) fun _ => .after (.reply _ _ _ _ _) (.modLane d l (.arm _))

theorem Books.takeSetGateMode (tag lane mode : Byte) (d : Device) : Books d (takeSetGateMode tag lane mode d) := by
  unfold Machine.takeSetGateMode
  split
  · exact .ite (fun _ => .after (.reply _ _ _ _ _) (.raiseDevice d _))
      fun _ => .after (.reply _ _ _ _ _) (.modLane d _ ⟨rfl, rfl, rfl, rfl⟩)
  · exact .reply d _ _ _ _

theorem Books.takeSetFaultResponse (tag lane kind override hold : Byte) (d : Device) :
    Books d (takeSetFaultResponse tag lane kind override hold d) := by
  unfold Machine.takeSetFaultResponse
  split
  · exact .after (.reply _ _ _ _ _) (.modLane d _ ⟨rfl, rfl, rfl, rfl⟩)
  · exact .reply d _ _ _ _

theorem Books.takeReleaseForce (tag lane : Byte) (d : Device) : Books d (takeReleaseForce tag lane d) :=
  .onLane d _ _ _ fun l => .after (.reply _ _ _ _ _) (.modLane d l ⟨rfl, rfl, rfl, rfl⟩)

theorem Books.takeReadPanel (tag lane context : Byte) (d : Device) : Books d (takeReadPanel tag lane context d) :=
  .onLane d _ _ _ fun l => by
    split <;> exact .reply d _ _ _ _

theorem Books.takeReadConditions (tag set : Byte) (d : Device) : Books d (takeReadConditions tag set d) := by
  unfold Machine.takeReadConditions
  split
  · exact .reply d _ _ _ _
  · exact .after (.reply _ _ _ _ _) (.updateConds d _)

theorem Books.takeClearConditions (tag set : Byte) (list : Word16) (d : Device) : Books d (takeClearConditions tag set list d) := by
  unfold Machine.takeClearConditions
  split
  · exact .reply d _ _ _ _
  · exact .ite (fun _ => .reply d _ _ _ _) fun _ => .after (.reply _ _ _ _ _) (.updateConds d _)

theorem Books.takeSetMask (tag set : Byte) (list : Word16) (d : Device) : Books d (takeSetMask tag set list d) := by
  unfold Machine.takeSetMask
  split
  · exact .reply d _ _ _ _
  · exact .ite (fun _ => .reply d _ _ _ _) fun _ => .after (.reply _ _ _ _ _) (.updateConds d _)

theorem Books.takeConfigureDevice (tag : Byte) (limit : Word16) (d : Device) : Books d (takeConfigureDevice tag limit d) :=
  .ite (fun _ => .reply d _ _ _ _) fun _ => .after (.reply _ _ _ _ _) (.modTrunk d _)

end Sys2Proof.Machine


/-! # Keeping the books: one context, one window, one crop slot -/

namespace Sys2Proof.Machine

/-! ## One context changes (R98) -/

/-- In a lane whose contexts have different numbers a change by number is a change of one context. -/
theorem Lane.modCtx_of_ctx {L : Lane} (hnum : (L.live.map fun c => c.num).Nodup) {n : Fin 4} {c : Context} (hc : L.ctx n = some c)
    (f : Context → Context) : L.modCtx n f = L.modCtx n fun _ => f c := by
  unfold Lane.modCtx
  congr 1
  refine List.map_congr_left fun x hx => ?_
  split
  · next hxn =>
    rw [List.inj_on_of_nodup_map hnum hx (Lane.mem_of_ctx hc) (hxn.trans (Lane.num_of_ctx hc).symm)]
  · rfl

/-- The ledgers of a lane in which the context of a number has become another. -/
def Lane.ledgersWith (L : Lane) (n : Fin 4) (k : Context) : List (Fin 4 × Word16 × Fin 4 × CtxState × RegState × Nat × Nat × Option Word16) :=
  L.live.map fun x => if x.num = n then k.ledger else x.ledger

theorem Lane.ledgersWith_eq {L : Lane} (hnum : (L.live.map fun c => c.num).Nodup) {n : Fin 4} {c : Context} (hc : L.ctx n = some c)
    (f : Context → Context) : (L.modCtx n f).live.map Context.ledger = L.ledgersWith n (f c) := by
  rw [Lane.modCtx_of_ctx hnum hc, Lane.modCtx, List.map_map]
  refine List.map_congr_left fun x _ => ?_
  rw [Function.comp_apply]
  split <;> rfl

/-- Two states that differ in one context of a lane, as the books have it. -/
structure Device.Recorded (d : Device) (l : LaneId) (n : Fin 4) (k : Context) (e : Device) : Prop where
  slots : e.slots = d.slots
  own : (e.lane l).live.map Context.ledger = (d.lane l).ledgersWith n k
  other : ∀ m, m ≠ l → (e.lane m).live.map Context.ledger = (d.lane m).live.map Context.ledger

section
variable {d e : Device} {l : LaneId} {n : Fin 4} {c k : Context} (hnum : ((d.lane l).live.map fun c => c.num).Nodup)
  (hc : (d.lane l).ctx n = some c) (he : d.Recorded l n k e)
include hc he

theorem Device.Recorded.mem_own : ∃ x ∈ (e.lane l).live, x.ledger = k.ledger := by
  have hmem : k.ledger ∈ (d.lane l).ledgersWith n k :=
    List.mem_map.mpr ⟨c, Lane.mem_of_ctx hc, if_pos (Lane.num_of_ctx hc)⟩
  rw [← he.own] at hmem
  exact List.mem_map.mp hmem

omit hc in
/-- A context of the later state is the changed one or one that stood. -/
theorem Device.Recorded.of_mem {x : Context} (hx : x ∈ (e.lane l).live) :
    x.ledger = k.ledger ∨ ∃ y ∈ (d.lane l).live, y.num ≠ n ∧ x.ledger = y.ledger := by
  have hmem : x.ledger ∈ (d.lane l).ledgersWith n k := he.own ▸ List.mem_map_of_mem hx
  obtain ⟨y, hy, heq⟩ := List.mem_map.mp hmem
  by_cases hyn : y.num = n
  · rw [if_pos hyn] at heq
    exact .inl heq.symm
  · rw [if_neg hyn] at heq
    exact .inr ⟨y, hy, hyn, heq.symm⟩

omit hc in
theorem Device.Recorded.mem_other {y : Context} (hy : y ∈ (d.lane l).live) (hyn : y.num ≠ n) : ∃ x ∈ (e.lane l).live, x.ledger = y.ledger := by
  have hmem : y.ledger ∈ (d.lane l).ledgersWith n k := List.mem_map.mpr ⟨y, hy, if_neg hyn⟩
  rw [← he.own] at hmem
  exact List.mem_map.mp hmem

include hnum

theorem Device.Recorded.seqs (hseq : k.seq = c.seq) : (e.lane l).live.map (fun c => c.seq) = (d.lane l).live.map fun c => c.seq := by
  have h := congrArg (List.map fun x : Fin 4 × Word16 × Fin 4 × CtxState × RegState × Nat × Nat × Option Word16 => x.2.1) he.own
  rw [Lane.ledgersWith, List.map_map, List.map_map] at h
  refine h.trans (List.map_congr_left fun x hx => ?_)
  rw [Function.comp_apply]
  split
  · next hxn =>
    rw [List.inj_on_of_nodup_map hnum hx (Lane.mem_of_ctx hc) (hxn.trans (Lane.num_of_ctx hc).symm)]
    exact hseq
  · rfl

/-- The accounting law after one context has changed and windows of its panel have come or gone. -/
theorem JointsAccounted.record (hd : JointsAccounted d) (hseq : k.seq = c.seq) (hslot : k.slot = c.slot)
    (hptr : c.pointer ≤ k.pointer) (sound : e.OpenSound)
    (flying : ∀ m q, ¬ (m = l ∧ q = c.seq) → e.flying m q = d.flying m q)
    (balanced : k.Balanced (d.jointCount c) (e.flying l c.seq)) (registers : ∀ m, (e.lane m).RegistersScanning e)
    (owner : ∀ w ∈ e.windowsInFlight,
      (∃ v ∈ d.windowsInFlight, v.key = w.key) ∨ (w.lane = l ∧ w.seq = c.seq ∧ w.joint < k.pointer)) : JointsAccounted e := by
  have hcmem := Lane.mem_of_ctx hc
  refine .intro (fun i => ?_) (fun m => ?_) sound registers (fun m x hx => ?_) fun w hw => ?_
  · rw [Device.slot, he.slots]
    exact hd.1 i
  · by_cases hm : m = l
    · rw [hm, Device.Recorded.seqs hnum hc he hseq]
      exact hd.seqs l
    · rw [Context.seqs_of_ledgers (he.other m hm)]
      exact hd.seqs m
  · by_cases hm : m = l
    · subst hm
      rcases he.of_mem hx with hk | ⟨y, hy, hyn, hxy⟩
      · obtain ⟨-, xseq, xslot, -⟩ := Context.fields_of_ledger hk
        rw [Device.jointCount_congr he.slots (xslot.trans hslot), xseq.trans hseq]
        exact balanced.congr hk
      · obtain ⟨-, xseq, xslot, -⟩ := Context.fields_of_ledger hxy
        have hne : y.seq ≠ c.seq := fun h =>
          hyn (List.inj_on_of_nodup_map (hd.seqs m) hy hcmem h ▸ Lane.num_of_ctx hc)
        rw [Device.jointCount_congr he.slots xslot, xseq, flying m y.seq fun h => hne h.2]
        exact (hd.balanced hy).congr hxy
    · obtain ⟨y, hy, hyx⟩ := Context.mem_of_ledgers (he.other m hm) hx
      obtain ⟨-, xseq, xslot, -⟩ := Context.fields_of_ledger hyx.symm
      rw [Device.jointCount_congr he.slots xslot, xseq, flying m y.seq fun h => hm h.1]
      exact (hd.balanced hy).congr hyx.symm
  · rcases owner w hw with ⟨v, hv, hkey⟩ | ⟨hlane, hwseq, hlt⟩
    · obtain ⟨hvlane, hvseq, hvjoint⟩ : v.lane = w.lane ∧ v.seq = w.seq ∧ v.joint = w.joint := by
        simpa only [Window.key, WindowKey.mk.injEq] using hkey
      obtain ⟨y, hy, hyseq, hylt⟩ := hd.owner hv
      rw [hvlane] at hy
      rw [← hvseq, ← hvjoint]
      by_cases hm : w.lane = l
      · rw [hm] at hy ⊢
        by_cases hyn : y.num = n
        · obtain ⟨x, hx, hxk⟩ := Device.Recorded.mem_own hc he
          obtain ⟨-, xseq, -, -, -, xptr, -⟩ := Context.fields_of_ledger hxk
          have hyc : y = c := List.inj_on_of_nodup_map hnum hy hcmem (hyn.trans (Lane.num_of_ctx hc).symm)
          rw [hyc] at hyseq hylt
          exact ⟨x, hx, by rw [xseq, hseq, hyseq], by rw [xptr]; exact Nat.lt_of_lt_of_le hylt hptr⟩
        · obtain ⟨x, hx, hxy⟩ := he.mem_other hy hyn
          obtain ⟨-, xseq, -, -, -, xptr, -⟩ := Context.fields_of_ledger hxy
          exact ⟨x, hx, by rw [xseq, hyseq], by rw [xptr]; exact hylt⟩
      · obtain ⟨x, hx, hxy⟩ := Context.mem_of_ledgers (he.other w.lane hm).symm hy
        obtain ⟨-, xseq, -, -, -, xptr, -⟩ := Context.fields_of_ledger hxy
        exact ⟨x, hx, by rw [xseq, hyseq], by rw [xptr]; exact hylt⟩
    · obtain ⟨x, hx, hxk⟩ := Device.Recorded.mem_own hc he
      obtain ⟨-, xseq, -, -, -, xptr, -⟩ := Context.fields_of_ledger hxk
      rw [hlane]
      exact ⟨x, hx, by rw [xseq, hseq, hwseq], by rw [xptr]; exact hlt⟩

/-- The panel under registration after one context has changed. -/
theorem Device.Recorded.registers (hd : JointsAccounted d)
    (hreg : ∀ m, (e.lane m).reg.map (fun r => r.ctx) = (d.lane m).reg.map fun r => r.ctx)
    (htag : ∀ m, (e.lane m).motion.tagCounter = (d.lane m).motion.tagCounter)
    (hk : ∀ r, (d.lane l).reg = some r → r.ctx = n → k.num = c.num ∧ k.slot = c.slot ∧ k.state = c.state ∧
      k.reg.state = c.reg.state ∧ k.firstTag = c.firstTag) (m : LaneId) : (e.lane m).RegistersScanning e := fun r hr => by
  have hmap := hreg m
  rw [hr, Option.map_some] at hmap
  obtain ⟨r', hr', hctx⟩ := Option.map_eq_some_iff.mp hmap.symm
  obtain ⟨y, hy, ynum, ystate, ypending, yline⟩ := hd.registers m r' hr'
  obtain ⟨x, hx, xnum, xslot, xstate, xreg, xtag⟩ : ∃ x ∈ (e.lane m).live, x.num = y.num ∧ x.slot = y.slot ∧
      x.state = y.state ∧ x.reg.state = y.reg.state ∧ x.firstTag = y.firstTag := by
    by_cases hm : m = l
    · subst hm
      by_cases hyn : y.num = n
      · obtain ⟨x, hx, hxk⟩ := Device.Recorded.mem_own hc he
        obtain ⟨xnum, -, xslot, xstate, xreg, -, -, xtag⟩ := Context.fields_of_ledger hxk
        obtain ⟨knum, kslot, kstate, kreg, ktag⟩ := hk r' hr' (ynum.symm.trans hyn)
        obtain rfl : y = c :=
          List.inj_on_of_nodup_map hnum hy (Lane.mem_of_ctx hc) (hyn.trans (Lane.num_of_ctx hc).symm)
        exact ⟨x, hx, by rw [xnum, knum], by rw [xslot, kslot], by rw [xstate, kstate], by rw [xreg, kreg], by rw [xtag, ktag]⟩
      · obtain ⟨x, hx, hxy⟩ := he.mem_other hy hyn
        obtain ⟨xnum, -, xslot, xstate, xreg, -, -, xtag⟩ := Context.fields_of_ledger hxy
        exact ⟨x, hx, xnum, xslot, xstate, xreg, xtag⟩
    · obtain ⟨x, hx, hxy⟩ := Context.mem_of_ledgers (he.other m hm).symm hy
      obtain ⟨xnum, -, xslot, xstate, xreg, -, -, xtag⟩ := Context.fields_of_ledger hxy
      exact ⟨x, hx, xnum, xslot, xstate, xreg, xtag⟩
  refine ⟨x, hx, by rw [xnum, ynum, hctx], by rw [xstate, ystate], by rw [xreg, ypending], ?_⟩
  unfold Context.lineOf Device.slot at yline ⊢
  rw [xtag, xslot, htag, he.slots]
  exact yline

end

end Sys2Proof.Machine


/-! # Keeping the crop slots (R99 to R102, R122, R170) -/

namespace Sys2Proof.Machine

theorem CropsAgree.length {d : Device} (h : CropsAgree d) : d.crops.length = 48 := h.1

/-- The crop-slot law reads the windows in flight, the crop slots and the crop queue alone. -/
theorem CropsAgree.of_same {d e : Device} (h : CropsAgree d) (windows : e.windowsInFlight = d.windowsInFlight)
    (crops : e.crops = d.crops) (queue : e.cropQueue = d.cropQueue) : CropsAgree e := by
  unfold CropsAgree at h ⊢
  rw [windows, crops, queue]
  exact h

/-- Windows that leave the flight, and crop slots freed: those of the windows gone and any that no window holds. -/
theorem CropsAgree.free {d e : Device} (h : CropsAgree d) {gone kept : List Window} (hd : d.windowsInFlight.Perm (gone ++ kept))
    (he : e.windowsInFlight.Perm kept) (F : Nat → Prop) [DecidablePred F] (hgone : ∀ w ∈ gone, ∀ i, w.crop = some i → F i)
    (hkept : ∀ w ∈ kept, ∀ i, w.crop = some i → ¬ F i) (hlen : e.crops.length = d.crops.length)
    (hcrops : ∀ i, e.crops[i]? = if F i then d.crops[i]?.map CropSlot.freed else d.crops[i]?)
    (hqueue : e.cropQueue = d.cropQueue.filter fun i => decide (¬ F i)) : CropsAgree e := by
  obtain ⟨hfull, hqnodup, hnodup, hwindows, hslots, hheld⟩ := h
  have hstands : ∀ {i : Nat}, ¬ F i → e.crops[i]? = d.crops[i]? := fun {i} hi => (hcrops i).trans (if_neg hi)
  refine ⟨hlen.trans hfull, hqueue ▸ hqnodup.filter _, ?_, fun w hw i hi => ?_, fun i x hx => ?_, fun i => ?_⟩
  · have hnodup' := ((hd.filterMap fun w => w.crop).nodup_iff.mp hnodup)
    rw [List.filterMap_append] at hnodup'
    exact (he.filterMap fun w => w.crop).nodup_iff.mpr hnodup'.of_append_right
  · have hwk : w ∈ kept := he.mem_iff.mp hw
    rw [hstands (hkept w hwk i hi)]
    exact hwindows w (hd.mem_iff.mpr (List.mem_append_right _ hwk)) i hi
  · by_cases hi : F i
    · rw [hcrops i, if_pos hi] at hx
      obtain ⟨y, -, rfl⟩ := Option.map_eq_some_iff.mp hx
      exact ⟨iff_of_true rfl rfl, nofun⟩
    · rw [hstands hi] at hx
      obtain ⟨hfree, hcap⟩ := hslots i x hx
      refine ⟨hfree, fun hs => ?_⟩
      obtain ⟨w, hw, hwi⟩ := hcap hs
      rcases List.mem_append.mp (hd.mem_iff.mp hw) with hwg | hwk
      · exact absurd (hgone w hwg i hwi) hi
      · exact ⟨w, he.mem_iff.mpr hwk, hwi⟩
  · rw [hqueue, List.mem_filter, hheld, decide_eq_true_eq]
    by_cases hi : F i
    · refine iff_of_false (fun hmem => hmem.2 hi) ?_
      rintro ⟨x, hx, hs⟩
      rw [hcrops i, if_pos hi] at hx
      obtain ⟨y, -, rfl⟩ := Option.map_eq_some_iff.mp hx
      cases hs
    · rw [hstands hi]
      exact and_iff_left hi

/-- Windows that leave the flight with the crop slots they held. -/
theorem CropsAgree.release {d e : Device} (h : CropsAgree d) {gone kept : List Window} (hd : d.windowsInFlight.Perm (gone ++ kept))
    (he : e.windowsInFlight.Perm kept) (hlen : e.crops.length = d.crops.length)
    (hcrops : ∀ i, e.crops[i]? = if ∃ w ∈ gone, w.crop = some i then d.crops[i]?.map CropSlot.freed else d.crops[i]?)
    (hqueue : e.cropQueue = d.cropQueue.filter fun i => decide (∀ w ∈ gone, w.crop ≠ some i)) : CropsAgree e := by
  refine h.free hd he (fun i => ∃ w ∈ gone, w.crop = some i) (fun w hw i hi => ⟨w, hw, hi⟩) (fun w hw i hi => ?_) hlen hcrops ?_
  · rintro ⟨v, hv, hvi⟩
    have hnodup := (hd.filterMap fun w => w.crop).nodup_iff.mp h.2.2.1
    rw [List.filterMap_append] at hnodup
    exact List.disjoint_of_nodup_append hnodup (List.mem_filterMap.mpr ⟨v, hv, hvi⟩) (List.mem_filterMap.mpr ⟨w, hw, hi⟩)
  · rw [hqueue]
    exact List.filter_congr fun i _ => by simp

/-- A window leaves the flight and its crop slot becomes Held, at the tail of the crop queue (R122). -/
theorem CropsAgree.hold {d e : Device} (h : CropsAgree d) {w : Window} {i : Nat} (hd : d.windowsInFlight.Perm (w :: e.windowsInFlight))
    (hi : w.crop = some i) (hlen : e.crops.length = d.crops.length)
    (hcrops : ∀ j, e.crops[j]? = if j = i then d.crops[j]?.map (fun x => { x with state := .held }) else d.crops[j]?)
    (hqueue : e.cropQueue = d.cropQueue ++ [i]) : CropsAgree e := by
  obtain ⟨hfull, hqnodup, hnodup, hwindows, hslots, hheld⟩ := h
  have hnodup' := (hd.filterMap fun w => w.crop).nodup_iff.mp hnodup
  rw [List.filterMap_cons, hi, List.nodup_cons] at hnodup'
  obtain ⟨hinot, hrest⟩ := hnodup'
  obtain ⟨y, hy, hcap, o, ho, -⟩ := hwindows w (hd.mem_iff.mpr (.head _)) i hi
  have hother : ∀ v ∈ e.windowsInFlight, ∀ j, v.crop = some j → j ≠ i := fun v hv j hj hji =>
    hinot (List.mem_filterMap.mpr ⟨v, hv, hji ▸ hj⟩)
  have hnotqueued : i ∉ d.cropQueue := fun hmem => by
    obtain ⟨x, hx, hs⟩ := (hheld i).mp hmem
    rw [hy, Option.some.injEq] at hx
    rw [← hx, hcap] at hs
    cases hs
  have hat : e.crops[i]? = some { y with state := .held } := by rw [hcrops, if_pos rfl, hy]; rfl
  refine ⟨hlen.trans hfull, ?_, hrest, fun v hv j hj => ?_, fun j x hx => ?_, fun j => ?_⟩
  · rw [hqueue, List.nodup_append]
    exact ⟨hqnodup, List.nodup_singleton i, fun a ha b hb => by
      rw [List.mem_singleton] at hb
      rintro rfl
      exact hnotqueued (hb ▸ ha)⟩
  · rw [hcrops, if_neg (hother v hv j hj)]
    exact hwindows v (hd.mem_iff.mpr (.tail _ hv)) j hj
  · by_cases hji : j = i
    · subst hji
      rw [hat, Option.some.injEq] at hx
      subst hx
      exact ⟨iff_of_false nofun (by rw [ho]; exact nofun), nofun⟩
    · rw [hcrops, if_neg hji] at hx
      obtain ⟨hfree, hcapj⟩ := hslots j x hx
      refine ⟨hfree, fun hs => ?_⟩
      obtain ⟨v, hv, hvj⟩ := hcapj hs
      rcases List.mem_cons.mp (hd.mem_iff.mp hv) with rfl | hv'
      · rw [hi, Option.some.injEq] at hvj
        exact absurd hvj.symm hji
      · exact ⟨v, hv', hvj⟩
  · rw [hqueue, List.mem_append, List.mem_singleton, hheld]
    by_cases hji : j = i
    · subst hji
      exact iff_of_true (.inr rfl) ⟨_, hat, rfl⟩
    · rw [hcrops, if_neg hji]
      exact or_iff_left hji

/-- A window joins the flight with no crop slot. -/
theorem CropsAgree.join {d e : Device} (h : CropsAgree d) {w : Window} (he : e.windowsInFlight.Perm (w :: d.windowsInFlight))
    (hw : w.crop = none) (crops : e.crops = d.crops) (queue : e.cropQueue = d.cropQueue) : CropsAgree e := by
  obtain ⟨hfull, hqnodup, hnodup, hwindows, hslots, hheld⟩ := h
  have hmem : ∀ v ∈ e.windowsInFlight, ∀ i, v.crop = some i → v ∈ d.windowsInFlight := fun v hv i hi => by
    rcases List.mem_cons.mp (he.mem_iff.mp hv) with rfl | hv'
    · rw [hw] at hi
      cases hi
    · exact hv'
  refine ⟨crops ▸ hfull, queue ▸ hqnodup, ?_, fun v hv i hi => ?_, fun i x hx => ?_, fun i => ?_⟩
  · have hcrops := he.filterMap fun w => w.crop
    rw [List.filterMap_cons, hw] at hcrops
    exact hcrops.nodup_iff.mpr hnodup
  · rw [crops]
    exact hwindows v (hmem v hv i hi) i hi
  · rw [crops] at hx
    obtain ⟨hfree, hcap⟩ := hslots i x hx
    refine ⟨hfree, fun hs => ?_⟩
    obtain ⟨v, hv, hvi⟩ := hcap hs
    exact ⟨v, he.mem_iff.mpr (.tail _ hv), hvi⟩
  · rw [queue, crops]
    exact hheld i

/-- A window joins the flight with a crop slot that was Free (R100). -/
theorem CropsAgree.take {d e : Device} (h : CropsAgree d) {w : Window} {i : Nat} {x : CropSlot} {o : CropOwner} {m : Memory}
    (he : e.windowsInFlight.Perm (w :: d.windowsInFlight)) (hw : w.crop = some i) (hi : d.crops[i]? = some x) (hx : x.state = .free)
    (ho : o.lane = w.lane) (crops : e.crops = d.crops.set i { state := .capturing, owner := some o, planes := m })
    (queue : e.cropQueue = d.cropQueue) : CropsAgree e := by
  obtain ⟨hfull, hqnodup, hnodup, hwindows, hslots, hheld⟩ := h
  have hlt : i < d.crops.length := (List.getElem?_eq_some_iff.mp hi).1
  have hat : e.crops[i]? = some { state := .capturing, owner := some o, planes := m } := by
    rw [crops, List.getElem?_set, if_pos rfl, if_pos hlt]
  have hne : ∀ {j : Nat}, j ≠ i → e.crops[j]? = d.crops[j]? := fun {j} hj => by
    rw [crops, List.getElem?_set, if_neg fun h => hj h.symm]
  have hother : ∀ v ∈ d.windowsInFlight, ∀ j, v.crop = some j → j ≠ i := fun v hv j hj hji => by
    obtain ⟨y, hy, hcap, -⟩ := hwindows v hv j hj
    rw [hji, hi, Option.some.injEq] at hy
    rw [← hy, hx] at hcap
    cases hcap
  refine ⟨by rw [crops, List.length_set]; exact hfull, queue ▸ hqnodup, ?_, fun v hv j hj => ?_, fun j y hy => ?_, fun j => ?_⟩
  · have hcrops := he.filterMap fun w => w.crop
    rw [List.filterMap_cons, hw] at hcrops
    refine hcrops.nodup_iff.mpr (List.nodup_cons.mpr ⟨fun hmem => ?_, hnodup⟩)
    obtain ⟨v, hv, hvi⟩ := List.mem_filterMap.mp hmem
    exact hother v hv i hvi rfl
  · rcases List.mem_cons.mp (he.mem_iff.mp hv) with rfl | hv'
    · rw [hw, Option.some.injEq] at hj
      exact ⟨_, hj ▸ hat, rfl, o, rfl, ho⟩
    · rw [hne (hother v hv' j hj)]
      exact hwindows v hv' j hj
  · by_cases hji : j = i
    · subst hji
      rw [hat, Option.some.injEq] at hy
      subst hy
      exact ⟨iff_of_false nofun nofun, fun _ => ⟨w, he.mem_iff.mpr (.head _), hw⟩⟩
    · rw [hne hji] at hy
      obtain ⟨hfree, hcap⟩ := hslots j y hy
      refine ⟨hfree, fun hs => ?_⟩
      obtain ⟨v, hv, hvj⟩ := hcap hs
      exact ⟨v, he.mem_iff.mpr (.tail _ hv), hvj⟩
  · rw [queue, hheld]
    by_cases hji : j = i
    · subst hji
      rw [hat]
      refine iff_of_false ?_ ?_
      · rintro ⟨y, hy, hs⟩
        rw [hi, Option.some.injEq] at hy
        rw [← hy, hx] at hs
        cases hs
      · rintro ⟨y, hy, hs⟩
        rw [Option.some.injEq] at hy
        rw [← hy] at hs
        cases hs
    · rw [hne hji]

end Sys2Proof.Machine


/-! # Keeping the books: decisions, retirement, the gate (R139 to R143, R150 to R152) -/

namespace Sys2Proof.Machine

/-! ## The laws together -/

/-- The books of a part with what they rest on. -/
structure Device.Booked (d : Device) : Prop where
  ordered : LanesOrdered d
  referenced : ReferencedSealed d
  joints : JointsAccounted d
  crops : CropsAgree d

/-- A change that keeps the books. -/
def Accounts (d e : Device) : Prop := d.Booked → e.Booked

theorem Accounts.of_keeps {d e : Device} (k : Keeps d e) (h : d.Booked → JointsAccounted e ∧ CropsAgree e) : Accounts d e :=
  fun hd => ⟨k.ordered hd.ordered, k.referenced hd.referenced, (h hd).1, (h hd).2⟩

theorem Accounts.of_books {d e : Device} (k : Keeps d e) (b : Books d e) : Accounts d e :=
  .of_keeps k fun hd => ⟨b.joints hd.joints, b.cropsAgree hd.joints.openSound hd.crops⟩

theorem Accounts.refl (d : Device) : Accounts d d := id

theorem Accounts.trans {d e f : Device} (h : Accounts d e) (k : Accounts e f) : Accounts d f := k ∘ h

theorem Accounts.after {d e f : Device} (k : Accounts e f) (h : Accounts d e) : Accounts d f := h.trans k

theorem Accounts.ite {d e f : Device} {P : Prop} [Decidable P] (h : P → Accounts d e) (k : ¬ P → Accounts d f) :
    Accounts d (if P then e else f) := by
  split
  · exact h ‹_›
  · exact k ‹_›

/-- What a change needs of the books may be taken from the books themselves. -/
theorem Accounts.of_booked {d e : Device} (h : d.Booked → Accounts d e) : Accounts d e := fun hd => h hd hd

theorem Device.Booked.nums {d : Device} (h : d.Booked) (l : LaneId) : ((d.lane l).live.map fun c => c.num).Nodup := (h.ordered.1 l).1

/-- In a lane whose contexts have different numbers each is found by its own. -/
theorem Lane.ctx_of_mem {L : Lane} (hnum : (L.live.map fun c => c.num).Nodup) {c : Context} (hc : c ∈ L.live) :
    L.ctx c.num = some c := by
  cases hx : L.ctx c.num with
  | none => exact absurd (List.find?_eq_none.mp hx c hc) (by simp)
  | some x => rw [List.inj_on_of_nodup_map hnum (Lane.mem_of_ctx hx) hc (Lane.num_of_ctx hx)]

theorem Device.Booked.ctx {d : Device} (h : d.Booked) {l : LaneId} {c : Context} (hc : c ∈ (d.lane l).live) :
    (d.lane l).ctx c.num = some c := Lane.ctx_of_mem (h.nums l) hc

/-! ## One context changes and no window -/

theorem Device.windowsInFlight_congr {d e : Device} (lists : ∀ l, (e.lane l).openList = (d.lane l).openList)
    (closeQueue : e.closeQueue = d.closeQueue) (evaluation : e.evaluation = d.evaluation) :
    e.windowsInFlight = d.windowsInFlight := by
  unfold Device.windowsInFlight
  rw [lists, lists, closeQueue, evaluation]

theorem Device.flying_congr {d e : Device} (h : e.windowsInFlight = d.windowsInFlight) (l : LaneId) (q : Word16) :
    e.flying l q = d.flying l q := by
  unfold Device.flying
  rw [h]

theorem Device.OpenSound.congr {d e : Device} (h : d.OpenSound) (lists : ∀ l, (e.lane l).openList = (d.lane l).openList) :
    e.OpenSound := h.of_marks fun l => by rw [lists]

theorem Device.modCtx_lane (d : Device) (l : LaneId) (n : Fin 4) (f : Context → Context) (m : LaneId) :
    (d.modCtx l n f).lane m = if m = l then (d.lane l).modCtx n f else d.lane m := d.lane_modLane_of l m _

theorem Device.modCtx_openList (d : Device) (l : LaneId) (n : Fin 4) (f : Context → Context) (m : LaneId) :
    ((d.modCtx l n f).lane m).openList = (d.lane m).openList := by
  rw [Device.modCtx_lane]
  split
  · next hm => rw [hm]; rfl
  · rfl

theorem Device.modCtx_windowsInFlight (d : Device) (l : LaneId) (n : Fin 4) (f : Context → Context) :
    (d.modCtx l n f).windowsInFlight = d.windowsInFlight := Device.windowsInFlight_congr (d.modCtx_openList l n f) rfl rfl

theorem CropsAgree.modCtx {d : Device} (h : CropsAgree d) (l : LaneId) (n : Fin 4) (f : Context → Context) :
    CropsAgree (d.modCtx l n f) := h.of_same (d.modCtx_windowsInFlight l n f) rfl rfl

theorem Device.modCtx_recorded {d : Device} {l : LaneId} {n : Fin 4} {c : Context}
    (hnum : ((d.lane l).live.map fun c => c.num).Nodup) (hc : (d.lane l).ctx n = some c) (f : Context → Context) :
    d.Recorded l n (f c) (d.modCtx l n f) where
  slots := rfl
  own := by
    rw [Device.modCtx_lane, if_pos rfl]
    exact Lane.ledgersWith_eq hnum hc f
  other m hm := by rw [Device.modCtx_lane, if_neg hm]

theorem Device.retireNow_windowsInFlight (d : Device) (l : LaneId) (n : Fin 4) :
    (d.retireNow l n).windowsInFlight = d.windowsInFlight := by
  refine Device.windowsInFlight_congr (fun m => ?_) (by simp) (by simp)
  rw [Device.retireNow_lane]
  split
  · next hm => rw [hm]; rfl
  · rfl

/-- Once every joint is counted none of the panel's windows is in flight. -/
theorem Context.Balanced.none_flying {joints windows : Nat} {c : Context} (h : c.Balanced joints windows)
    (hall : c.accounted = joints) : windows = 0 := by
  obtain ⟨hle, hsum, -⟩ := h
  omega

theorem Device.ne_of_none_flying {d : Device} {l : LaneId} {q : Word16} (hzero : d.flying l q = 0) {w : Window}
    (hw : w ∈ d.windowsInFlight) (hl : w.lane = l) : w.seq ≠ q := fun hq => by
  have := List.countP_eq_zero.mp hzero w hw
  simp [hl, hq] at this

section
variable {d : Device} {l : LaneId} {n : Fin 4} {c : Context} (hnum : ((d.lane l).live.map fun c => c.num).Nodup)
  (hc : (d.lane l).ctx n = some c) (hd : JointsAccounted d)
include hnum hc hd

/-- The panel under registration is the lane's Scanning one, Pending and not past its deadline. -/
theorem JointsAccounted.of_reg {r : Registration} (hr : (d.lane l).reg = some r) (hn : r.ctx = n) :
    c.state = .scanning ∧ c.reg.state = .pending ∧
      c.lineOf (d.lane l).motion.tagCounter ≤ (d.slot c.slot).hdr.zone.toNat + 64 := by
  obtain ⟨y, hy, ynum, ystate, ypending, yline⟩ := hd.registers l r hr
  obtain rfl : y = c :=
    List.inj_on_of_nodup_map hnum hy (Lane.mem_of_ctx hc) ((ynum.trans hn).trans (Lane.num_of_ctx hc).symm)
  exact ⟨ystate, ypending, yline⟩

theorem JointsAccounted.modCtx {f : Context → Context} (hseq : (f c).seq = c.seq) (hslot : (f c).slot = c.slot)
    (hptr : c.pointer ≤ (f c).pointer)
    (balanced : ∀ windows, c.Balanced (d.jointCount c) windows → (f c).Balanced (d.jointCount c) windows)
    (hreg : ∀ r, (d.lane l).reg = some r → r.ctx = n → (f c).num = c.num ∧ (f c).slot = c.slot ∧ (f c).state = c.state ∧
      (f c).reg.state = c.reg.state ∧ (f c).firstTag = c.firstTag) : JointsAccounted (d.modCtx l n f) := by
  have he := Device.modCtx_recorded hnum hc f
  have hfly := Device.flying_congr (d.modCtx_windowsInFlight l n f)
  have hunit : ∀ m, ((d.modCtx l n f).lane m).reg.map (fun r => r.ctx) = (d.lane m).reg.map (fun r => r.ctx) ∧
      ((d.modCtx l n f).lane m).motion.tagCounter = (d.lane m).motion.tagCounter := fun m => by
    rw [Device.modCtx_lane]
    split
    · next hm => rw [hm]; exact ⟨rfl, rfl⟩
    · exact ⟨rfl, rfl⟩
  refine .record hnum hc he hd hseq hslot hptr (hd.openSound.congr (d.modCtx_openList l n f)) (fun m q _ => hfly m q) ?_
    (he.registers hnum hc hd (fun m => (hunit m).1) (fun m => (hunit m).2) hreg) fun w hw => .inl ⟨w, ?_, rfl⟩
  · rw [hfly]
    exact balanced _ (hd.balanced (Lane.mem_of_ctx hc))
  · rwa [d.modCtx_windowsInFlight] at hw

/-- A context that is not Scanning changes with no regard to the registration unit. -/
theorem JointsAccounted.modCtx_of_state {f : Context → Context} (hs : c.state ≠ .scanning) (hseq : (f c).seq = c.seq)
    (hslot : (f c).slot = c.slot) (hptr : c.pointer ≤ (f c).pointer)
    (balanced : ∀ windows, c.Balanced (d.jointCount c) windows → (f c).Balanced (d.jointCount c) windows) :
    JointsAccounted (d.modCtx l n f) :=
  .modCtx hnum hc hd hseq hslot hptr balanced fun _ hr hn => absurd (hd.of_reg hnum hc hr hn).1 hs

/-- A context that has counted every joint leaves. -/
theorem JointsAccounted.retireNow (hs : c.state ≠ .scanning) (hall : c.accounted = d.jointCount c) :
    JointsAccounted (d.retireNow l n) := by
  have hzero := (hd.balanced (Lane.mem_of_ctx hc)).none_flying hall
  have hlane := fun m => d.retireNow_lane l m n
  have hsame : ∀ m, ((d.retireNow l n).lane m).openList = (d.lane m).openList ∧ ((d.retireNow l n).lane m).reg = (d.lane m).reg ∧
      ((d.retireNow l n).lane m).motion = (d.lane m).motion := fun m => by
    rw [hlane]
    split
    · next hm => rw [hm]; exact ⟨rfl, rfl, rfl⟩
    · exact ⟨rfl, rfl, rfl⟩
  have hsub : ∀ m, ((d.retireNow l n).lane m).live.Sublist (d.lane m).live := fun m => by
    rw [hlane]
    split
    · next hm => rw [hm]; exact List.filter_sublist
    · exact .refl _
  have hstays : ∀ {m : LaneId} {y : Context}, y ∈ (d.lane m).live → (m = l → y.num ≠ n) → y ∈ ((d.retireNow l n).lane m).live := by
    intro m y hy hyn
    rw [hlane]
    split
    · next hm => exact Lane.mem_dropCtx.mpr ⟨hm ▸ hy, hyn hm⟩
    · exact hy
  have hwindows := d.retireNow_windowsInFlight l n
  have hcount : ∀ y, (d.retireNow l n).jointCount y = d.jointCount y := fun y => Device.jointCount_congr (by simp) rfl
  refine .intro (fun i => ?_) (fun m => ((hsub m).map _).nodup (hd.seqs m)) (hd.openSound.congr fun m => (hsame m).1)
    (fun m r hr => ?_) (fun m y hy => ?_) fun w hw => ?_
  · rw [Device.slot, Device.retireNow_slots]
    exact hd.1 i
  · rw [(hsame m).2.1] at hr
    obtain ⟨y, hy, ynum, ystate, ypending, yline⟩ := hd.registers m r hr
    refine ⟨y, hstays hy fun hm hyn => ?_, ynum, ystate, ypending, ?_⟩
    · subst hm
      exact hs (hd.of_reg hnum hc hr (ynum.symm.trans hyn)).1
    · rw [(hsame m).2.2, Device.slot, Device.retireNow_slots]
      exact yline
  · rw [hcount, Device.flying_congr hwindows]
    exact hd.balanced ((hsub m).subset hy)
  · rw [hwindows] at hw
    obtain ⟨y, hy, hyq, hlt⟩ := hd.owner hw
    refine ⟨y, hstays hy fun hm hyn => ?_, hyq, hlt⟩
    subst hm
    obtain rfl : y = c := List.inj_on_of_nodup_map hnum hy (Lane.mem_of_ctx hc) (hyn.trans (Lane.num_of_ctx hc).symm)
    exact Device.ne_of_none_flying hzero hw rfl hyq.symm

end

/-! ## Retirement and the decision (R139, R140, R142) -/

/-- A change of one context from a state that is not Scanning. -/
theorem Accounts.modCtx {d : Device} {l : LaneId} {n : Fin 4} {c : Context} (hc : (d.lane l).ctx n = some c) {f : Context → Context}
    (k : Keeps d (d.modCtx l n f)) (hs : c.state ≠ .scanning) (hseq : (f c).seq = c.seq) (hslot : (f c).slot = c.slot)
    (hptr : c.pointer ≤ (f c).pointer)
    (balanced : ∀ windows, c.Balanced (d.jointCount c) windows → (f c).Balanced (d.jointCount c) windows) :
    Accounts d (d.modCtx l n f) :=
  .of_keeps k fun hd => ⟨.modCtx_of_state (hd.nums l) hc hd.joints hs hseq hslot hptr balanced, hd.crops.modCtx l n f⟩

theorem Books.setRetireOrder (d : Device) (rs : List (LaneId × Fin 4)) : Books d { d with retireOrder := rs } :=
  .of_lanes (fun _ => .refl _) rfl rfl rfl rfl rfl

theorem CropsAgree.retireNow {d : Device} (h : CropsAgree d) (l : LaneId) (n : Fin 4) : CropsAgree (d.retireNow l n) :=
  h.of_same (d.retireNow_windowsInFlight l n) (by simp) (by simp)

/-- A decided or passed context that has counted every joint retires (R142). -/
theorem Accounts.retire {d : Device} {l : LaneId} {n : Fin 4} {c : Context} (hc : (d.lane l).ctx n = some c)
    (hs : c.state ≠ .scanning ∧ c.state ≠ .retiring) (hall : c.accounted = d.jointCount c) : Accounts d (d.retire l n) := by
  refine .of_keeps (.retire (Device.states_of_ctx hc) hs) fun hd => ?_
  unfold Device.retire
  split
  · exact ⟨.retireNow (hd.nums l) hc hd.joints hs.1 hall, hd.crops.retireNow l n⟩
  · have hmod : JointsAccounted (d.modCtx l n fun x => { x with state := .retiring }) :=
      .modCtx_of_state (hd.nums l) hc hd.joints hs.1 rfl rfl (Nat.le_refl _) fun _ h =>
        ⟨h.1, h.2.1, nofun, by simp, fun _ => hall⟩
    have hbook := Books.setRetireOrder (d.modCtx l n fun x => { x with state := .retiring }) (d.retireOrder ++ [(l, n)])
    exact ⟨hbook.joints hmod, hbook.cropsAgree hmod.openSound (hd.crops.modCtx l n _)⟩

theorem Books.noteDecision (d : Device) (l : LaneId) (dec : Decision) : Books d (d.noteDecision l dec) :=
  .ite (fun _ => .raiseLane d l _) fun _ => .refl d

theorem Keeps.noteDecision (d : Device) (l : LaneId) (dec : Decision) : Keeps d (d.noteDecision l dec) :=
  .ite (fun _ => .raiseLane d l _) fun _ => .refl d

theorem Accounts.noteDecision (d : Device) (l : LaneId) (dec : Decision) : Accounts d (d.noteDecision l dec) :=
  .of_books (.noteDecision d l dec) (.noteDecision d l dec)

theorem Accounts.tryDecide (d : Device) (l : LaneId) (n : Fin 4) : Accounts d (d.tryDecide l n) := by
  cases hc : (d.lane l).ctx n with
  | none =>
    simp only [Device.tryDecide, hc]
    exact .refl d
  | some c =>
    by_cases hall : c.accounted = d.jointCount c
    · by_cases hsettling : c.state = .settling
      · rw [Device.tryDecide_of_settling hc hall hsettling]
        refine .after (.noteDecision _ l _) (.modCtx hc ?_ (by simp [hsettling]) rfl rfl (Nat.le_refl _) fun _ h =>
          ⟨h.1, h.2.1, nofun, by simp, fun _ => hall⟩)
        exact .modCtx_state (d.states_of_ctx hc) (fun _ => rfl) (fun _ => rfl) (by simp [hsettling]) (by simp)
      · by_cases hpassed : c.state = .passed
        · rw [Device.tryDecide_of_passed hc hall hpassed]
          have hwritten := d.ctx_of_decision_written (d.decision c) hc
          refine .after (.retire hwritten (by simp [hpassed]) ?_) (.after (.noteDecision _ l _)
            (.of_books (.modCtx d l n (fun _ => rfl) (fun _ => rfl) fun _ => rfl) (.modCtx d l n fun _ => rfl)))
          refine Eq.trans hall (Device.jointCount_congr ?_ rfl).symm
          unfold Device.noteDecision
          split <;> rfl
        · rw [Device.tryDecide_of_other_state hc ⟨hsettling, hpassed⟩]
          exact .refl d
    · rw [Device.tryDecide_of_not_accounted hc hall]
      exact .refl d

/-! ## The gate (R141, R149 to R152) -/

theorem Accounts.modCtx_ledger (d : Device) (l : LaneId) (n : Fin 4) {f : Context → Context} (h : ∀ c, (f c).ledger = c.ledger) :
    Accounts d (d.modCtx l n f) :=
  .of_books (.modCtx d l n (fun c => (Context.fields_of_ledger (h c)).1) (fun c => (Context.fields_of_ledger (h c)).2.2.1)
    fun c => (Context.fields_of_ledger (h c)).2.2.2.1) (.modCtx d l n h)

theorem Accounts.raiseLane (d : Device) (l : LaneId) (c : LaneCond) : Accounts d (d.raiseLane l c) :=
  .of_books (.raiseLane d l c) (.raiseLane d l c)

theorem Accounts.fault (d : Device) (l : LaneId) (k : FaultKind) : Accounts d (d.fault l k) :=
  .of_books (.fault d l k) (.fault d l k)

theorem Accounts.gateAct {d : Device} {l : LaneId} {c : Context} (code : Decision) (hc : (d.lane l).ctx c.num = some c) :
    Accounts d (d.gateAct l c code) := by
  cases hs : c.state with
  | decided =>
    simp only [Device.gateAct, hs]
    refine .of_booked fun hd => ?_
    have hall : c.accounted = d.jointCount c := (hd.joints.balanced (Lane.mem_of_ctx hc)).2.2.2.2 (.inl hs)
    refine .after (.retire (d.ctx_modCtx hc _ fun _ => rfl) ?_ hall) (.modCtx_ledger d l _ fun _ => rfl)
    exact ⟨fun h => by simp [hs] at h, fun h => by simp [hs] at h⟩
  | settling =>
    simp only [Device.gateAct, hs]
    refine .after (.raiseLane _ l _) (.modCtx hc ?_ (by simp [hs]) rfl rfl (Nat.le_refl _) fun _ h =>
      ⟨h.1, h.2.1, nofun, by simp, by simp⟩)
    exact .modCtx_state (Device.states_of_ctx hc) (fun _ => rfl) (fun _ => rfl) (by simp [hs]) (by simp)
  | waiting | scanning =>
    simp only [Device.gateAct, hs]
    exact .after (.raiseLane _ l _) (.modCtx_ledger d l _ fun _ => rfl)
  | passed | retiring =>
    simp only [Device.gateAct, hs]
    exact .refl d

theorem Accounts.gateArrival (d : Device) (l : LaneId) : Accounts d (d.gateArrival l) := by
  cases hq : (d.lane l).gate.queue with
  | nil =>
    simp only [Device.gateArrival, hq]
    exact .refl d
  | cons e rest =>
    have hpassed : Accounts d (d.setLane l { d.lane l with
        gate := { (d.lane l).gate with queue := rest, divert := (d.lane l).effectiveCode e } }) :=
      .of_books (.setLane d l (.setGate _ fun h => by rw [hq] at h; exact Nat.le_of_succ_le h)) (.setLane d l ⟨rfl, rfl, rfl, rfl⟩)
    simp only [Device.gateArrival, hq]
    split
    · exact hpassed
    · next c hc =>
      refine hpassed.trans (.gateAct _ ?_)
      rw [Device.lane_setLane]
      exact (Lane.ctx_of_entryCtx hc :)

theorem Accounts.gateArrivals (l : LaneId) (fuel : Nat) (d : Device) : Accounts d (Device.gateArrivals l fuel d) := by
  induction fuel generalizing d with
  | zero => exact .refl d
  | succ fuel ih => exact .ite (fun _ => (Accounts.gateArrival d l).trans (ih _)) fun _ => .refl d

end Sys2Proof.Machine


/-! # Keeping the books: the registration unit and the end of a scan (R37, R38, R75 to R79, R136 to R138) -/

namespace Sys2Proof.Machine

/-! ## The registration unit (R71, R75 to R79) -/

/-- A change that leaves contexts and windows keeps the accounting law where the registration unit's part of it holds. -/
theorem JointsAccounted.of_units {d e : Device} (hd : JointsAccounted d) (slots : e.slots = d.slots)
    (live : ∀ m, (e.lane m).live = (d.lane m).live) (lists : ∀ m, (e.lane m).openList = (d.lane m).openList)
    (closeQueue : e.closeQueue = d.closeQueue) (evaluation : e.evaluation = d.evaluation)
    (registers : ∀ m, (e.lane m).RegistersScanning e) : JointsAccounted e := by
  have hwindows := Device.windowsInFlight_congr lists closeQueue evaluation
  refine .intro (fun i => ?_) (fun m => ?_) (hd.openSound.congr lists) registers (fun m c hc => ?_) fun w hw => ?_
  · rw [Device.slot, slots]
    exact hd.1 i
  · rw [live]
    exact hd.seqs m
  · rw [Device.jointCount_congr slots rfl, Device.flying_congr hwindows]
    exact hd.balanced (live m ▸ hc)
  · rw [live]
    exact hd.owner (hwindows ▸ hw)

/-- A lane with its registration unit free keeps the accounting law, whatever its motion unit does. -/
theorem JointsAccounted.freeUnit {d : Device} (hd : JointsAccounted d) (l : LaneId) {L : Lane} (hlive : L.live = (d.lane l).live)
    (hopen : L.openList = (d.lane l).openList) (hreg : L.reg = none) : JointsAccounted (withLane d l L) := by
  refine hd.of_units rfl (fun m => ?_) (fun m => ?_) rfl rfl fun m => ?_
  all_goals by_cases hm : m = l
  · rw [hm, lane_withLane, hlive]
  · rw [lane_withLane_of_ne d L hm]
  · rw [hm, lane_withLane, hopen]
  · rw [lane_withLane_of_ne d L hm]
  · rw [hm, lane_withLane]
    exact Lane.registersScanning_of_none hreg _
  · rw [lane_withLane_of_ne d L hm]
    exact hd.registers m

theorem Device.unitFreed_withLane (d : Device) (l : LaneId) (L : Lane) (n : Fin 4) (f : Context → Context) :
    (withLane d l L).unitFreed l n f = (withLane d l { L with reg := none }).modCtx l n f := by
  have hset : ∀ (e : Device) (M : Lane), e.setLane l M = withLane e l M := fun _ _ => rfl
  unfold Device.unitFreed Device.modCtx Device.modLane
  rw [hset, lane_withLane, lane_withLane, withLane_withLane, withLane_withLane]
  rfl

theorem Context.recordFailed_accounted (r : Registration) (st : RegState) (joints : Nat) (c : Context) :
    (c.recordFailed r st joints).accounted = c.accounted + joints := by
  simp only [Context.recordFailed, Context.recordReg, Context.accounted, Context.unjudged]
  omega

/-- A registration ends with its panel Scanning, Pending and none of its joints scheduled. -/
theorem JointsAccounted.endRegistration {d : Device} {l : LaneId} {c : Context} {r : Registration} (hd : JointsAccounted d)
    (hnum : ((d.lane l).live.map fun c => c.num).Nodup) (hc : (d.lane l).ctx r.ctx = some c) (hs : c.state = .scanning)
    (hpending : c.reg.state = .pending) {L : Lane} (hlive : L.live = (d.lane l).live) (hopen : L.openList = (d.lane l).openList)
    (st : RegState) : JointsAccounted ((withLane d l L).endRegistration l r st) := by
  have hcL : L.ctx r.ctx = some c := by rw [Lane.ctx, hlive]; exact hc
  have hfree : JointsAccounted (withLane d l { L with reg := none }) := hd.freeUnit l hlive hopen rfl
  have hmod : ∀ f : Context → Context, (f c).seq = c.seq → (f c).slot = c.slot → c.pointer ≤ (f c).pointer →
      (∀ windows, c.Balanced (d.jointCount c) windows → (f c).Balanced (d.jointCount c) windows) →
        JointsAccounted ((withLane d l L).unitFreed l r.ctx f) := fun f hseq hslot hptr hbal => by
    rw [Device.unitFreed_withLane]
    refine .modCtx (by rw [lane_withLane]; exact hlive ▸ hnum) (by rw [lane_withLane]; exact hcL) hfree hseq hslot hptr hbal
      fun r hr => ?_
    rw [lane_withLane] at hr
    cases hr
  have hzero : c.pointer = 0 := (hd.balanced (Lane.mem_of_ctx hc)).2.2.2.1 (.inr hs) hpending
  have hkept : (∀ x : RegCause, st ≠ .failed x) → JointsAccounted ((withLane d l L).endRegistration l r st) := fun hst => by
    rw [Device.endRegistration_of_kept _ l r hst]
    exact hmod _ rfl rfl (Nat.le_refl _) fun _ h =>
      ⟨h.1, h.2.1, fun hw => absurd (hs.symm.trans hw) nofun, fun _ _ => hzero, h.2.2.2.2⟩
  cases st with
  | pending | found => exact hkept nofun
  | failed x =>
    rw [Device.endRegistration_of_failed (by rw [lane_withLane]; exact hcL) x]
    have hstate : ¬ (c.state = .decided ∨ c.state = .retiring) := by simp [hs]
    refine (Books.raiseLane _ l _).joints (hmod _ rfl rfl (hzero ▸ Nat.zero_le _) fun windows ⟨_, hsum, _⟩ =>
      ⟨Nat.le_refl _, ?_, fun hw => absurd (hs.symm.trans hw) nofun, nofun, fun hw => absurd hw hstate⟩)
    rw [Context.recordFailed_accounted]
    show windows + (c.accounted + d.jointCount c) = d.jointCount c
    omega

theorem CropsAgree.endRegistration {d : Device} (h : CropsAgree d) (l : LaneId) (r : Registration) (st : RegState) :
    CropsAgree (d.endRegistration l r st) := by
  have hkept : (d.endRegistration l r st).closeQueue = d.closeQueue ∧ (d.endRegistration l r st).evaluation = d.evaluation ∧
      (d.endRegistration l r st).crops = d.crops ∧ (d.endRegistration l r st).cropQueue = d.cropQueue := by
    cases st <;> exact ⟨rfl, rfl, rfl, rfl⟩
  refine h.of_same (Device.windowsInFlight_congr (fun m => ?_) hkept.1 hkept.2.1) hkept.2.2.1 hkept.2.2.2
  obtain ⟨reg, live, hlane⟩ := d.endRegistration_lane l r st m
  rw [hlane]

theorem Accounts.registerItem (d : Device) (l : LaneId) (p : LocalPort) (x : Item) : Accounts d (d.registerItem l p x) := by
  refine .of_keeps (.registerItem d l p x) fun hd => ?_
  cases hr : (d.lane l).reg with
  | none => rw [Device.registerItem_of_none hr]; exact ⟨hd.joints, hd.crops⟩
  | some r =>
    by_cases hseq : x.seq = r.seq
    · obtain ⟨c, hc, hn, hs, hpending, -⟩ := hd.joints.registers l r hr
      have hctx : (d.lane l).ctx r.ctx = some c := hn ▸ hd.ctx hc
      rw [Device.registerItem_of_own hr hctx hseq]
      split
      · refine ⟨?_, hd.crops.endRegistration l _ _⟩
        have hend := hd.joints.endRegistration (r := d.offered c r p x) (hd.nums l) hctx hs hpending rfl rfl
          (combine (d.slot c.slot).hdr (d.offered c r p x).accumulators)
        rwa [withLane_self] at hend
      · have hbook : Books d (withLane d l { d.lane l with reg := some (d.offered c r p x) }) :=
          .setLane d l ⟨rfl, rfl, by rw [hr]; rfl, rfl⟩
        exact ⟨hbook.joints hd.joints, hbook.cropsAgree hd.joints.openSound hd.crops⟩
    · rw [Device.registerItem_of_other hr hseq]
      exact ⟨hd.joints, hd.crops⟩

/-! ## The end of a scan (R37, R129, R138) -/

theorem Device.settleCtx_enterReady (d : Device) (l : LaneId) (n : Fin 4) :
    (d.settleCtx l n).modLane l Lane.enterReady = d.modLane l fun L => (L.modCtx n Context.settle).enterReady := by
  rw [Device.settleCtx_eq]
  unfold Device.modCtx Device.modLane
  rw [Device.lane_setLane, Device.setLane, Device.setLane, Device.setLane, PerLane.set_set]

/-- Out of Waiting and Scanning a context owes less. -/
theorem Context.Balanced.settle {joints windows : Nat} {c : Context} (hle : c.pointer ≤ joints)
    (hsum : windows + c.accounted = c.pointer) : c.settle.Balanced joints windows := by
  refine ⟨hle, hsum, fun hw => ?_, fun hw => ?_, fun hw => ?_⟩
  all_goals rcases c.settle_state with h | h <;> simp [h] at hw

theorem Accounts.leaveScanning {d : Device} {l : LaneId} {n : Fin 4} (hs : (n, .scanning) ∈ d.states l)
    (hreg : (d.lane l).reg = none) : Accounts d (d.leaveScanning l n) := by
  obtain ⟨c, hc, hcs⟩ := List.mem_map.mp hs
  obtain ⟨rfl, hstate⟩ := Prod.mk.inj hcs
  rw [Device.leaveScanning_eq]
  refine .after (.tryDecide _ l _) (.of_keeps (.modLane d l (.leaveScanning ⟨c, hc, rfl, hstate⟩)) fun hd => ?_)
  rw [← Device.settleCtx_enterReady]
  have hbook : Books (d.settleCtx l c.num) ((d.settleCtx l c.num).modLane l Lane.enterReady) := .modLane _ l (.enterReady _)
  have hsettled : JointsAccounted (d.settleCtx l c.num) :=
    .modCtx (f := Context.settle) (hd.nums l) (hd.ctx hc) hd.joints rfl rfl (Nat.le_refl _) (fun _ h => .settle h.1 h.2.1)
      fun r hr => by rw [hreg] at hr; cases hr
  exact ⟨hbook.joints hsettled, hbook.cropsAgree hsettled.openSound (hd.crops.modCtx l _ _)⟩

/-! ## A scan start that is not taken (R136, R137) -/

theorem Context.abortAtStart_accounted {a : AbortCause} (ha : a = .overlap ∨ a = .warmup) (joints : Nat) (c : Context) :
    (c.abortAtStart a joints).accounted = c.accounted + joints := by
  have hwrite : (c.writeAbort a).accounted = c.accounted ∧ (c.writeAbort a).pass = c.pass ∧ (c.writeAbort a).marginal = c.marginal ∧
      (c.writeAbort a).defect = c.defect ∧ (c.writeAbort a).causes = c.causes := by
    unfold Context.writeAbort
    split <;> exact ⟨rfl, rfl, rfl, rfl, rfl⟩
  obtain ⟨-, hpass, hmarginal, hdefect, hcauses⟩ := hwrite
  rcases ha with rfl | rfl <;>
    · simp only [Context.abortAtStart, Context.accounted, Context.unjudged, hpass, hmarginal, hdefect, hcauses]
      omega

theorem Context.abortAtStart_fields (a : AbortCause) (joints : Nat) (c : Context) :
    (c.abortAtStart a joints).seq = c.seq ∧ (c.abortAtStart a joints).slot = c.slot ∧ (c.abortAtStart a joints).pointer = joints := by
  unfold Context.abortAtStart Context.writeAbort
  split <;> exact ⟨rfl, rfl, rfl⟩

theorem Accounts.abortAtStart {d : Device} {l : LaneId} {c : Context} (hc : c ∈ (d.lane l).live) (hs : c.state = .waiting)
    {a : AbortCause} (ha : a = .overlap ∨ a = .warmup) :
    Accounts d ((d.modCtx l c.num (Context.abortAtStart a (d.jointCount c))).settleCtx l c.num) := by
  refine .of_booked fun hd => .of_keeps (.abortAtStart (hs ▸ Device.states_of_mem hc) a _) fun _ => ?_
  rw [Device.abortAtStart_settled]
  obtain ⟨hseq, hslot, hptr⟩ := c.abortAtStart_fields a (d.jointCount c)
  have hzero : c.pointer = 0 := by
    have hbal := hd.joints.balanced hc
    exact hbal.2.2.2.1 (.inl hs) (hbal.2.2.1 hs)
  refine ⟨.modCtx_of_state (hd.nums l) (hd.ctx hc) hd.joints (by simp [hs]) hseq hslot ?_ fun windows ⟨_, hsum, _⟩ => .settle ?_ ?_,
    hd.crops.modCtx l _ _⟩
  · rw [hzero]
    exact Nat.zero_le _
  · exact Nat.le_of_eq hptr
  · rw [Context.abortAtStart_accounted ha, hptr]
    omega

theorem Accounts.abortWarmup {d : Device} {l : LaneId} {c : Context} (hc : c ∈ (d.lane l).live) (hs : c.state = .waiting) :
    Accounts d (d.abortWarmup l c) :=
  .after (.tryDecide _ l _) (.after (.fault _ l _) (.abortAtStart hc hs (.inr rfl)))

theorem Accounts.abortOverlap {d : Device} {l : LaneId} {c : Context} (hc : c ∈ (d.lane l).live) (hs : c.state = .waiting) :
    Accounts d (d.abortOverlap l c) :=
  .after (.tryDecide _ l _) (.after (.raiseLane _ l _) (.abortAtStart hc hs (.inl rfl)))

end Sys2Proof.Machine


/-! # Keeping the books: the window scheduler (R83, R85 to R87, R98 to R100) -/

namespace Sys2Proof.Machine

/-! ## A window opens -/

/-- The windows in flight that are not in a lane's open list. -/
def Device.beyondList (d : Device) (l : LaneId) : List Window :=
  (match l with | .a => d.lane .b | .b => d.lane .a).openList ++ d.closeQueue ++ d.evaluation.toList

theorem Device.windowsInFlight_split (d : Device) (l : LaneId) : d.windowsInFlight.Perm ((d.lane l).openList ++ d.beyondList l) := by
  refine List.perm_iff_count.mpr fun v => ?_
  unfold Device.windowsInFlight Device.beyondList
  cases l <;> (simp only [List.count_append]; omega)

theorem Device.beyondList_congr {d e : Device} {l : LaneId} (lists : ∀ m, m ≠ l → (e.lane m).openList = (d.lane m).openList)
    (closeQueue : e.closeQueue = d.closeQueue) (evaluation : e.evaluation = d.evaluation) : e.beyondList l = d.beyondList l := by
  unfold Device.beyondList
  rw [closeQueue, evaluation]
  cases l with
  | a => rw [lists .b nofun]
  | b => rw [lists .a nofun]

theorem insertWindow_perm (w : Window) (ws : List Window) : (insertWindow w ws).Perm (w :: ws) := by
  obtain ⟨before, after, hinsert, hws, -⟩ := insertWindow_split w ws
  rw [hinsert, hws]
  exact List.perm_middle

/-- The window that a joint opens, with its crop slot. -/
def Device.windowFor (d : Device) (l : LaneId) (c : Context) (e : JointEntry) (dx dy : Int) : Window :=
  { openedWindow l c e dx dy with crop := d.cropFor e }

section
variable {d : Device} {l : LaneId} {c : Context} (e : JointEntry) (dx dy : Int)

theorem Device.scheduleJoint_room_lane (hroom : (d.lane l).openList.length < 512) (m : LaneId) :
    (d.scheduleJoint l c e dx dy).lane m =
      if m = l then { (d.lane l).modCtx c.num (Context.noteOpened (if e.crop = 1 ∧ d.cropFor e = none then 1 else 0)) with
        openList := insertWindow (d.windowFor l c e dx dy) (d.lane l).openList }
      else d.lane m := by
  rw [Device.scheduleJoint_of_room c e dx dy hroom, Device.modCtx_lane, Device.lane_modLane, Device.lane_modLane_of]
  simp only [Device.takeCropIf_lane]
  split <;> rfl

theorem Device.scheduleJoint_room_kept (hroom : (d.lane l).openList.length < 512) :
    (d.scheduleJoint l c e dx dy).closeQueue = d.closeQueue ∧ (d.scheduleJoint l c e dx dy).evaluation = d.evaluation ∧
      (d.scheduleJoint l c e dx dy).cropQueue = d.cropQueue ∧ (d.scheduleJoint l c e dx dy).crops =
        (d.cropFor e).elim d.crops fun i =>
          d.crops.set i { state := .capturing, owner := some (d.windowFor l c e dx dy).owner, planes := [] } := by
  rw [Device.scheduleJoint_of_room c e dx dy hroom]
  have htake : ∀ {α : Type} (g : Device → α), (∀ i, g (d.takeCrop (openedWindow l c e dx dy) i) = g d) →
      g (d.takeCropIf (openedWindow l c e dx dy) (d.cropFor e)) = g d := fun g h => by
    cases d.cropFor e with
    | none => rfl
    | some i => exact h i
  exact ⟨htake Device.closeQueue fun _ => rfl, htake Device.evaluation fun _ => rfl, htake Device.cropQueue fun _ => rfl,
    d.takeCropIf_crops _ _⟩

/-- The window that opens joins those in flight. -/
theorem Device.scheduleJoint_windows (hroom : (d.lane l).openList.length < 512) :
    (d.scheduleJoint l c e dx dy).windowsInFlight.Perm (d.windowFor l c e dx dy :: d.windowsInFlight) := by
  obtain ⟨hclose, heval, -⟩ := Device.scheduleJoint_room_kept (c := c) e dx dy hroom
  have hlane := Device.scheduleJoint_room_lane (c := c) e dx dy hroom
  have hbeyond : (d.scheduleJoint l c e dx dy).beyondList l = d.beyondList l :=
    Device.beyondList_congr (fun m hm => by rw [hlane, if_neg hm]) hclose heval
  have hsplit := (d.scheduleJoint l c e dx dy).windowsInFlight_split l
  rw [hbeyond, hlane, if_pos rfl] at hsplit
  exact (hsplit.trans ((insertWindow_perm _ _).append_right _)).trans ((d.windowsInFlight_split l).symm.cons _)

/-- One joint more is scheduled, in flight or counted at once. -/
theorem Context.Balanced.scheduled {joints windows windows' : Nat} {k : Context} (h : c.Balanced joints windows)
    (hlt : c.pointer < joints) (hreg : c.reg.state ≠ .pending) (hstate : k.state = c.state) (hkreg : k.reg.state = c.reg.state)
    (hptr : k.pointer = c.pointer + 1) (hsum : windows' + k.accounted = windows + c.accounted + 1) : k.Balanced joints windows' := by
  obtain ⟨-, hold, hwait, -, hall⟩ := h
  unfold Context.Balanced
  rw [hstate, hkreg, hptr]
  refine ⟨hlt, by omega, hwait, fun _ hp => absurd hp hreg, fun hs => ?_⟩
  have := hall hs
  omega

variable (hnum : ((d.lane l).live.map fun c => c.num).Nodup) (hc : (d.lane l).ctx c.num = some c)
  (hlt : c.pointer < d.jointCount c) (hreg : c.reg.state ≠ .pending)
include hnum hc hlt hreg

/-- A joint that finds the open list full is counted at once (R87). -/
theorem JointsAccounted.scheduleJoint_full (hd : JointsAccounted d) (hfull : 512 ≤ (d.lane l).openList.length) :
    JointsAccounted (d.scheduleJoint l c e dx dy) := by
  rw [Device.scheduleJoint_of_full c e dx dy hfull]
  refine (Books.raiseLane _ l _).joints (.modCtx (f := Context.noteOverflow) hnum hc hd rfl rfl (Nat.le_succ _)
    (fun windows h => h.scheduled hlt hreg rfl rfl rfl ?_) fun _ _ _ => ⟨rfl, rfl, rfl, rfl, rfl⟩)
  simp only [Context.noteOverflow, Context.accounted, Context.unjudged]
  omega

/-- A joint that opens a window is in flight (R85, R98). -/
theorem JointsAccounted.scheduleJoint_room (hd : JointsAccounted d) (hroom : (d.lane l).openList.length < 512) :
    JointsAccounted (d.scheduleJoint l c e dx dy) := by
  have hlane := Device.scheduleJoint_room_lane (c := c) e dx dy hroom
  have hwindows := Device.scheduleJoint_windows (c := c) e dx dy hroom
  have hcmem := Lane.mem_of_ctx hc
  have he : d.Recorded l c.num (c.noteOpened (if e.crop = 1 ∧ d.cropFor e = none then 1 else 0)) (d.scheduleJoint l c e dx dy) :=
    ⟨d.scheduleJoint_slots l c e dx dy, by rw [hlane, if_pos rfl]; exact Lane.ledgersWith_eq hnum hc _,
      fun m hm => by rw [hlane, if_neg hm]⟩
  have hfly : ∀ m q, (d.scheduleJoint l c e dx dy).flying m q = d.flying m q + if l = m ∧ c.seq = q then 1 else 0 := fun m q => by
    rw [Device.flying, hwindows.countP_eq, List.countP_cons]
    simp only [decide_eq_true_eq]
    rfl
  have hnew : (d.windowFor l c e dx dy).key ∉ (d.lane l).openList.map Window.key := fun hmem => by
    obtain ⟨v, hv, hkey⟩ := List.mem_map.mp hmem
    obtain ⟨hvlane, hvseq, hvjoint⟩ : v.lane = l ∧ v.seq = c.seq ∧ v.joint = c.pointer := by
      unfold Window.key at hkey
      exact WindowKey.mk.inj hkey
    obtain ⟨y, hy, hyseq, hylt⟩ := hd.owner ((d.mem_windowsInFlight v).mpr (.inl ⟨l, hv⟩))
    rw [hvlane] at hy
    obtain rfl : y = c := List.inj_on_of_nodup_map (hd.seqs l) hy hcmem (hyseq.trans hvseq)
    omega
  have hunit : ∀ m, ((d.scheduleJoint l c e dx dy).lane m).reg = (d.lane m).reg ∧
      ((d.scheduleJoint l c e dx dy).lane m).motion = (d.lane m).motion := fun m => by
    rw [hlane]
    split
    · next hm => rw [hm]; exact ⟨rfl, rfl⟩
    · exact ⟨rfl, rfl⟩
  refine .record hnum hc he hd rfl rfl (Nat.le_succ _) (fun m => ?_) (fun m q hm => ?_) ?_
    (he.registers hnum hc hd (fun m => by rw [(hunit m).1]) (fun m => by rw [(hunit m).2]) fun _ _ _ => ⟨rfl, rfl, rfl, rfl, rfl⟩)
    fun w hw => ?_
  · rw [hlane]
    split
    · next hm =>
      subst hm
      have hinsert := insertWindow_perm (d.windowFor m c e dx dy) (d.lane m).openList
      refine ⟨fun w hw => ?_, (hinsert.map Window.key).nodup_iff.mpr (List.nodup_cons.mpr ⟨hnew, (hd.openSound m).2⟩)⟩
      rcases List.mem_cons.mp (hinsert.mem_iff.mp hw) with rfl | hw
      · rfl
      · exact (hd.openSound m).1 w hw
    · exact hd.openSound m
  · rw [hfly, if_neg fun h => hm ⟨h.1.symm, h.2.symm⟩]
    rfl
  · rw [hfly, if_pos ⟨rfl, rfl⟩]
    refine (hd.balanced hcmem).scheduled hlt hreg rfl rfl rfl ?_
    simp only [Context.noteOpened, Context.accounted, Context.unjudged]
    omega
  · rcases List.mem_cons.mp (hwindows.mem_iff.mp hw) with rfl | hw
    · exact .inr ⟨rfl, rfl, Nat.lt_succ_self _⟩
    · exact .inl ⟨w, hw, rfl⟩

omit hnum hc hlt hreg in
theorem CropsAgree.scheduleJoint (h : CropsAgree d) : CropsAgree (d.scheduleJoint l c e dx dy) := by
  rcases Nat.lt_or_ge (d.lane l).openList.length 512 with hroom | hfull
  · obtain ⟨-, -, hqueue, hcrops⟩ := Device.scheduleJoint_room_kept (c := c) e dx dy hroom
    have hwindows := Device.scheduleJoint_windows (c := c) e dx dy hroom
    cases hcrop : d.cropFor e with
    | none =>
      rw [hcrop] at hcrops
      exact h.join hwindows hcrop hcrops hqueue
    | some i =>
      rw [hcrop] at hcrops
      obtain ⟨x, hx, hfree⟩ : ∃ x, d.crops[i]? = some x ∧ x.state = .free := by
        unfold Device.cropFor Device.lowestFree at hcrop
        split at hcrop
        · obtain ⟨hi, hx, -⟩ := List.findIdx?_eq_some_iff_getElem.mp hcrop
          exact ⟨_, List.getElem?_eq_getElem hi, of_decide_eq_true hx⟩
        · cases hcrop
      exact h.take hwindows hcrop hx hfree rfl hcrops hqueue
  · rw [Device.scheduleJoint_of_full c e dx dy hfull]
    exact (h.modCtx l c.num Context.noteOverflow).of_same rfl rfl rfl

theorem Accounts.scheduleJoint : Accounts d (d.scheduleJoint l c e dx dy) := by
  refine .of_keeps (.scheduleJoint d l c e dx dy) fun hd => ⟨?_, hd.crops.scheduleJoint e dx dy⟩
  rcases Nat.lt_or_ge (d.lane l).openList.length 512 with hroom | hfull
  · exact hd.joints.scheduleJoint_room e dx dy hnum hc hlt hreg hroom
  · exact hd.joints.scheduleJoint_full e dx dy hnum hc hlt hreg hfull

end

/-! ## The joints that a line reaches -/

theorem Accounts.openJoints (l : LaneId) (n : Fin 4) (line fuel : Nat) (d : Device) :
    Accounts d (Device.openJoints l n line fuel d) := by
  induction fuel generalizing d with
  | zero => exact .refl d
  | succ fuel ih =>
    unfold Device.openJoints
    split
    · exact .refl d
    · next c hc =>
      split
      · exact .refl d
      · exact .refl d
      · next dx dy hreg =>
        refine .ite (fun h => .after (ih _) (.of_booked fun hd => ?_)) fun _ => .refl d
        obtain rfl : c.num = n := Lane.num_of_ctx hc
        exact .scheduleJoint _ dx dy (hd.nums l) hc h.1 (by rw [hreg]; exact nofun)

theorem Device.scheduleJoint_reg (d : Device) (l : LaneId) (c : Context) (e : JointEntry) (dx dy : Int) (m : LaneId) :
    ((d.scheduleJoint l c e dx dy).lane m).reg = (d.lane m).reg := by
  rcases Nat.lt_or_ge (d.lane l).openList.length 512 with hroom | hfull
  · rw [Device.scheduleJoint_room_lane e dx dy hroom]
    split
    · next hm => rw [hm]; rfl
    · rfl
  · rw [Device.scheduleJoint_of_full c e dx dy hfull, Device.raiseLane_lane, Device.modCtx_lane]
    split
    · next hm => rw [hm]; rfl
    · rfl

theorem Device.openJoints_reg (l : LaneId) (n : Fin 4) (line fuel : Nat) (d : Device) (m : LaneId) :
    ((Device.openJoints l n line fuel d).lane m).reg = (d.lane m).reg := by
  induction fuel generalizing d with
  | zero => rfl
  | succ fuel ih =>
    unfold Device.openJoints
    split
    · rfl
    · split
      · rfl
      · rfl
      · dsimp only
        split
        · rw [ih, Device.scheduleJoint_reg]
        · rfl

end Sys2Proof.Machine


/-! # Keeping the books: line issue, scan starts and counts (R29 to R38, R135 to R137) -/

namespace Sys2Proof.Machine

/-! ## The deadline check of a line (R38, R76) -/

theorem Context.lineOf_succ_le (c : Context) (t : Word16) : c.lineOf (t + 1) ≤ c.lineOf t + 1 := by
  unfold Context.lineOf
  cases c.firstTag with
  | none => simp
  | some f =>
    have hnext : t + 1 - f = t - f + 1 := by bv_omega
    rw [Option.getD_some, Option.getD_some, hnext, BitVec.toNat_add]
    exact Nat.mod_le _ _

theorem Keeps.lineMoved (d : Device) (l : LaneId) (c : Context) (pos : Word32) : Keeps d (d.lineMoved l c pos) :=
  .setLane d l (.setMotion _ _)

theorem Keeps.lineChecked (d : Device) (l : LaneId) (c : Context) (pos : Word32) : Keeps d (d.lineChecked l c pos) :=
  .ite (fun _ => .after (.registrationDeadline _ l) (.lineMoved d l c pos)) fun _ => .lineMoved d l c pos

theorem Device.registrationDeadline_of_none {d : Device} {l : LaneId} (h : (d.lane l).reg = none) : d.registrationDeadline l = d := by
  simp only [Device.registrationDeadline, h]

theorem Device.lineMoved_reg (d : Device) (l : LaneId) (c : Context) (pos : Word32) :
    ((d.lineMoved l c pos).lane l).reg = (d.lane l).reg := by rw [Device.lineMoved_lane]

theorem Device.lineChecked_of_none {d : Device} {l : LaneId} (h : (d.lane l).reg = none) (c : Context) (pos : Word32) :
    d.lineChecked l c pos = d.lineMoved l c pos := by
  unfold Device.lineChecked
  rw [Device.registrationDeadline_of_none ((d.lineMoved_reg l c pos).trans h)]
  exact ite_self _

section
variable {d : Device} {l : LaneId} {c : Context} (hc : c ∈ (d.lane l).live) (hs : c.state = .scanning)
include hc hs

/-- The panel under registration is the one that scans. -/
theorem Device.Booked.reg_ctx (hd : d.Booked) {r : Registration} (hr : (d.lane l).reg = some r) :
    r.ctx = c.num ∧ c.reg.state = .pending ∧
      c.lineOf (d.lane l).motion.tagCounter ≤ (d.slot c.slot).hdr.zone.toNat + 64 := by
  obtain ⟨y, hy, ynum, ystate, ypending, yline⟩ := hd.joints.registers l r hr
  obtain rfl : y = c := (hd.ordered.1 l).eq_of_scanning hy hc ystate hs
  exact ⟨ynum.symm, ypending, yline⟩

theorem JointsAccounted.lineChecked (hd : d.Booked) (pos : Word32) : JointsAccounted (d.lineChecked l c pos) := by
  cases hr : (d.lane l).reg with
  | none =>
    rw [Device.lineChecked_of_none hr]
    exact hd.joints.freeUnit l rfl rfl hr
  | some r =>
    obtain ⟨hctx, hpending, hline⟩ := hd.reg_ctx hc hs hr
    by_cases hdue : c.lineOf (d.lane l).motion.tagCounter = (d.slot c.slot).hdr.zone.toNat + 64
    · rw [Device.lineChecked, if_pos hdue, Device.registrationDeadline,
        show ((d.lineMoved l c pos).lane l).reg = some r from (d.lineMoved_reg l c pos).trans hr]
      refine hd.joints.endRegistration (hd.nums l) (hctx ▸ hd.ctx hc) hs hpending ?_ ?_ _
      · rfl
      · rfl
    · rw [Device.lineChecked, if_neg hdue]
      refine hd.joints.of_units rfl (fun m => ?_) (fun m => ?_) rfl rfl fun m => ?_
      all_goals by_cases hm : m = l
      · rw [hm, Device.lineMoved_lane]
      · exact congrArg Lane.live (lane_withLane_of_ne d _ hm)
      · rw [hm, Device.lineMoved_lane]
      · exact congrArg Lane.openList (lane_withLane_of_ne d _ hm)
      · subst hm
        rw [Device.lineMoved_lane]
        intro r' hr'
        obtain ⟨hctx', -⟩ := hd.reg_ctx hc hs hr'
        have hnext := c.lineOf_succ_le (d.lane m).motion.tagCounter
        refine ⟨c, hc, hctx'.symm, hs, hpending, ?_⟩
        show c.lineOf ((d.lane m).motion.tagCounter + 1) ≤ (d.slot c.slot).hdr.zone.toNat + 64
        omega
      · rw [show (d.lineMoved l c pos).lane m = d.lane m from lane_withLane_of_ne d _ hm]
        exact hd.joints.registers m

omit hc hs in
theorem CropsAgree.lineChecked (h : CropsAgree d) (pos : Word32) : CropsAgree (d.lineChecked l c pos) := by
  have hmoved : CropsAgree (d.lineMoved l c pos) := by
    refine h.of_same (Device.windowsInFlight_congr (fun m => ?_) rfl rfl) rfl rfl
    by_cases hm : m = l
    · rw [hm, Device.lineMoved_lane]
    · exact congrArg Lane.openList (lane_withLane_of_ne d _ hm)
  unfold Device.lineChecked Device.registrationDeadline
  split
  · split
    · exact hmoved
    · exact hmoved.endRegistration l _ _
  · exact hmoved

theorem Accounts.lineChecked (pos : Word32) : Accounts d (d.lineChecked l c pos) :=
  .of_keeps (.lineChecked d l c pos) fun hd => ⟨.lineChecked hc hs hd pos, hd.crops.lineChecked pos⟩

/-! ## A line (R36 to R38) -/

omit hc hs in
theorem Accounts.strobeLine (d : Device) (l : LaneId) (r : LineRun) : Accounts d (d.strobeLine l r) :=
  .of_books (.strobeLine d l r) (.strobeLine d l r)

theorem Accounts.lineLit (pos : Word32) : Accounts d (d.lineLit l c pos) :=
  .after (.strobeLine _ l _) (.after (.openJoints l _ _ _ _) (.lineChecked hc hs pos))

omit hs in
theorem Device.lineLit_states (pos : Word32) : (c.num, c.state) ∈ (d.lineLit l c pos).states l := by
  have hmoved : (c.num, c.state) ∈ (d.lineMoved l c pos).states l := by
    have hlive : ((d.lineMoved l c pos).lane l).live = (d.lane l).live := by rw [Device.lineMoved_lane]
    rw [Device.states_congr hlive]
    exact Device.states_of_mem hc
  rw [Device.lineLit, Device.states_congr (Device.strobeLine_sameWork _ l _ l).live, Device.openJoints_states, Device.lineChecked]
  split
  · rw [Device.registrationDeadline_states]
    exact hmoved
  · exact hmoved

/-- On its last line a panel is no longer under registration: a Sealed recipe ends behind the deadline (R13, R76). -/
theorem Device.Booked.last_reg (hd : d.Booked) (hlast : d.lastLine l c = true) : (d.lane l).reg = none := by
  cases hr : (d.lane l).reg with
  | none => rfl
  | some r =>
    obtain ⟨-, -, hline⟩ := hd.reg_ctx hc hs hr
    have hsealed : (d.slot c.slot).state = .sealed :=
      hd.referenced.1 c.slot ((d.referenced_iff c.slot).mpr ⟨l, .inr (.inr ⟨c, hc, rfl⟩)⟩)
    have hdeadline := hd.joints.deadline hsealed
    have hend : c.lineOf (d.lane l).motion.tagCounter + 1 = (d.slot c.slot).hdr.panelLength.toNat := of_decide_eq_true hlast
    omega

omit hc hs in
theorem Device.lineLit_reg (hreg : (d.lane l).reg = none) (pos : Word32) : ((d.lineLit l c pos).lane l).reg = none := by
  obtain ⟨ports, strobe, gate, hlane⟩ := Device.strobeLine_sameWork
    (Device.openJoints l c.num (c.lineOf (d.lane l).motion.tagCounter) (d.slot c.slot).hdr.jointCount.toNat (d.lineChecked l c pos)) l
    (lineRun c (d.slot c.slot).hdr (d.lane l).motion.tagCounter (c.lineOf (d.lane l).motion.tagCounter)) l
  rw [Device.lineLit, hlane]
  show ((Device.openJoints l _ _ _ _).lane l).reg = none
  rw [Device.openJoints_reg, Device.lineChecked_of_none hreg, Device.lineMoved_reg, hreg]

theorem Accounts.issueLine (pos : Word32) : Accounts d (d.issueLine l c pos) := by
  rw [Device.issueLine_eq]
  refine .ite (fun hlast => .of_booked fun hd => .after (.leaveScanning ?_ ?_) (.lineLit hc hs pos)) fun _ => .lineLit hc hs pos
  · exact hs ▸ Device.lineLit_states hc pos
  · exact Device.lineLit_reg (hd.last_reg hc hs hlast) pos

end

theorem Accounts.issueDue (d : Device) (l : LaneId) : Accounts d (d.issueDue l) := by
  unfold Device.issueDue
  dsimp only
  split
  · next hscan =>
    obtain ⟨hc, hs⟩ := Lane.scanningCtx_spec hscan
    exact .ite (fun _ => .issueLine hc hs _) fun _ => .refl d
  · exact .refl d

/-! ## Scan starts (R34, R35, R135 to R137) -/

theorem Device.beginScan_lane (d : Device) (l : LaneId) (c : Context) (h : Header) (m : LaneId) :
    (d.modLane l fun L => L.beginScan c h).lane m = if m = l then (d.lane l).beginScan c h else d.lane m :=
  d.lane_modLane_of l m _

section
variable {d : Device} {l : LaneId} {c : Context} (hmode : (d.lane l).mode = .ready) (hc : c ∈ (d.lane l).live) (hs : c.state = .waiting)
include hc hs

theorem JointsAccounted.beginScan (hd : d.Booked) (h : Header) : JointsAccounted (d.modLane l fun L => L.beginScan c h) := by
  have hlane := d.beginScan_lane l c h
  have hctx := hd.ctx hc
  have hbal := hd.joints.balanced hc
  have hpending := hbal.2.2.1 hs
  have hlists : ∀ m, ((d.modLane l fun L => L.beginScan c h).lane m).openList = (d.lane m).openList := fun m => by
    rw [hlane]
    split
    · next hm => rw [hm]; rfl
    · rfl
  have hwindows := Device.windowsInFlight_congr (d := d) (e := d.modLane l fun L => L.beginScan c h) hlists rfl rfl
  have he : d.Recorded l c.num (c.begin (d.lane l).motion.tagCounter) (d.modLane l fun L => L.beginScan c h) :=
    ⟨rfl, by rw [hlane, if_pos rfl]; exact Lane.ledgersWith_eq (hd.nums l) hctx _, fun m hm => by rw [hlane, if_neg hm]⟩
  refine .record (hd.nums l) hctx he hd.joints rfl rfl (Nat.le_refl _) (hd.joints.openSound.congr hlists)
    (fun m q _ => Device.flying_congr hwindows m q) ?_ (fun m => ?_) fun w hw => .inl ⟨w, hwindows ▸ hw, rfl⟩
  · rw [Device.flying_congr hwindows]
    exact ⟨hbal.1, hbal.2.1, nofun, fun _ _ => hbal.2.2.2.1 (.inl hs) hpending, by simp [Context.begin]⟩
  · rw [hlane]
    split
    · next hm =>
      intro r hr
      obtain rfl := Option.some.inj hr
      refine ⟨c.begin (d.lane l).motion.tagCounter, List.mem_map.mpr ⟨c, hc, if_pos rfl⟩, rfl, rfl, hpending, ?_⟩
      show (c.begin (d.lane l).motion.tagCounter).lineOf (d.lane l).motion.tagCounter ≤ _
      simp [Context.lineOf, Context.begin]
    · exact hd.joints.registers m

include hmode

theorem Accounts.beginScan (h : Header) : Accounts d (d.modLane l fun L => L.beginScan c h) := by
  refine .of_keeps (.modLane d l (.startScan hmode (Context.begin _) (fun _ => rfl) (fun _ => rfl) (fun _ => rfl)
    ⟨c, hc, rfl, hs⟩ _)) fun hd => ⟨.beginScan hc hs hd h, hd.crops.of_same (Device.windowsInFlight_congr (fun m => ?_) rfl rfl) rfl rfl⟩
  rw [d.beginScan_lane l c h]
  split
  · next hm => rw [hm]; rfl
  · rfl

theorem Accounts.startScan : Accounts d (d.startScan l c) := by
  rw [Device.startScan_eq]
  dsimp only
  split
  · exact .beginScan hmode hc hs _
  · next x hx =>
    refine .after (.issueLine (Lane.mem_of_ctx hx) ?_ _) (.beginScan hmode hc hs _)
    have hmem := Lane.mem_of_ctx hx
    rw [Device.lane_modLane] at hmem
    obtain ⟨z, -, rfl⟩ := List.mem_map.mp hmem
    split
    · rfl
    · next hz => exact absurd (Lane.num_of_ctx hx) (by simp [hz])

omit hmode

theorem Accounts.scanStart : Accounts d (d.scanStart l c) := by
  unfold Device.scanStart
  split
  · next hmode => exact .startScan hmode hc hs
  · exact .abortOverlap hc hs
  all_goals exact .abortWarmup hc hs

end

theorem Accounts.scanStarts (l : LaneId) (fuel : Nat) (d : Device) : Accounts d (Device.scanStarts l fuel d) := by
  induction fuel generalizing d with
  | zero => exact .refl d
  | succ fuel ih =>
    unfold Device.scanStarts
    dsimp only
    split
    · exact .refl d
    · next holdest =>
      obtain ⟨hc, hs⟩ := Lane.oldestWaiting_spec holdest
      exact .ite (fun _ => .after (ih _) (.scanStart hc hs)) fun _ => .refl d

/-! ## Counts (R29 to R31) -/

theorem Accounts.testPositions (d : Device) (l : LaneId) : Accounts d (d.testPositions l) := by
  have hgates : ∀ e : Device, Accounts e (Device.gateArrivals l (e.lane l).gate.queue.length e) :=
    fun e => .gateArrivals l _ e
  have hscans : ∀ e : Device, Accounts e (Device.scanStarts l (e.lane l).live.length e) := fun e => .scanStarts l _ e
  have hfree : Accounts d { d with freeIndex := d.freeIndex + 1 } := .of_books (.setFreeIndex d _) (.setFreeIndex d _)
  refine .ite (fun _ => ?_) fun _ => .after (hgates _) (.after (hscans _) (.issueDue d l))
  dsimp only
  split
  · exact .after (hscans _) (.after (.issueDue _ l) (.after (hgates _) hfree))
  · exact .after (hscans _) (.after (hgates _) (.after (.issueDue _ l) hfree))
  · exact .after (hgates _) (.after (hscans _) (.after (.issueDue _ l) hfree))

/-- The motion unit changes in another place than the tag counter. -/
theorem Accounts.setMotion (d : Device) (l : LaneId) {x : Motion} (h : x.tagCounter = (d.lane l).motion.tagCounter) :
    Accounts d (d.setLane l { d.lane l with motion := x }) :=
  .of_books (.setLane d l (.setMotion _ _)) (.setLane d l ⟨rfl, rfl, rfl, h⟩)

theorem Accounts.forwardCount (d : Device) (l : LaneId) : Accounts d (d.forwardCount l) :=
  .ite (fun _ => .refl d) fun _ =>
    .ite (fun _ => .after (.testPositions _ l) (.setMotion d l rfl)) fun _ => .setMotion d l rfl

end Sys2Proof.Machine


/-! # Keeping the books: the Motion abort and the accepted edge (R29, R31 to R33, R39, R103, R131, R133) -/

namespace Sys2Proof.Machine

/-! ## Windows dropped with their panel (R103) -/

section
variable (d : Device) (l : LaneId) (q : Word16)

/-- The windows of a panel in its lane's open list. -/
def Device.panelWindows : List Window := (d.lane l).openList.filter fun w => decide (w.seq = q)

/-- The windows in flight but those of a panel in its lane's open list. -/
def Device.otherWindows : List Window := ((d.lane l).openList.filter fun w => !decide (w.seq = q)) ++ d.beyondList l

theorem Device.windowsInFlight_panel : d.windowsInFlight.Perm (d.panelWindows l q ++ d.otherWindows l q) := by
  refine (d.windowsInFlight_split l).trans ?_
  unfold Device.otherWindows
  rw [← List.append_assoc]
  exact (List.filter_append_perm (fun w : Window => decide (w.seq = q)) _).symm.append_right _

theorem Device.dropWindows_windows (n : Fin 4) (f : Context → Context) :
    ((d.dropWindows l q).modCtx l n f).windowsInFlight.Perm (d.otherWindows l q) := by
  obtain ⟨hclose, heval, -⟩ := d.dropWindows_kept l q
  rw [Device.modCtx_windowsInFlight]
  refine ((d.dropWindows l q).windowsInFlight_split l).trans ?_
  have hbeyond : (d.dropWindows l q).beyondList l = d.beyondList l :=
    Device.beyondList_congr (fun m hm => by rw [Device.dropWindows_lane, if_neg hm]) hclose heval
  rw [hbeyond, Device.dropWindows_lane, if_pos rfl]
  exact .refl _

end

theorem CropsAgree.dropWindows {d : Device} (h : CropsAgree d) (l : LaneId) (q : Word16) (n : Fin 4) (f : Context → Context) :
    CropsAgree ((d.dropWindows l q).modCtx l n f) := by
  have hcrops : ∀ i, (d.dropWindows l q).crops[i]? = if ∃ w ∈ d.panelWindows l q, w.crop = some i then
      d.crops[i]?.map CropSlot.freed else d.crops[i]? := Device.foldl_freeCropOf_crops _ d
  refine h.release (d.windowsInFlight_panel l q) (d.dropWindows_windows l q n f) ?_ hcrops (Device.foldl_freeCropOf_cropQueue _ d)
  exact Device.foldl_freeCropOf_kept (fun e => e.crops.length)
    (fun e w => by unfold Device.freeCropOf; split <;> simp [Device.freeCrop, Device.modCrop]) _ d

/-- A context changed as its windows leave the open list, in a lane with no panel under registration. -/
theorem JointsAccounted.dropWindows {d : Device} {l : LaneId} {n : Fin 4} {c : Context}
    (hnum : ((d.lane l).live.map fun c => c.num).Nodup) (hc : (d.lane l).ctx n = some c) (hd : JointsAccounted d)
    (hreg : (d.lane l).reg = none) {f : Context → Context} (hseq : (f c).seq = c.seq) (hslot : (f c).slot = c.slot)
    (hptr : c.pointer ≤ (f c).pointer) (balanced : ∀ windows, c.Balanced (d.jointCount c) ((d.panelWindows l c.seq).length + windows) →
      (f c).Balanced (d.jointCount c) windows) : JointsAccounted ((d.dropWindows l c.seq).modCtx l n f) := by
  obtain ⟨-, -, hslots, -⟩ := d.dropWindows_kept l c.seq
  have hdrop := d.dropWindows_lane l c.seq
  have hlane : ∀ m, ((d.dropWindows l c.seq).modCtx l n f).lane m = if m = l then
      { (d.lane l).modCtx n f with openList := (d.lane l).openList.filter fun w => !decide (w.seq = c.seq) } else d.lane m := fun m => by
    rw [Device.modCtx_lane, hdrop, hdrop, if_pos rfl]
    split <;> rfl
  have hkept := d.dropWindows_windows l c.seq n f
  have hall := d.windowsInFlight_panel l c.seq
  have hmine : ∀ w ∈ d.panelWindows l c.seq, w.lane = l ∧ w.seq = c.seq := fun w hw =>
    ⟨(hd.openSound l).1 w (List.mem_filter.mp hw).1, of_decide_eq_true (List.mem_filter.mp hw).2⟩
  have hfly : ∀ m q, d.flying m q =
      (d.panelWindows l c.seq).countP (fun w => decide (w.lane = m ∧ w.seq = q)) +
        ((d.dropWindows l c.seq).modCtx l n f).flying m q := fun m q => by
    rw [Device.flying, hall.countP_eq, List.countP_append, Device.flying, hkept.countP_eq]
  have he : d.Recorded l n (f c) ((d.dropWindows l c.seq).modCtx l n f) :=
    ⟨hslots, by rw [hlane, if_pos rfl]; exact Lane.ledgersWith_eq hnum hc f, fun m hm => by rw [hlane, if_neg hm]⟩
  refine .record hnum hc he hd hseq hslot hptr (fun m => ?_) (fun m q hm => ?_) ?_ (fun m => ?_) fun w hw => .inl ⟨w, ?_, rfl⟩
  · rw [hlane]
    split
    · next hm =>
      subst hm
      exact ⟨fun w hw => (hd.openSound m).1 w (List.mem_filter.mp hw).1,
        (List.filter_sublist.map _).nodup (hd.openSound m).2⟩
    · exact hd.openSound m
  · rw [hfly m q, List.countP_eq_zero.mpr, Nat.zero_add]
    intro w hw
    obtain ⟨hl, hq⟩ := hmine w hw
    exact fun h => hm ⟨(of_decide_eq_true h).1.symm.trans hl, (of_decide_eq_true h).2.symm.trans hq⟩
  · refine balanced _ ?_
    have hcount : (d.panelWindows l c.seq).countP (fun w => decide (w.lane = l ∧ w.seq = c.seq)) = (d.panelWindows l c.seq).length :=
      List.countP_eq_length.mpr fun w hw => decide_eq_true (hmine w hw)
    rw [← hcount, ← hfly]
    exact hd.balanced (Lane.mem_of_ctx hc)
  · rw [hlane]
    split
    · refine Lane.registersScanning_of_none ?_ _
      exact hreg
    · intro r hr
      have := hd.registers m r hr
      unfold Device.slot at this ⊢
      rw [show ((d.dropWindows l c.seq).modCtx l n f).slots = d.slots from hslots]
      exact this
  · exact hall.mem_iff.mpr (List.mem_append_right _ (hkept.mem_iff.mp hw))

/-! ## The Motion abort (R39, R77, R138) -/

/-- The Scanning panel's windows and joints not scheduled are counted Aborted, and it leaves Scanning. -/
theorem Accounts.abortWindows {d : Device} {l : LaneId} {c k : Context} (hk : k ∈ (d.lane l).live) (hs : k.state = .scanning)
    (hnum : k.num = c.num) (hseq : k.seq = c.seq) (hslot : k.slot = c.slot) (hreg : (d.lane l).reg = none) :
    Accounts d ((d.abortWindows l c).leaveScanning l c.num) := by
  have hstates : (c.num, CtxState.scanning) ∈ (d.abortWindows l c).states l := by
    rw [Device.abortWindows_states, ← hnum, ← hs]
    exact Device.states_of_mem hk
  obtain ⟨y, hy, hys⟩ := List.mem_map.mp hstates
  rw [Device.leaveScanning_eq]
  refine .after (.tryDecide _ l _) (.of_keeps (.after (.modLane _ l
    (.leaveScanning ⟨y, hy, (Prod.mk.inj hys).1, (Prod.mk.inj hys).2⟩)) (.abortWindows d l c)) fun hd => ?_)
  rw [← Device.settleCtx_enterReady, Device.abortWindows_eq, Device.settleCtx_eq,
    Device.modCtx_modCtx _ _ _ (Context.noteAborted _ _) _ fun _ => rfl]
  have hcount : d.jointCount c = d.jointCount k := Device.jointCount_congr rfl hslot.symm
  have hbal := hd.joints.balanced hk
  rw [hcount, ← hnum, ← hseq]
  have hdropped : JointsAccounted ((d.dropWindows l k.seq).modCtx l k.num fun x => (x.noteAborted
      ((d.lane l).openList.filter fun w => decide (w.seq = k.seq)).length (d.jointCount k)).settle) := by
    refine .dropWindows (hd.nums l) (hd.ctx hk) hd.joints hreg rfl rfl hbal.1 fun windows ⟨hle, hsum, _⟩ =>
      .settle (Nat.le_refl _) ?_
    show windows + (k.noteAborted (d.panelWindows l k.seq).length (d.jointCount k)).accounted = d.jointCount k
    simp only [Context.noteAborted, Context.accounted, Context.unjudged] at hsum ⊢
    omega
  have hbook : ∀ e : Device, Books e (e.modLane l Lane.enterReady) := fun e => .modLane e l (.enterReady _)
  exact ⟨(hbook _).joints hdropped, (hbook _).cropsAgree hdropped.openSound (hd.crops.dropWindows l _ _ _)⟩

theorem Context.writeAbort_ledger (a : AbortCause) (c : Context) : (c.writeAbort a).ledger = c.ledger := by
  unfold Context.writeAbort
  split <;> rfl

theorem Accounts.abortMotion {d : Device} {l : LaneId} {c : Context} (hc : c ∈ (d.lane l).live) (hs : c.state = .scanning) :
    Accounts d (d.abortMotion l c) := by
  unfold Device.abortMotion
  dsimp only
  have hcause : Accounts d (d.modCtx l c.num fun x => x.writeAbort .motion) :=
    .modCtx_ledger d l c.num (Context.writeAbort_ledger .motion)
  have hstop : ∀ e : Device, Accounts e (e.modLane l fun L => { L with motion := { L.motion with nextLine := none }, reg := none }) :=
    fun e => .of_keeps (.modLane e l (.of_same rfl rfl rfl rfl rfl id id rfl rfl)) fun he =>
      ⟨he.joints.freeUnit l rfl rfl rfl, he.crops.of_same (Device.windowsInFlight_congr (fun m => by
        rw [Device.lane_modLane_of]
        split
        · next hm => rw [hm]
        · rfl) rfl rfl) rfl rfl⟩
  obtain ⟨-, hseq, hslot, hstate, -⟩ := Context.fields_of_ledger (c.writeAbort_ledger .motion)
  refine .after (.abortWindows (k := c.writeAbort .motion) ?_ (hstate.trans hs) (c.writeAbort_num _) hseq hslot ?_)
    (.after (hstop _) hcause)
  · rw [Device.lane_modLane, Device.modCtx, Device.lane_modLane]
    exact List.mem_map.mpr ⟨c, hc, if_pos rfl⟩
  · rw [Device.lane_modLane]

theorem Accounts.reverseCount (d : Device) (l : LaneId) : Accounts d (d.reverseCount l) := by
  refine .ite (fun _ => .refl d) fun _ => ?_
  dsimp only
  split
  · exact .setMotion d l rfl
  · next c hscan =>
    obtain ⟨hc, hs⟩ := Lane.scanningCtx_spec hscan
    refine .ite (fun _ => .after (.abortMotion ?_ hs) (.after (.fault _ l _) (.setMotion d l rfl))) fun _ => .setMotion d l rfl
    rw [(Device.fault_sameWork _ l _ l).live, Device.lane_setLane]
    exact hc

end Sys2Proof.Machine


/-! # Keeping the books: the accepted edge and the completed evaluation (R32, R33, R108, R116 to R122, R131, R133) -/

namespace Sys2Proof.Machine

/-! ## A panel joins the live ones (R131, R133) -/

theorem Device.addCtx_lane (d : Device) (l : LaneId) (c : Context) (m : LaneId) :
    (d.modLane l fun L => { L with live := L.live ++ [c], idleLeft := none }).lane m =
      if m = l then { d.lane l with live := (d.lane l).live ++ [c], idleLeft := none } else d.lane m := d.lane_modLane_of l m _

/-- A context of a new number, nothing of which is scheduled, joins the live ones. -/
theorem JointsAccounted.addCtx {d : Device} (hd : JointsAccounted d) {l : LaneId} {c : Context}
    (hnew : ∀ x ∈ (d.lane l).live, x.seq ≠ c.seq) (hs : c.state = .waiting) (hpending : c.reg.state = .pending)
    (hptr : c.pointer = 0) (hacc : c.accounted = 0) :
    JointsAccounted (d.modLane l fun L => { L with live := L.live ++ [c], idleLeft := none }) := by
  have hlane := d.addCtx_lane l c
  have hlists : ∀ m, ((d.modLane l fun L => { L with live := L.live ++ [c], idleLeft := none }).lane m).openList = (d.lane m).openList :=
    fun m => by
      rw [hlane]
      split
      · next hm => rw [hm]
      · rfl
  have hwindows := Device.windowsInFlight_congr (d := d)
    (e := d.modLane l fun L => { L with live := L.live ++ [c], idleLeft := none }) hlists rfl rfl
  have hmem : ∀ {m x}, x ∈ (d.lane m).live →
      x ∈ ((d.modLane l fun L => { L with live := L.live ++ [c], idleLeft := none }).lane m).live := fun {m x} hx => by
    rw [hlane]
    split
    · next hm => exact List.mem_append_left _ (hm ▸ hx)
    · exact hx
  have hnone : d.flying l c.seq = 0 := List.countP_eq_zero.mpr fun w hw => by
    obtain ⟨y, hy, hyq, -⟩ := hd.owner hw
    rw [decide_eq_true_eq]
    rintro ⟨hl, hq⟩
    exact hnew y (hl ▸ hy) (hyq.trans hq)
  refine .intro hd.1 (fun m => ?_) (hd.openSound.congr hlists) (fun m r hr => ?_) (fun m x hx => ?_) fun w hw => ?_
  · rw [hlane]
    split
    · rw [List.map_append, List.nodup_append]
      refine ⟨hd.seqs l, List.nodup_singleton _, fun a ha b hb => ?_⟩
      obtain ⟨x, hx, rfl⟩ := List.mem_map.mp ha
      rw [List.map_singleton, List.mem_singleton] at hb
      exact hb ▸ hnew x hx
    · exact hd.seqs m
  · have hunit : ((d.modLane l fun L => { L with live := L.live ++ [c], idleLeft := none }).lane m).reg = (d.lane m).reg ∧
        ((d.modLane l fun L => { L with live := L.live ++ [c], idleLeft := none }).lane m).motion = (d.lane m).motion := by
      rw [hlane]
      split
      · next hm => rw [hm]; exact ⟨rfl, rfl⟩
      · exact ⟨rfl, rfl⟩
    obtain ⟨y, hy, ynum, ystate, ypending, yline⟩ := hd.registers m r (hunit.1 ▸ hr)
    exact ⟨y, hmem hy, ynum, ystate, ypending, by rw [hunit.2]; exact yline⟩
  · rw [Device.flying_congr hwindows]
    have hold : x ∈ (d.lane m).live ∨ (m = l ∧ x = c) := by
      rw [hlane] at hx
      split at hx
      · next hm =>
        rcases List.mem_append.mp hx with hx | hx
        · exact .inl (hm ▸ hx)
        · exact .inr ⟨hm, List.mem_singleton.mp hx⟩
      · exact .inl hx
    rcases hold with hx | ⟨rfl, rfl⟩
    · exact hd.balanced hx
    · rw [hnone]
      refine ⟨hptr ▸ Nat.zero_le _, by rw [hptr, hacc], fun _ => hpending, fun _ _ => hptr, fun h => ?_⟩
      simp [hs] at h
  · obtain ⟨y, hy, hyq, hlt⟩ := hd.owner (hwindows ▸ hw)
    exact ⟨y, hmem hy, hyq, hlt⟩

theorem CropsAgree.addCtx {d : Device} (h : CropsAgree d) (l : LaneId) (c : Context) :
    CropsAgree (d.modLane l fun L => { L with live := L.live ++ [c], idleLeft := none }) := by
  refine h.of_same (Device.windowsInFlight_congr (fun m => ?_) rfl rfl) rfl rfl
  rw [d.addCtx_lane l c]
  split
  · next hm => rw [hm]
  · rfl

theorem Accounts.tracked {d : Device} {l : LaneId} {n slot : Fin 4} {q : Word16} (edge start gatePos : Word32)
    (hactive : (d.lane l).active = some slot) (hfree : (d.lane l).ctx n = none) (hnew : ∀ x ∈ (d.lane l).live, x.seq ≠ q) :
    Accounts d (d.tracked l n slot q edge start gatePos) := by
  refine .after (.scanStarts l _ _) (.after (.of_books (.passGateEntry _ l _) (.passGateEntry _ l _))
    (.of_keeps (.modLane d l (.addCtx hfree rfl (.inl hactive))) fun hd => ⟨hd.joints.addCtx hnew rfl rfl rfl rfl, hd.crops.addCtx l _⟩))

theorem Accounts.untracked (d : Device) (l : LaneId) (q : Word16) (gatePos : Word32) : Accounts d (d.untracked l q gatePos) :=
  .of_books (.untracked d l q gatePos) (.untracked d l q gatePos)

/-- An accepted edge, where no live context bears its panel's number (R33, log 34). -/
theorem Accounts.acceptedEdge {d : Device} {l : LaneId} (hfresh : ∀ c ∈ (d.lane l).live, c.seq ≠ (d.lane l).nextSeq) :
    Accounts d (d.acceptedEdge l) := by
  have hedge : Accounts d (d.setLane l (d.lane l).edge) := .of_books (.setLane d l (.edge _)) (.setLane d l (.edge _))
  have hnew : ∀ x ∈ ((d.setLane l (d.lane l).edge).lane l).live, x.seq ≠ (d.lane l).nextSeq := fun x hx => by
    rw [Device.lane_setLane] at hx
    obtain ⟨c, hc, hledger⟩ := Context.mem_of_ledgers (Lane.SameBooks.edge (d.lane l)).1 hx
    rw [(Context.fields_of_ledger hledger.symm).2.1]
    exact hfresh c hc
  rw [Device.acceptedEdge_eq]
  dsimp only
  split
  · exact hedge.trans (.after (.untracked _ l _ _) (.raiseLane _ l _))
  · next hactive hfree =>
    refine hedge.trans (.tracked _ _ _ ?_ ?_ hnew)
    · rw [Device.lane_setLane]; exact hactive
    · rw [Device.lane_setLane]; exact Lane.ctx_of_freeCtx hfree
  · exact hedge.trans (.after (.untracked _ l _ _) (.fault _ l _))

theorem Accounts.edgeRises {d : Device} (hfresh : NumbersFresh d) (l : LaneId) : Accounts d (d.edgeRises l) :=
  .ite (fun _ => .refl d) fun _ => .ite (fun _ => .acceptedEdge (hfresh l)) fun _ => .raiseLane d l _

/-! ## An evaluation completes (R108, R116, R117) -/

/-- The accounting law reads lanes, recipe slots, close queue and evaluation alone. -/
theorem JointsAccounted.of_lanes {d e : Device} (h : JointsAccounted d) (lanes : e.lanes = d.lanes) (slots : e.slots = d.slots)
    (closeQueue : e.closeQueue = d.closeQueue) (evaluation : e.evaluation = d.evaluation) : JointsAccounted e := by
  have hlane : ∀ m, e.lane m = d.lane m := fun m => by rw [Device.lane, lanes]; rfl
  refine h.of_units slots (fun m => by rw [hlane]) (fun m => by rw [hlane]) closeQueue evaluation fun m => ?_
  rw [hlane]
  intro r hr
  have hm := h.registers m r hr
  unfold Device.slot at hm ⊢
  rwa [slots]

theorem Context.countVerdict_fields (v : Verdict) (injected : Bool) (c : Context) :
    (c.countVerdict v injected).seq = c.seq ∧ (c.countVerdict v injected).reg = c.reg ∧
      (c.countVerdict v injected).pointer = c.pointer ∧ (c.countVerdict v injected).firstTag = c.firstTag ∧
      (c.countVerdict v injected).accounted = c.accounted + 1 := by
  cases v <;> exact ⟨rfl, rfl, rfl, rfl, by simp only [Context.countVerdict, Context.accounted, Context.unjudged]; omega⟩

/-- A window leaves the flight and is counted. -/
theorem Context.Balanced.counted {joints windows : Nat} {c k : Context} (h : c.Balanced joints (windows + 1))
    (hstate : k.state = c.state) (hreg : k.reg = c.reg) (hptr : k.pointer = c.pointer) (hacc : k.accounted = c.accounted + 1) :
    k.Balanced joints windows := by
  obtain ⟨hle, hsum, hwait, hnone, hall⟩ := h
  unfold Context.Balanced
  rw [hstate, hreg, hptr, hacc]
  refine ⟨hle, by omega, hwait, hnone, fun hs => ?_⟩
  have := hall hs
  omega

section
variable {d : Device} {w : Window} {c : Context} (hw : d.evaluation = some w) (f : Context → Context)
include hw

theorem Device.engineFreed_windows (l : LaneId) (n : Fin 4) : d.windowsInFlight.Perm (w :: (d.engineFreed l n f).windowsInFlight) := by
  have hlists := d.modCtx_openList l n f
  refine List.perm_iff_count.mpr fun v => ?_
  rw [List.count_cons]
  unfold Device.windowsInFlight
  rw [show (d.engineFreed l n f).lane .a = (d.modCtx l n f).lane .a from rfl,
    show (d.engineFreed l n f).lane .b = (d.modCtx l n f).lane .b from rfl, hlists, hlists, hw]
  show _ = List.count v (_ ++ _ ++ d.closeQueue ++ []) + _
  simp only [List.count_append, Option.toList_some, List.count_singleton, List.count_nil]
  omega

variable (hc : c ∈ (d.lane w.lane).live) (hseq : c.seq = w.seq) (hnum : (f c).num = c.num) (hsame : (f c).seq = c.seq)
  (hslot : (f c).slot = c.slot) (hstate : (f c).state = c.state) (hreg : (f c).reg = c.reg) (hptr : (f c).pointer = c.pointer)
  (htag : (f c).firstTag = c.firstTag) (hacc : (f c).accounted = c.accounted + 1)
include hc hseq hnum hsame hslot hstate hreg hptr htag hacc

/-- The window under evaluation is counted in its panel and leaves the flight. -/
theorem JointsAccounted.engineFreed (hd : d.Booked) : JointsAccounted (d.engineFreed w.lane c.num f) := by
  have hwindows := Device.engineFreed_windows hw f w.lane c.num
  have hctx := hd.ctx hc
  have hlane : ∀ m, (d.engineFreed w.lane c.num f).lane m = (d.modCtx w.lane c.num f).lane m := fun _ => rfl
  have hlists : ∀ m, ((d.engineFreed w.lane c.num f).lane m).openList = (d.lane m).openList := d.modCtx_openList w.lane c.num f
  have hfly : ∀ m q, d.flying m q =
      (d.engineFreed w.lane c.num f).flying m q + if w.lane = m ∧ w.seq = q then 1 else 0 := fun m q => by
    rw [Device.flying, hwindows.countP_eq, List.countP_cons]
    simp only [decide_eq_true_eq]
    rfl
  have he : d.Recorded w.lane c.num (f c) (d.engineFreed w.lane c.num f) := by
    obtain ⟨hslots, hown, hother⟩ := Device.modCtx_recorded (hd.nums w.lane) hctx f
    exact ⟨hslots, hown, hother⟩
  have hunit : ∀ m, ((d.engineFreed w.lane c.num f).lane m).reg = (d.lane m).reg ∧
      ((d.engineFreed w.lane c.num f).lane m).motion = (d.lane m).motion := fun m => by
    rw [hlane, Device.modCtx_lane]
    split
    · next hm => rw [hm]; exact ⟨rfl, rfl⟩
    · exact ⟨rfl, rfl⟩
  refine .record (hd.nums w.lane) hctx he hd.joints hsame hslot (Nat.le_of_eq hptr.symm) (hd.joints.openSound.congr hlists)
    (fun m q hm => ?_) ?_ (he.registers (hd.nums w.lane) hctx hd.joints (fun m => by rw [(hunit m).1]) (fun m => by rw [(hunit m).2])
      fun _ _ _ => ⟨hnum, hslot, hstate, by rw [hreg], htag⟩) fun v hv => .inl ⟨v, hwindows.mem_iff.mpr (.tail _ hv), rfl⟩
  · rw [hfly, if_neg fun h => hm ⟨h.1.symm, h.2.symm.trans hseq.symm⟩]
    rfl
  · have hbal := hd.joints.balanced hc
    rw [hfly, if_pos ⟨rfl, hseq.symm⟩] at hbal
    exact hbal.counted hstate hreg hptr hacc

end

/-! ## The crop slot of a completed evaluation (R122) -/

/-- A window that has left the flight frees its crop slot. -/
theorem CropsAgree.freeLeft {d e : Device} (h : CropsAgree d) {w : Window} (windows : d.windowsInFlight.Perm (w :: e.windowsInFlight))
    (crops : e.crops = d.crops) (queue : e.cropQueue = d.cropQueue) : CropsAgree (e.freeCropOf w) := by
  have hwindows : (e.freeCropOf w).windowsInFlight = e.windowsInFlight :=
    Device.windowsInFlight_congr (fun m => by rw [Device.freeCropOf_lane]) (by simp) (by simp)
  refine h.release (gone := [w]) windows (.of_eq hwindows) ?_ (fun i => ?_) ?_
  · unfold Device.freeCropOf
    split <;> simp [Device.freeCrop, Device.modCrop, crops]
  · rw [Device.freeCropOf_crops, crops]
    simp
  · rw [Device.freeCropOf_cropQueue, queue]
    simp

theorem Device.holdCrop_crops_of (d : Device) (i j : Nat) : (d.holdCrop i).crops[j]? =
    if j = i then d.crops[j]?.map (fun x => { x with state := .held }) else d.crops[j]? := by
  split
  · next h => rw [h, Device.holdCrop_crops]
  · next h =>
    show (d.crops.modify i _)[j]? = _
    rw [List.getElem?_modify]
    simp [show ¬ i = j from fun hij => h hij.symm]

/-- A window that has left the flight leaves its crop slot Held. -/
theorem CropsAgree.holdLeft {d e : Device} (h : CropsAgree d) {w : Window} {i : Nat}
    (windows : d.windowsInFlight.Perm (w :: e.windowsInFlight)) (hi : w.crop = some i) (crops : e.crops = d.crops)
    (queue : e.cropQueue = d.cropQueue) : CropsAgree (e.holdCrop i) := by
  refine h.hold (e := e.holdCrop i) windows hi ?_ (fun j => ?_) (congrArg (· ++ [i]) queue)
  · rw [← crops]
    exact List.length_modify ..
  · rw [Device.holdCrop_crops_of, crops]

end Sys2Proof.Machine


/-! # Keeping the books: a completed evaluation, an item, Disable Lane, the outbound frames (R89, R108, R120, R144, R170) -/

namespace Sys2Proof.Machine

/-! ## The verdict reported (R108, R119 to R122) -/

theorem JointsAccounted.freeCropOf {d : Device} (h : JointsAccounted d) (w : Window) : JointsAccounted (d.freeCropOf w) :=
  h.of_lanes (d.freeCropOf_kept w).2.2.2 (by simp) (by simp) (d.freeCropOf_kept w).1

/-- A report queued holds the window's crop slot or frees it. -/
theorem Device.verdictReported_eq (d : Device) (c : Context) (w : Window) :
    (∃ i, w.crop = some i ∧ d.verdictReported c w = (d.verdictQueued c w).holdCrop i) ∨
      d.verdictReported c w = (d.verdictQueued c w).freeCropOf w := by
  unfold Device.verdictReported
  cases hcrop : w.crop with
  | none =>
    refine .inr ?_
    simp only [Device.freeCropOf, hcrop]
  | some i =>
    dsimp only
    split
    · exact .inl ⟨i, rfl, rfl⟩
    · refine .inr ?_
      simp only [Device.freeCropOf, hcrop]

section
variable {d : Device} {w : Window} {c : Context} (hw : d.evaluation = some w)
include hw

theorem Device.verdictQueued_windows : d.windowsInFlight.Perm (w :: (d.verdictQueued c w).windowsInFlight) :=
  Device.engineFreed_windows hw _ w.lane c.num

theorem Device.verdictDropped_windows : d.windowsInFlight.Perm (w :: (d.verdictDropped c w).windowsInFlight) := by
  refine (Device.engineFreed_windows hw (Context.countDropped (d.judgement c w).verdict w.injected) w.lane c.num).trans
    (.cons w (.of_eq (Device.windowsInFlight_congr (fun m => ?_) ?_ ?_)))
  · obtain ⟨ports, strobe, gate, hlane⟩ := ((d.engineFreed w.lane c.num
      (Context.countDropped (d.judgement c w).verdict w.injected)).raiseDevice .verdictLoss).fault_sameWork w.lane .verdictLoss m
    rw [Device.verdictDropped, hlane]
    rfl
  · simp [Device.verdictDropped]
  · simp [Device.verdictDropped]

/-- What a completed evaluation leaves of the books, before its panel is decided. -/
theorem Accounts.verdict (hc : c ∈ (d.lane w.lane).live) (hseq : c.seq = w.seq) :
    Accounts d (if reported (d.lane w.lane).reportMode (d.judgement c w).verdict then
      (d.verdictCounted c w).offerReport c w (d.judgement c w) else (d.verdictCounted c w).freeCropOf w) := by
  have kcounted : Keeps d (d.verdictCounted c w) :=
    .after (.setEvaluation _ _) (.modCtx d _ _ (by simp) (by simp) (by simp))
  obtain ⟨vseq, vreg, vptr, vtag, vacc⟩ := c.countVerdict_fields (d.judgement c w).verdict w.injected
  have hcounted : d.Booked → JointsAccounted (d.verdictCounted c w) := fun hd =>
    .engineFreed hw _ hc hseq (by simp) vseq (by simp) (by simp) vreg vptr vtag vacc hd
  have hdropped : d.Booked → JointsAccounted (d.verdictDropped c w) := fun hd => by
    refine (Books.after (.fault _ _ _) (.raiseDevice _ _)).joints (.engineFreed hw _ hc hseq ?_ ?_ ?_ ?_ ?_ ?_ ?_ ?_ hd)
    · exact Context.countDropped_num _ _ c
    · exact vseq
    · exact c.countVerdict_slot _ _
    · exact c.countVerdict_state _ _
    · exact vreg
    · exact vptr
    · exact vtag
    · exact vacc
  refine .ite (fun _ => .of_keeps (kcounted.trans (.offerReport _ c w _)) fun hd => ?_)
    fun _ => .of_keeps (kcounted.trans (.freeCropOf _ w)) fun hd =>
      ⟨(hcounted hd).freeCropOf w, hd.crops.freeLeft (Device.engineFreed_windows hw _ w.lane c.num) rfl rfl⟩
  rcases Nat.lt_or_ge d.trunk.verdicts.length 1024 with hroom | hfull
  · rw [Device.offerReport_of_room c w hroom]
    have hwindows := Device.verdictQueued_windows (c := c) hw
    have hcrops := d.verdictQueued_crops c w
    have hqueue := d.verdictQueued_cropQueue c w
    rcases d.verdictReported_eq c w with ⟨i, hi, heq⟩ | heq
    · rw [heq]
      exact ⟨(hcounted hd).of_lanes rfl rfl rfl rfl, hd.crops.holdLeft hwindows hi hcrops hqueue⟩
    · rw [heq]
      exact ⟨((hcounted hd).of_lanes rfl rfl rfl rfl : JointsAccounted (d.verdictQueued c w)).freeCropOf w,
        hd.crops.freeLeft hwindows hcrops hqueue⟩
  · rw [Device.offerReport_of_full c w hfull]
    exact ⟨(hdropped hd).freeCropOf w, hd.crops.freeLeft (Device.verdictDropped_windows hw) (d.verdictDropped_kept c w).2.1
      (by simp [Device.verdictDropped, Device.engineFreed, Device.modCtx])⟩

end

theorem Accounts.completeEvaluation (d : Device) : Accounts d d.completeEvaluation := by
  cases hw : d.evaluation with
  | none =>
    simp only [Device.completeEvaluation, hw]
    exact .refl d
  | some w =>
    refine .of_booked fun hd => ?_
    obtain ⟨y, hy, hyseq, -⟩ := hd.joints.owner ((d.mem_windowsInFlight w).mpr (.inr (.inr hw)))
    obtain ⟨c, hc⟩ := Option.isSome_iff_exists.mp
      (List.find?_isSome.mpr ⟨y, hy, decide_eq_true hyseq⟩ : ((d.lane w.lane).ctxOfSeq w.seq).isSome = true)
    rw [Device.completeEvaluation_of_ctx hw hc]
    exact .after (.tryDecide _ _ _) (.verdict hw (List.mem_of_find?_eq_some hc) (of_decide_eq_true (List.find?_some hc :)))

/-! ## An item (R88, R89) -/

theorem Accounts.handleItem (d : Device) (l : LaneId) (p : LocalPort) (x : Item) : Accounts d (d.handleItem l p x) := by
  have hfeed : ∀ e : Device, Accounts e (e.feedWindows l p x) := fun e => .of_books (.feedWindows e l p x) (.feedWindows e l p x)
  have hresolve : ∀ e : Device, Accounts e (e.resolveItem l p x) := fun e => .of_booked fun he =>
    .of_books (.resolveItem e l p x) (.resolveItem he.joints.openSound l p x)
  exact ((Accounts.registerItem d l p x).trans (hfeed _)).trans (hresolve _)

theorem Accounts.takeItem (d : Device) (l : LaneId) : Accounts d (d.takeItem l) := by
  unfold Device.takeItem
  split
  · exact .refl d
  · next p _ =>
    dsimp only
    split
    · exact .refl d
    · next x rest hfifo =>
      refine .after (.handleItem _ l p x) (.of_books (.after (.modLane _ l ?_) (.setPort d _ (fun ⟨ho, hf⟩ => ⟨ho, ?_⟩) id))
        (.after (.modLane _ l ⟨rfl, rfl, rfl, rfl⟩) (.setPort d _ _)))
      · exact .of_same rfl rfl rfl rfl rfl id id rfl rfl
      · rw [hfifo] at hf
        exact ((List.sublist_cons_self x rest).filter _).length_le.trans hf

theorem Accounts.takeEvaluation (d : Device) : Accounts d d.takeEvaluation := .of_books (.takeEvaluation d) (.takeEvaluation d)

/-! ## Outbound frames (R142, R143, R170) -/

/-- The contexts that retire from the retire order are Retiring, so each has counted every joint. -/
theorem Device.retireFrom_books (rs : List (LaneId × Fin 4)) (d : Device) (ho : LanesOrdered { d with retireOrder := rs })
    (hd : JointsAccounted d) (hc : CropsAgree d) : JointsAccounted (Device.retireFrom rs d) ∧ CropsAgree (Device.retireFrom rs d) := by
  induction rs generalizing d with
  | nil => exact ⟨hd.of_lanes rfl rfl rfl rfl, hc.of_same rfl rfl rfl⟩
  | cons r rest ih =>
    unfold Device.retireFrom
    split
    · obtain ⟨hne, hnodup⟩ := List.nodup_cons.mp ho.2.1
      obtain ⟨x, hx, hnum, hxs⟩ := ho.2.2 r List.mem_cons_self
      have hnums : ((d.lane r.1).live.map fun c => c.num).Nodup := (ho.1 r.1).1
      have hctx : (d.lane r.1).ctx r.2 = some x := hnum ▸ Lane.ctx_of_mem hnums hx
      have hall : x.accounted = d.jointCount x := (hd.balanced hx).2.2.2.2 (.inr hxs)
      refine ih _ ?_ (.retireNow hnums hctx hd (by simp [hxs]) hall) (hc.retireNow _ _)
      have hret : ∀ c ∈ (d.lane r.1).live, c.num = r.2 → c.state ≠ .scanning := fun c hc hn hcs => by
        rw [(ho.1 r.1).eq_of_num hc hx (hn.trans hnum.symm)] at hcs
        simp [hxs] at hcs
      have hnow := LanesOrdered.retireNow (l := r.1) (n := r.2) ho hret hnodup (fun x hx => List.mem_cons_of_mem _ hx) hne
      rwa [show ({ ({ d with retireOrder := r :: rest } : Device).retireNow r.1 r.2 with retireOrder := rest } : Device) =
        { d.retireNow r.1 r.2 with retireOrder := rest } from by
          unfold Device.retireNow
          simp only [show ({ d with retireOrder := r :: rest } : Device).lane r.1 = d.lane r.1 from rfl]
          cases (d.lane r.1).ctx r.2 <;> rfl] at hnow
    · exact ⟨hd.of_lanes rfl rfl rfl rfl, hc.of_same rfl rfl rfl⟩

theorem Accounts.sendPanelReport {d : Device} {r : PanelReport} {rest : List PanelReport} (hq : d.trunk.panelReports = r :: rest) :
    Accounts d (d.sendPanelReport r rest) := by
  refine .of_keeps (.sendPanelReport hq) fun hd => ?_
  have hbook := Books.modTrunk d fun t => { t.send .panelReport (panelReportPayload r) with panelReports := rest }
  exact Device.retireFrom_books _ _ hd.ordered (hbook.joints hd.joints) (hbook.cropsAgree hd.joints.openSound hd.crops)

/-- A slot at the head of the crop queue is Held, so no window holds it, and its freeing takes it from the queue. -/
theorem Accounts.freeCrop {d : Device} {i : Nat} (hi : i ∈ d.cropQueue) : Accounts d (d.freeCrop i) := by
  refine .of_keeps (.freeCrop d i) fun hd => ⟨hd.joints.of_lanes rfl rfl rfl rfl, ?_⟩
  obtain ⟨x, hx, hheld⟩ := (hd.crops.2.2.2.2.2 i).mp hi
  refine hd.crops.free (gone := []) (kept := d.windowsInFlight) (.refl _) (.refl _) (fun j => j = i) nofun (fun w hw j hj hji => ?_)
    (List.length_modify ..) (d.freeCrop_crops i) (List.filter_congr fun j _ => ?_)
  · obtain ⟨y, hy, hcap, -⟩ := hd.crops.2.2.2.1 w hw j hj
    rw [hji, hx, Option.some.injEq] at hy
    rw [← hy, hheld] at hcap
    cases hcap
  · simp

/-! ## Disable Lane (R102, R144) -/

theorem Device.laneDiscarded_lane (d : Device) (l m : LaneId) :
    (d.laneDiscarded l).lane m = if m = l then (d.lane l).disable else d.lane m := d.lane_modLane_of l m Lane.disable

theorem Device.laneDiscarded_windows {d : Device} (h : d.OpenSound) (l : LaneId) :
    (d.laneDiscarded l).windowsInFlight = d.windowsInFlight.filter fun w => decide (w.lane ≠ l) := by
  have hopen : ∀ m, ((d.laneDiscarded l).lane m).openList = (d.lane m).openList.filter fun w => decide (w.lane ≠ l) := fun m => by
    rw [Device.laneDiscarded_lane]
    split
    · next hm =>
      subst hm
      refine (List.filter_eq_nil_iff.mpr fun w hw => ?_).symm
      simp [(h m).1 w hw]
    · next hm =>
      refine (List.filter_eq_self.mpr fun w hw => ?_).symm
      simpa [(h m).1 w hw] using hm
  unfold Device.windowsInFlight
  rw [hopen, hopen, List.filter_append, List.filter_append, List.filter_append]
  have heval : (d.laneDiscarded l).evaluation.toList = d.evaluation.toList.filter fun w => decide (w.lane ≠ l) := by
    show (d.evaluation.filter _).toList = _
    cases d.evaluation with
    | none => rfl
    | some w => by_cases hw : w.lane = l <;> simp [hw, Option.filter]
  rw [heval]
  rfl

theorem JointsAccounted.laneDiscarded {d : Device} (hd : JointsAccounted d) (l : LaneId) : JointsAccounted (d.laneDiscarded l) := by
  have hlane := d.laneDiscarded_lane l
  have hwindows := Device.laneDiscarded_windows hd.openSound l
  refine .intro hd.1 (fun m => ?_) (fun m => ?_) (fun m => ?_) (fun m c hc => ?_) fun w hw => ?_
  · rw [hlane]
    split
    · exact List.nodup_nil
    · exact hd.seqs m
  · rw [hlane]
    split
    · exact ⟨nofun, List.nodup_nil⟩
    · exact hd.openSound m
  · rw [hlane]
    split
    · exact Lane.registersScanning_of_none rfl _
    · exact hd.registers m
  · rw [hlane] at hc
    split at hc
    · cases hc
    · next hm =>
      have hfly : (d.laneDiscarded l).flying m c.seq = d.flying m c.seq := by
        rw [Device.flying, hwindows, List.countP_filter]
        refine List.countP_congr fun w _ => ?_
        simp only [Bool.and_eq_true, decide_eq_true_eq]
        exact ⟨fun h => h.1, fun h => ⟨h, fun hl => hm (h.1.symm.trans hl)⟩⟩
      rw [hfly]
      exact hd.balanced hc
  · rw [hwindows, List.mem_filter, decide_eq_true_eq] at hw
    rw [hlane, if_neg hw.2]
    exact hd.owner hw.1

theorem CropsAgree.laneDiscarded {d : Device} (h : CropsAgree d) (hd : d.OpenSound) (l : LaneId) : CropsAgree (d.laneDiscarded l) := by
  have hwindows := Device.laneDiscarded_windows hd l
  obtain ⟨hcrops, hqueue⟩ := d.laneDiscarded_crops l
  have howned : ∀ w ∈ d.windowsInFlight, ∀ i, w.crop = some i →
      (((d.crops[i]?).any fun c => c.owner.any fun o => decide (o.lane = l)) = true ↔ w.lane = l) := fun w hw i hi => by
    obtain ⟨x, hx, -, o, ho, hol⟩ := h.2.2.2.1 w hw i hi
    rw [hx, ← hol]
    simp [ho]
  refine h.free (gone := d.windowsInFlight.filter fun w => decide (w.lane = l))
    (kept := d.windowsInFlight.filter fun w => decide (w.lane ≠ l)) ?_ (.of_eq hwindows)
    (fun i => ((d.crops[i]?).any fun c => c.owner.any fun o => decide (o.lane = l)) = true) (fun w hw i hi => ?_)
    (fun w hw i hi => ?_) (by rw [hcrops, List.length_map]) (fun i => ?_) ?_
  · refine (List.filter_append_perm (fun w : Window => decide (w.lane = l)) _).symm.trans (.append_left _ (.of_eq ?_))
    exact List.filter_congr fun w _ => by simp
  · obtain ⟨hmem, hl⟩ := List.mem_filter.mp hw
    exact (howned w hmem i hi).mpr (of_decide_eq_true hl)
  · obtain ⟨hmem, hl⟩ := List.mem_filter.mp hw
    exact fun hown => of_decide_eq_true hl ((howned w hmem i hi).mp hown)
  · rw [hcrops, List.getElem?_map]
    cases hx : d.crops[i]? with
    | none => simp
    | some x =>
      rw [Option.map_some, Option.map_some, Option.any_some, ← apply_ite some]
      exact congrArg some (by split <;> rfl)
  · rw [hqueue]
    exact List.filter_congr fun i _ => by simp

theorem Accounts.disableLane (d : Device) (l : LaneId) : Accounts d (d.disableLane l) := by
  refine .of_keeps (.disableLane d l) fun hd => ?_
  have hsound := hd.joints.openSound
  have hjoints := hd.joints.laneDiscarded l
  have hclear : ∀ e : Device, Books e (e.clearLaneConds l) := fun e => by
    unfold Device.clearLaneConds
    exact .updateConds e _
  have hbook : Books (d.laneDiscarded l) (d.disableLane l) := .after (hclear _) (.refillClose _)
  exact ⟨hbook.joints hjoints, hbook.cropsAgree hjoints.openSound (hd.crops.laneDiscarded hsound l)⟩

end Sys2Proof.Machine


/-! # Keeping the books: recipe slots, Enable Lane, the resets (chapter 1, R127, R161, R174 to R176) -/

namespace Sys2Proof.Machine

/-! ## Recipe slots (chapter 1) -/

/-- The books read of the recipe slots the referenced ones, and of the others that Sealed recipes end behind the deadline. -/
theorem JointsAccounted.of_slots {d e : Device} (hd : JointsAccounted d) (lanes : e.lanes = d.lanes)
    (closeQueue : e.closeQueue = d.closeQueue) (evaluation : e.evaluation = d.evaluation)
    (slots : ∀ i, d.referenced i = true → e.slot i = d.slot i)
    (deadline : ∀ i, (e.slot i).state = .sealed → (e.slot i).hdr.zone.toNat + 196 ≤ (e.slot i).hdr.panelLength.toNat) :
    JointsAccounted e := by
  have hlane : ∀ m, e.lane m = d.lane m := fun m => congrArg (PerLane.get · m) lanes
  have hwindows := Device.windowsInFlight_congr (d := d) (e := e) (fun m => by rw [hlane]) closeQueue evaluation
  have hslot : ∀ {m c}, c ∈ (d.lane m).live → e.slot c.slot = d.slot c.slot := fun {m c} hc =>
    slots c.slot ((d.referenced_iff c.slot).mpr ⟨m, .inr (.inr ⟨c, hc, rfl⟩)⟩)
  refine .intro deadline (fun m => by rw [hlane]; exact hd.seqs m) (hd.openSound.congr fun m => by rw [hlane])
    (fun m r hr => ?_) (fun m c hc => ?_) fun w hw => ?_
  · rw [hlane] at hr
    obtain ⟨c, hc, hnum, hs, hpending, hline⟩ := hd.registers m r hr
    rw [hlane]
    exact ⟨c, hc, hnum, hs, hpending, by rw [hslot hc]; exact hline⟩
  · rw [hlane] at hc
    rw [Device.flying_congr hwindows, Device.jointCount, hslot hc]
    exact hd.balanced hc
  · rw [hlane]
    exact hd.owner (hwindows ▸ hw)

/-- A recipe that passes validation ends behind its deadline (R13). -/
theorem zone_fits_of_validate {x : Slot} (h : validate x = none) : x.hdr.zone.toNat + 196 ≤ x.hdr.panelLength.toNat := by
  obtain ⟨hheader, -⟩ := rows_of_validate_none h
  have hfit := hheader (.zoneFit, none, decide (x.hdr.panelLength.toNat < x.hdr.zone.toNat + 196)) (by
    unfold headerRows
    exact List.mem_append_left _ (List.mem_append_left _ (.tail _ (.tail _ (.tail _ (.head _))))))
  exact Nat.not_lt.mp (of_decide_eq_false hfit)

section
variable {d : Device} {i : Fin 4} (href : d.referenced i = false) {x : Slot}
  (hx : x.state = .sealed → x.hdr.zone.toNat + 196 ≤ x.hdr.panelLength.toNat)
include href hx

/-- The slots after one that no lane names has changed. -/
theorem JointsAccounted.changedSlot (hd : JointsAccounted d) {e : Device} (lanes : e.lanes = d.lanes)
    (closeQueue : e.closeQueue = d.closeQueue) (evaluation : e.evaluation = d.evaluation)
    (slots : ∀ j, e.slot j = if j = i then x else d.slot j) : JointsAccounted e := by
  refine hd.of_slots lanes closeQueue evaluation (fun j hj => ?_) fun j hj => ?_
  · rw [slots, if_neg]
    rintro rfl
    rw [href] at hj
    cases hj
  · rw [slots] at hj ⊢
    split at hj
    · next hji => rw [if_pos hji]; exact hx hj
    · next hji => rw [if_neg hji]; exact hd.deadline hj

theorem Accounts.setSlot (hval : ReferencedSealed d → ∀ v, d.validation = some v → v.slot ≠ i) : Accounts d (d.setSlot i x) :=
  .of_keeps (.setSlot x href hval) fun hd =>
    ⟨hd.joints.changedSlot href hx rfl rfl rfl fun j => d.slot_setSlot i j x, hd.crops.of_same rfl rfl rfl⟩

end

theorem Accounts.reply (d : Device) (tag code : Byte) (oc : ReplyCode) (body : List Byte) : Accounts d (d.reply tag code oc body) :=
  .of_books (.reply d _ _ _ _) (.reply d _ _ _ _)

theorem Accounts.changeSlot (d : Device) (tag code slot : Byte) (inRange : Bool) {allowed : SlotState → Bool} {effect : Slot → Slot}
    (h : ∀ x : Slot, allowed x.state = true → (effect x).state ≠ .sealed) :
    Accounts d (d.changeSlot tag code slot inRange allowed effect) := by
  unfold Device.changeSlot
  split
  · next i _ _ =>
    split
    · exact .reply d _ _ _ _
    · next hnone =>
      obtain ⟨href, hallowed, hstate⟩ := Device.slotRefusal_eq_none hnone
      refine .after (.reply _ _ _ _ _) (.setSlot href (fun hs => absurd hs (h _ hallowed)) fun hd v hv hvi => ?_)
      exact hstate rfl (hvi ▸ hd.2 v hv)
  · exact .reply d _ _ _ _

theorem Accounts.takeSealSlot (tag slot : Byte) (d : Device) : Accounts d (takeSealSlot tag slot d) := by
  refine .of_keeps (.takeSealSlot tag slot d) fun hd => ?_
  have hreply : ∀ (oc : ReplyCode) (body : List Byte), JointsAccounted (d.reply tag 0x15 oc body) ∧ CropsAgree (d.reply tag 0x15 oc body) :=
    fun oc body => ⟨hd.joints.of_lanes rfl rfl rfl rfl, hd.crops.of_same rfl rfl rfl⟩
  unfold Machine.takeSealSlot
  split
  · exact hreply _ _
  · next i _ =>
    split
    · exact hreply _ _
    · next hnone =>
      obtain ⟨href, -, -⟩ := Device.slotRefusal_eq_none hnone
      split
      · exact hreply _ _
      · exact ⟨hd.joints.changedSlot (x := { d.slot i with state := .validating }) href nofun rfl rfl rfl
          fun j => d.slot_setSlot i j _, hd.crops.of_same rfl rfl rfl⟩

/-- The slot under validation is named by no lane (R17). -/
theorem Device.Booked.validating_free {d : Device} (hd : d.Booked) {v : Validation} (hv : d.validation = some v) :
    d.referenced v.slot = false := by
  cases href : d.referenced v.slot with
  | false => rfl
  | true =>
    have hsealed := hd.referenced.1 v.slot href
    rw [hd.referenced.2 v hv] at hsealed
    cases hsealed

theorem Accounts.endValidation {d : Device} {v : Validation} (hv : d.validation = some v) {x : Slot}
    (hx : x.state = .sealed → x.hdr.zone.toNat + 196 ≤ x.hdr.panelLength.toNat) :
    Accounts d (({ d with validation := none } : Device).setSlot v.slot x) :=
  .of_keeps (.endValidation hv x) fun hd =>
    ⟨hd.joints.changedSlot (hd.validating_free hv) hx rfl rfl rfl fun j => d.slot_setSlot v.slot j x, hd.crops.of_same rfl rfl rfl⟩

theorem Accounts.validationEnds (d : Device) : Accounts d d.validationEnds := by
  unfold Device.validationEnds
  split
  · exact .refl d
  · next v hv =>
    dsimp only
    split
    · next hnone => exact .after (.reply _ _ _ _ _) (.endValidation hv fun _ => zone_fits_of_validate hnone)
    · exact .after (.reply _ _ _ _ _) (.endValidation hv nofun)

theorem Accounts.dropValidation (d : Device) : Accounts d { d with validation := none } :=
  .of_keeps (.dropValidation d) fun hd => ⟨hd.joints.of_lanes rfl rfl rfl rfl, hd.crops.of_same rfl rfl rfl⟩

theorem Accounts.takeEraseSlot (tag slot : Byte) (d : Device) : Accounts d (takeEraseSlot tag slot d) := by
  unfold Machine.takeEraseSlot
  split
  · exact .reply d _ _ _ _
  · next i _ =>
    split
    · exact .reply d _ _ _ _
    · next hnone =>
      obtain ⟨href, -, -⟩ := Device.slotRefusal_eq_none hnone
      have hempty : Slot.empty.state = .sealed → Slot.empty.hdr.zone.toNat + 196 ≤ Slot.empty.hdr.panelLength.toNat := nofun
      refine .after (.reply _ _ _ _ _) ?_
      unfold Device.abortValidation
      split
      · next hidle => exact .setSlot href hempty (by simp [hidle])
      · next v hv =>
        split
        · refine .after (.setSlot ?_ hempty ?_) (.after (.reply _ _ _ _ _) (.dropValidation d))
          · exact href
          · simp [Device.reply]
        · next hother =>
          refine .setSlot href hempty fun _ w hw => ?_
          cases hv.symm.trans hw
          exact hother

/-! ## Enable Lane (R28, R127) -/

/-- A lane that is not Scanning has no panel under registration. -/
theorem Device.Booked.reg_none {d : Device} (hd : d.Booked) {l : LaneId} (hmode : (d.lane l).mode ≠ .scanning) :
    (d.lane l).reg = none := by
  cases hr : (d.lane l).reg with
  | none => rfl
  | some r =>
    obtain ⟨c, hc, -, hs, -⟩ := hd.joints.registers l r hr
    exact absurd hs ((hd.ordered.1 l).none_scanning hmode c hc)

theorem Accounts.enable {d : Device} {l : LaneId} (hoff : (d.lane l).mode = .off) : Accounts d (d.modLane l Lane.enable) := by
  refine .of_keeps (.modLane d l (.enable hoff)) fun hd => ?_
  have hreg : (d.lane l).reg = none := hd.reg_none (by simp [hoff])
  refine ⟨hd.joints.freeUnit l rfl rfl hreg, ?_⟩
  refine hd.crops.of_same (Device.windowsInFlight_congr (fun m => ?_) rfl rfl) rfl rfl
  rw [Device.lane_modLane_of]
  split
  · next hm => rw [hm]; rfl
  · rfl

theorem Accounts.onLane (d : Device) (tag code lane : Byte) {f : LaneId → Device} (h : ∀ l, Accounts d (f l)) :
    Accounts d (d.onLane tag code lane f) := by
  unfold Device.onLane
  split
  · exact .reply d _ _ _ _
  · exact h _

theorem Accounts.takeEnableLane (tag lane : Byte) (d : Device) : Accounts d (takeEnableLane tag lane d) :=
  .onLane d _ _ _ fun _ => .ite (fun hoff => .after (.reply _ _ _ _ _) (.enable hoff)) fun _ => .reply d _ _ _ _

theorem Accounts.takeDisableLane (tag lane : Byte) (d : Device) : Accounts d (takeDisableLane tag lane d) :=
  .onLane d _ _ _ fun l => .after (.reply _ _ _ _ _) (.disableLane d l)

/-! ## The resets (R161, R174 to R176) -/

theorem Device.atPowerOn_blank (low sd : Bool) (sds : PerLane (PerPort Bool)) (n : Nat) : (Device.atPowerOn low sd sds n).Blank where
  slots i := by fin_cases i <;> rfl
  live l := by rw [Device.atPowerOn_lane]; rfl
  openList l := by rw [Device.atPowerOn_lane]; rfl
  reg l := by rw [Device.atPowerOn_lane]; rfl
  closeQueue := rfl
  evaluation := rfl
  crops := rfl
  cropQueue := rfl

/-- A part that came from a blank one by changes that leave the books has every law. -/
theorem Accounts.of_blank {b d : Device} (hb : b.Blank) (h : Books b d) (hd : d.Sound) (e : Device) : Accounts e d :=
  .of_keeps (hd e) fun _ => ⟨h.joints hb.jointsAccounted, h.cropsAgree hb.jointsAccounted.openSound hb.cropsAgree⟩

theorem Books.raiseResetConds (d : Device) : Books d d.raiseResetConds := by
  have hwake : ∀ (d : Device) p, Books d (d.wakePort p) := fun d p =>
    .after (.raise _ _ _) (.ite (fun _ => .refl d) fun _ => .onStream d p _)
  exact .after (.foldl hwake _ _) (.raiseDevice d _)

theorem Accounts.powersOn (d : Device) : Accounts d d.powersOn :=
  .ite (fun _ => .of_blank (Device.atPowerOn_blank _ _ _ _) (.refl _) (Device.atPowerOn_sound _ _ _ _) d)
    fun _ => .of_blank (Device.atPowerOn_blank _ _ _ _) (.raiseResetConds _)
      ((Device.atPowerOn_sound _ _ _ _).keeps (.raiseResetConds _)) d

theorem Accounts.resetFalls (d : Device) : Accounts d d.resetFalls :=
  .of_blank (Device.atPowerOn_blank _ _ _ _) (.refl _) (Device.atPowerOn_sound _ _ _ _) d

theorem Accounts.resetRises (d : Device) : Accounts d d.resetRises :=
  .of_blank (Device.atPowerOn_blank _ _ _ _) (.after (.raiseResetConds _) (.modTrunk _ _))
    ((Device.atPowerOn_sound _ _ _ _).keeps (.after (.raiseResetConds _) (.modTrunk _ rfl rfl))) d

theorem Accounts.takeResetDevice (tag : Byte) (d : Device) : Accounts d (takeResetDevice tag d) :=
  .of_blank (Device.atPowerOn_blank _ _ _ _) (.after (.reply _ _ _ _ _) (.after (.raiseResetConds _) (.modTrunk _ _)))
    ((Device.atPowerOn_sound _ _ _ _).keeps (.after (.reply _ _ _ _ _) (.after (.raiseResetConds _) (.modTrunk _ rfl rfl)))) d

end Sys2Proof.Machine


/-! # Every step keeps the books (O30) -/

namespace Sys2Proof.Machine

/-! ## Orders at the decoder (R166, R167) -/

theorem Accounts.modTrunk (d : Device) {f : Trunk → Trunk} (verdicts : (f d.trunk).verdicts = d.trunk.verdicts)
    (panelReports : (f d.trunk).panelReports = d.trunk.panelReports) : Accounts d (d.modTrunk f) :=
  .of_books (.modTrunk d verdicts panelReports) (.modTrunk d f)

theorem Accounts.raiseDevice (d : Device) (c : DeviceCond) : Accounts d (d.raiseDevice c) :=
  .of_books (.raiseDevice d c) (.raiseDevice d c)

theorem Accounts.settleStall (d : Device) : Accounts d d.settleStall := .of_books (.settleStall d) (.settleStall d)

theorem Accounts.takeOrder (tag : Byte) (o : Order) (d : Device) : Accounts d (takeOrder tag o d) := by
  unfold Machine.takeOrder
  cases o with
  | openSlot => exact .changeSlot d tag _ _ _ fun _ _ => nofun
  | writeHeader | writeFiducials | writeJoints | writeRules =>
    refine .changeSlot d tag _ _ _ fun x hx hs => ?_
    rw [isLoading, show x.state = .sealed from hs] at hx
    cases hx
  | unsealSlot => exact .changeSlot d tag _ _ _ fun _ _ => nofun
  | sealSlot slot => exact .takeSealSlot tag slot d
  | eraseSlot slot => exact .takeEraseSlot tag slot d
  | readSlot slot =>
    show Accounts d (takeReadSlot tag slot d)
    unfold takeReadSlot
    split <;> exact .reply d _ _ _ _
  | readFiducials | readJoints | readRules => exact .of_books (.readEntries d tag _ _ _ _) (.readEntries d tag _ _ _ _)
  | bindRecipe lane slot => exact .of_books (.takeBindRecipe tag lane slot d) (.takeBindRecipe tag lane slot d)
  | configureLane lane x => exact .of_books (.takeConfigureLane tag lane x d) (.takeConfigureLane tag lane x d)
  | configurePort port noise check =>
    exact .of_books (.takeConfigurePort tag port noise check d) (.takeConfigurePort tag port noise check d)
  | loadPattern port offset count px =>
    exact .of_books (.takeLoadPattern tag port offset count px d) (.takeLoadPattern tag port offset count px d)
  | readPattern port offset count =>
    exact .of_books (.takeReadPattern tag port offset count d) (.takeReadPattern tag port offset count d)
  | setInjection port mode n => exact .of_books (.takeSetInjection tag port mode n d) (.takeSetInjection tag port mode n d)
  | readPort port => exact .of_books (.takeReadPort tag port d) (.takeReadPort tag port d)
  | readWindows lane start count =>
    exact .of_books (.takeReadWindows tag lane start count d) (.takeReadWindows tag lane start count d)
  | setReportMode lane mode detail =>
    exact .of_books (.takeSetReportMode tag lane mode detail d) (.takeSetReportMode tag lane mode detail d)
  | enableLane lane => exact .takeEnableLane tag lane d
  | armLane lane => exact .of_books (.takeArmLane tag lane d) (.takeArmLane tag lane d)
  | disableLane lane => exact .takeDisableLane tag lane d
  | readLane lane | readGate lane => exact .onLane d _ _ _ fun _ => .reply d _ _ _ _
  | readPanel lane context => exact .of_books (.takeReadPanel tag lane context d) (.takeReadPanel tag lane context d)
  | setGateMode lane mode => exact .of_books (.takeSetGateMode tag lane mode d) (.takeSetGateMode tag lane mode d)
  | setFaultResponse lane kind override hold =>
    exact .of_books (.takeSetFaultResponse tag lane kind override hold d) (.takeSetFaultResponse tag lane kind override hold d)
  | releaseForce lane => exact .of_books (.takeReleaseForce tag lane d) (.takeReleaseForce tag lane d)
  | resetDevice => exact .takeResetDevice tag d
  | configureDevice limit => exact .of_books (.takeConfigureDevice tag limit d) (.takeConfigureDevice tag limit d)
  | readConditions set => exact .of_books (.takeReadConditions tag set d) (.takeReadConditions tag set d)
  | clearConditions set list => exact .of_books (.takeClearConditions tag set list d) (.takeClearConditions tag set list d)
  | setMask set list => exact .of_books (.takeSetMask tag set list d) (.takeSetMask tag set list d)
  | readJudgement | identify | readTrunk | malformed | unknown => exact .reply d _ _ _ _

theorem Accounts.arrive (d : Device) (tag : Byte) (o : Order) : Accounts d (d.arrive tag o (Machine.takeOrder tag o)) :=
  .ite (fun _ => .takeOrder tag o d) fun _ => .ite (fun _ => .modTrunk d rfl rfl) fun _ => .raiseDevice d _

theorem Accounts.decodeNext (d : Device) : Accounts d d.decodeNext := by
  unfold Device.decodeNext
  split
  · exact .refl d
  · exact .ite (fun _ => .after (.takeOrder _ _ _) (.modTrunk d rfl rfl)) fun _ => .refl d

theorem Accounts.orderArrives (d : Device) (tag code : Byte) (params : List Byte) : Accounts d (d.orderArrives tag code params) :=
  .arrive d _ _

/-! ## Inbound frames and the link (R162 to R166) -/

theorem Accounts.discardFrame (d : Device) (rx : Option (List Byte)) : Accounts d (d.discardFrame rx) :=
  .after (.raiseDevice _ _) (.modTrunk d rfl rfl)

theorem Accounts.grantCredit (d : Device) (grant : Byte) : Accounts d (d.grantCredit grant) := .modTrunk d rfl rfl

theorem Accounts.acceptFrame (d : Device) (kind : Byte) (payload : List Byte) : Accounts d (d.acceptFrame kind payload) := by
  refine .ite (fun _ => .grantCredit d _) fun _ => ?_
  split
  · exact .orderArrives d _ _ _
  · exact .refl d

theorem Accounts.endFrame (d : Device) (kind : Byte) (body check : List Byte) : Accounts d (d.endFrame kind body check) :=
  .ite (fun _ => .after (.acceptFrame _ _ _) (.modTrunk d rfl rfl)) fun _ => .discardFrame d _

theorem Accounts.rxByte (d : Device) (b : Byte) : Accounts d (d.rxByte b) := by
  unfold Device.rxByte
  split
  · exact .refl d
  · dsimp only
    split
    · exact .ite (fun _ => .modTrunk d rfl rfl) fun _ => .discardFrame d _
    · exact .modTrunk d rfl rfl
    · exact .ite (fun _ => .discardFrame d _) fun _ =>
        .ite (fun _ => .endFrame d _ _ _) fun _ => .modTrunk d rfl rfl
    · exact .refl d

theorem Accounts.rxWord (d : Device) (w : LinkWord) : Accounts d (d.rxWord w) := by
  cases w with
  | sync => exact .ite (fun _ => .discardFrame d _) fun _ => .refl d
  | delimiter => exact .ite (fun _ => .discardFrame d _) fun _ => .modTrunk d rfl rfl
  | data b => exact .rxByte d b

theorem Accounts.trunkWord (d : Device) (w : LinkWord) : Accounts d (d.trunkWord w) := by
  unfold Device.trunkWord
  split
  · exact .refl d
  · exact .modTrunk d (Trunk.trainWord_queues _ w).1 (Trunk.trainWord_queues _ w).2
  · exact .rxWord d w

theorem Accounts.breakOpen (d : Device) : Accounts d d.breakOpen :=
  .ite (fun _ => .after (.settleStall _) (.discardFrame d _)) fun _ => .refl d

theorem Accounts.frameComes (d : Device) (run : Nat) {f : Device → Device} (h : Accounts d (f d)) :
    Accounts d (d.frameComes run f) := by
  unfold Device.frameComes
  split
  · exact h
  · exact .modTrunk d rfl rfl
  · exact .refl d

theorem Accounts.orderFrame (tag code : Byte) (params : List Byte) (d : Device) :
    Accounts d (Device.orderFrame tag code params d) :=
  .ite (fun _ => .after (.orderArrives _ _ _ _) (.breakOpen d)) fun _ => .after (.discardFrame _ _) (.breakOpen d)

theorem Books.setTrkSd (d : Device) (level : Bool) : Books d { d with trkSd := level } :=
  .of_lanes (fun _ => .refl _) rfl rfl rfl rfl rfl

theorem Accounts.trkSdFalls (d : Device) : Accounts d d.trkSdFalls :=
  .of_books (.trkSdFalls d) (.ite (fun _ => .setTrkSd d _) fun _ => .after (.modTrunk _ _) (.setTrkSd d false))

theorem Accounts.trkSdRises (d : Device) : Accounts d d.trkSdRises :=
  .of_books (.trkSdRises d) (.ite (fun _ => .setTrkSd d _) fun _ =>
    .ite (fun _ => .after (.modTrunk _ _) (.setTrkSd d true)) fun _ => .setTrkSd d _)

/-! ## Outbound frames (R169, R170) -/

theorem Accounts.sendReply (d : Device) (r : Reply) (rest : List Reply) : Accounts d (d.sendReply r rest) :=
  .after (.decodeNext _) (.after (.settleStall _) (.modTrunk d rfl rfl))

theorem Accounts.sendNotice {d : Device} {i : SetId} {rest : List SetId} (hq : d.cond.noticeQueue = i :: rest) :
    Accounts d (d.sendNotice i rest) :=
  .of_books (.sendNotice hq) (.of_lanes (fun _ => .refl _) rfl rfl rfl rfl rfl)

theorem Accounts.sendVerdict {d : Device} {r : VerdictReport} {rest : List VerdictReport} (hq : d.trunk.verdicts = r :: rest) :
    Accounts d (d.sendVerdict r rest) := .of_books (.sendVerdict hq) (.modTrunk d _)

theorem Accounts.beginFrame (d : Device) : Accounts d d.beginFrame := by
  refine .ite (fun _ => ?_) fun _ => .refl d
  unfold Device.sendNext
  split
  · exact .sendReply d _ _
  · exact .sendNotice ‹_›
  · exact .sendPanelReport ‹_›
  · exact .sendVerdict ‹_›
  · next i rest _ _ _ _ hq =>
    refine .after (.freeCrop ?_) (.modTrunk d rfl rfl)
    exact hq ▸ List.mem_cons_self
  · exact .refl d

/-! ## Every step -/

theorem Accounts.event_at {f : Device → Device} {s t : State} (h : Accounts s.dev (f s.dev)) (ht : event f s = .next t) :
    Accounts s.dev t.dev := by
  cases ht
  exact .ite (fun _ => .refl _) fun _ => .after (.settleStall _) h

theorem Accounts.event {f : Device → Device} {s t : State} (h : ∀ d, Accounts d (f d)) (ht : event f s = .next t) :
    Accounts s.dev t.dev := .event_at (h _) ht

theorem Accounts.pinEvent {f : Device → Device} {s t : State} (h : ∀ d, Accounts d (f d)) (ht : pinEvent f s = .next t) :
    Accounts s.dev t.dev := by
  cases ht
  exact .after (.settleStall _) (h _)

theorem Accounts.exec {i : Instr} {s t : State} (ht : exec i s = .next t) (hfresh : NumbersFresh s.dev) : Accounts s.dev t.dev := by
  cases i with
  | powerOn => exact .pinEvent .powersOn ht
  | resetPinAssert => exact .pinEvent .resetFalls ht
  | resetPinRelease => exact .pinEvent .resetRises ht
  | camSdInactive p => exact .pinEvent (fun d => .of_books (.camSdFalls d p) (.camSdFalls d p)) ht
  | camSdActive p => exact .pinEvent (fun d => .of_books (.camSdRises d p) (.camSdRises d p)) ht
  | trkSdInactive => exact .pinEvent .trkSdFalls ht
  | trkSdActive => exact .pinEvent .trkSdRises ht
  | validationComplete => exact .event .validationEnds ht
  | encoderForwardCount l => exact .event (.forwardCount · l) ht
  | encoderReverseCount l => exact .event (.reverseCount · l) ht
  | edgeRise l => exact .event_at (f := (Device.edgeRises · l)) (.edgeRises hfresh l) ht
  | flashEnd l => exact .event (fun d => .of_books (.flashEnds d l) (.flashEnds d l)) ht
  | settleExpiry l => exact .event (fun d => .of_books (.settleExpires d l) (.settleExpires d l)) ht
  | warmupExpiry l => exact .event (fun d => .of_books (.warmupExpires d l) (.warmupExpires d l)) ht
  | idleTimerExpiry l => exact .event (fun d => .of_books (.idleExpires d l) (.idleExpires d l)) ht
  | fillWord p | startWord p | dataWord p | endWord p | violationWord p =>
    exact .event (fun d => .of_books (.camWord d p _) (.camWord d p _)) ht
  | itemTake l => exact .event (.takeItem · l) ht
  | evaluationTake => exact .event .takeEvaluation ht
  | evaluationComplete => exact .event .completeEvaluation ht
  | trainingWord w => exact .event (.trunkWord · w) ht
  | frameError damage => exact .event (fun d => .frameComes d _ (.discardFrame d _)) ht
  | creditFrame grant => exact .event (fun d => .frameComes d _ (.after (.grantCredit _ grant) (.breakOpen d))) ht
  | orderFrame tag code params => exact .event (fun d => .frameComes d _ (.orderFrame tag code params d)) ht
  | unknownOrder tag code => exact .event (.orderArrives · tag code []) ht
  | frameBegin => exact .event .beginFrame ht
  | frameComplete => exact .event (fun d => .modTrunk d rfl rfl) ht
  | stallTimerExpiry => exact .event (fun d => .of_books (.stallExpires d) (.stallExpires d)) ht
  | openSlot | writeHeader | writeFiducials | writeJoints | writeRules | sealSlot | unsealSlot | eraseSlot | readSlot
  | readFiducials | readJoints | readRules | bindRecipe | configureLane | enableLane | armLane | disableLane | readLane
  | readPanel | configurePort | loadPattern | readPattern | setInjection | readPort | setReportMode | readJudgement
  | readWindows | setGateMode | setFaultResponse | releaseForce | readGate | identify | readTrunk | configureDevice
  | resetDevice | readConditions | clearConditions | setMask => exact .event (fun d => .arrive d _ _) ht

theorem Accounts.step {s t : State} (ht : step s = .next t) (hfresh : NumbersFresh s.dev) : Accounts s.dev t.dev := by
  unfold Machine.step at ht
  split at ht
  · exact .event (fun d => .of_books (.tick d) (.tick d)) ht
  · exact (Accounts.exec ht hfresh :)

/-! ## The obligation -/

/-- Settles O30, by `Keeps.step` for the pixels, by what a live context owes (`JointsAccounted.balanced`) for the joint count, and
by `Accounts.step` for the books. -/
theorem pixelsStayCanonical : Obligations.PixelsStayCanonical := by
  refine ⟨fun _ _ h ht => (Keeps.step ht).pixels h, fun d l c hd hc => ?_, fun s t ho hr hfresh hj hcrops ht => ?_⟩
  · obtain ⟨hle, hsum, -⟩ := hd.balanced hc
    have hfly : (d.windowsInFlight.filter fun w => decide (w.lane = l ∧ w.seq = c.seq)).length = d.flying l c.seq :=
      List.countP_eq_length_filter.symm
    rw [hfly]
    show d.jointCount c = (d.jointCount c - c.pointer) + d.flying l c.seq + c.accounted
    omega
  · have ht' := Accounts.step ht hfresh ⟨ho, hr, hj, hcrops⟩
    exact ⟨ht'.joints, ht'.crops⟩

end Sys2Proof.Machine
